-- ==== Sys2Proof/Word.lean ====
section
/-!
DEFINITION. The numbers and small tables of the Menhal 3216: bytes, the millisecond count, the index types of
stations, points, conditions and outputs, and `Tab`, a table of a fixed number of like things.
-/

namespace Sys2Proof

/-- A byte of a frame, of the image, of the supervisor registers or of TXD. -/
abbrev Byte := BitVec 8

/-- The station's millisecond count, which wraps after 2^32 ms (00_scope.md, Conventions: Time). -/
abbrev Ms := BitVec 32

/-- A station number 0–31. Arithmetic on it is modulo 32, as the slot ranks of R125 need. -/
abbrev Station := Fin 32

/-- A point index P0–P15, which is also the number of its input line. -/
abbrev PointIx := Fin 16

/-- A condition index C0–C7. -/
abbrev CondIx := Fin 8

/-- A pair of input lines: pair n is lines 2n and 2n+1 (R27). -/
abbrev PairIx := Fin 8

/-- An output line O0–O11. -/
abbrev OutIx := Fin 12

/-- A place in the acknowledge request table of 8 entries (R81). -/
abbrev ReqIx := Fin 8

/-- A condition's generation, 0–15, which advances modulo 16 (R59). -/
abbrev Gen := Fin 16

/-- A template number 0–3 (R184). -/
abbrev TemplateIx := Fin 4

/-- A STATE sequence number, 0–255, which advances modulo 256 (R112). -/
abbrev Seq := BitVec 8

/-- A table of exactly `n` entries: a list with the proof of its length, so that no entry can be missing. -/
structure Tab (n : Nat) (α : Type) where
  list : List α
  size : list.length = n
  deriving DecidableEq, Repr

/-- The entry at an index. -/
def Tab.get {n : Nat} {α : Type} (t : Tab n α) (i : Fin n) : α :=
  t.list[i.val]'(by have h := t.size; omega)

/-- The table with one entry replaced. -/
def Tab.set {n : Nat} {α : Type} (t : Tab n α) (i : Fin n) (x : α) : Tab n α :=
  ⟨t.list.set i.val x, by simp [t.size]⟩

/-- The table with one entry changed by a function. -/
def Tab.modify {n : Nat} {α : Type} (t : Tab n α) (i : Fin n) (f : α → α) : Tab n α :=
  t.set i (f (t.get i))

/-- The table that holds the same entry everywhere. -/
def Tab.fill (n : Nat) {α : Type} (x : α) : Tab n α :=
  ⟨List.replicate n x, by simp⟩

/-- The table whose entry at each index is a function of the index. -/
def Tab.build {n : Nat} {α : Type} (f : Fin n → α) : Tab n α :=
  ⟨List.ofFn f, by simp⟩

/-- Every index below `n`, in rising order: C0 to C7, P0 to P15, station 0 to 31. -/
def indices (n : Nat) : List (Fin n) :=
  List.ofFn (fun i => i)

@[ext] theorem Tab.ext {n : Nat} {α : Type} {s t : Tab n α} (h : ∀ i, s.get i = t.get i) : s = t := by
  obtain ⟨l, hl⟩ := s
  obtain ⟨m, hm⟩ := t
  have : l = m := by
    apply List.ext_getElem (by omega)
    intro k h1 h2
    exact h ⟨k, by omega⟩
  subst this
  rfl

@[simp] theorem Tab.get_fill {n : Nat} {α : Type} (x : α) (i : Fin n) : (Tab.fill n x).get i = x := by
  simp [Tab.get, Tab.fill]

@[simp] theorem Tab.get_build {n : Nat} {α : Type} (f : Fin n → α) (i : Fin n) : (Tab.build f).get i = f i := by
  simp [Tab.get, Tab.build]

theorem Tab.get_set {n : Nat} {α : Type} (t : Tab n α) (i j : Fin n) (x : α) :
    (t.set i x).get j = if i = j then x else t.get j := by
  simp [Tab.get, Tab.set, List.getElem_set, Fin.ext_iff]

@[simp] theorem Tab.get_set_same {n : Nat} {α : Type} (t : Tab n α) (i : Fin n) (x : α) :
    (t.set i x).get i = x := by
  simp [Tab.get_set]

theorem Tab.get_set_other {n : Nat} {α : Type} (t : Tab n α) {i j : Fin n} (x : α) (h : i ≠ j) :
    (t.set i x).get j = t.get j := by
  simp [Tab.get_set, h]

theorem Tab.get_modify {n : Nat} {α : Type} (t : Tab n α) (i j : Fin n) (f : α → α) :
    (t.modify i f).get j = if i = j then f (t.get j) else t.get j := by
  by_cases h : i = j
  · subst h; simp [Tab.modify]
  · simp [Tab.modify, Tab.get_set, h]

@[simp] theorem Tab.set_get {n : Nat} {α : Type} (t : Tab n α) (i : Fin n) : t.set i (t.get i) = t := by
  apply Tab.ext
  intro j
  by_cases h : i = j
  · subst h; simp
  · simp [Tab.get_set, h]

@[simp] theorem mem_indices {n : Nat} (i : Fin n) : i ∈ indices n := by
  simp [indices]

end Sys2Proof
end

