-- ==== Sys2Proof/Config.lean ====
section
/-!
DEFINITION. What the manual leaves to the machine itself: the one free value of the model, the random choice of the
withdraw timer's duration (R151). It has no body, so nothing can be proved about which number is drawn.
-/

namespace Sys2Proof

/-- FREE VALUE (log entry 1). The n-th random number the station draws. R151 uses it, reduced to the range 0–P, to
choose a withdraw duration from 2P to 3P; the manual says only that each choice is drawn with equal likelihood. -/
opaque Config.withdrawDraw : Nat → Nat

/-- The I2C target address of the supervisor port (R177). -/
def Config.portAddress : BitVec 7 := 0x5A

end Sys2Proof
end

