-- ==== Sys2Proof/Syntax.lean ====
section
/-!
DEFINITION. The commands of the Menhal 3216: one constructor per row of spec/opcode_table.json, each with the operands
its rule speaks of. The table gives the rows no fields, so the operands are the model's (log entry 2).
-/

namespace Sys2Proof

/-- A level of the peer line during one bit time (R116). -/
inductive Level where
  | dominant
  | recessive
  deriving DecidableEq, Repr

/-- The three operator control inputs (R33). -/
inductive Control where
  | ack
  | silence
  | test
  deriving DecidableEq, Repr

/-- Where the configuration image comes from, as the CFGSRC strap says (R138). -/
inductive ImageSource where
  | memory
  | supervisor
  deriving DecidableEq, Repr

/-- One part of an I2C read transaction (R177, R178): its start, with the address it names and the number of bytes
sent before the next event is taken; further bytes of the read in progress; or the stop condition that ends it. `acked`
says whether the controller acknowledged the last of those bytes; it acknowledges every byte before the last. -/
inductive ReadPart where
  | start (address : BitVec 7) (count : Nat) (acked : Bool)
  | more (count : Nat) (acked : Bool)
  | stop
  deriving DecidableEq, Repr

/-- One part of the read of the serial memory (R141): the level of SDI, high or low, at each of the next edges of SCK, as
far as they have come when the next event is taken; or all the edges that the read still takes, with SDI high, the ones
of a memory that is absent or has ended, at every edge past the levels given. -/
inductive MemoryPart where
  | next (sdi : List Bool)
  | rest (sdi : List Bool)
  deriving DecidableEq, Repr

/-- The commands the block takes, in the order of spec/opcode_table.json. -/
inductive Instr where
  /-- RESET (R140). -/
  | reset
  /-- LEAVE_RESET (R140): the station number on STN4–STN0 and the source on CFGSRC. -/
  | leaveReset (stn : Station) (source : ImageSource)
  /-- MEMORY_READ_END (R141): the part of the read that brings its end nearer or to it. -/
  | memoryReadEnd (part : MemoryPart)
  /-- IMAGE_CHECK_END (R143). -/
  | imageCheckEnd
  /-- INPUT_LEVEL_CHANGE (R24): the line and whether it is now active. -/
  | inputLevelChange (line : PointIx) (active : Bool)
  /-- DEBOUNCE_EXPIRY (R24): the line whose timer expires. -/
  | debounceExpiry (line : PointIx)
  /-- PAIR_TIMER_EXPIRY (R28): the pair whose timer expires. -/
  | pairTimerExpiry (pair : PairIx)
  /-- CONTROL_INPUT_CHANGE (R33): the control input and whether it is now active. -/
  | controlInputChange (input : Control) (active : Bool)
  /-- CONTROL_DEBOUNCE_EXPIRY (R33). -/
  | controlDebounceExpiry (input : Control)
  /-- EVALUATION (R45): the Condition Unit takes the oldest change notice handed to it. -/
  | evaluation
  /-- HOLD_EXPIRY (R48). -/
  | holdExpiry (cond : CondIx)
  /-- RELEASE_EXPIRY (R48). -/
  | releaseExpiry (cond : CondIx)
  /-- TRUTH_EDGE (R60, R63): the Annunciation Unit takes the oldest edge handed to it for this condition. -/
  | truthEdge (cond : CondIx)
  /-- RETRY_TIMER_EXPIRY (R85): the request-table entry whose timer expires. -/
  | retryTimerExpiry (entry : ReqIx)
  /-- SILENCE_LATCH_CLEAR (R95): the Annunciation Unit takes the oldest notice that calls for a clear. -/
  | silenceLatchClear
  /-- ABSENCE_TIMER_EXPIRY (R16). -/
  | absenceTimerExpiry (station : Station)
  /-- REFRESH_TIMER_EXPIRY (R113). -/
  | refreshTimerExpiry
  /-- LISTEN_TIMER_EXPIRY (R147). -/
  | listenTimerExpiry
  /-- WITHDRAW_TIMER_EXPIRY (R151). -/
  | withdrawTimerExpiry
  /-- PATTERN_PHASE_STEP (R158). -/
  | patternPhaseStep
  /-- STARTUP_WAIT_END (R119). -/
  | startupWaitEnd
  /-- FRAME_END (R121): the levels of the reception that ends, one per bit time from its first dominant bit time. -/
  | frameEnd (levels : List Level)
  /-- INVALID_RECEPTION_END (R122): the levels of the reception that ends. -/
  | invalidReceptionEnd (levels : List Level)
  /-- JAM_END (R123, R131): the levels of the reception that ends; a station that jammed itself reads none. -/
  | jamEnd (levels : List Level)
  /-- SLOT_START (R126): the slot 0–63 that starts. -/
  | slotStart (slot : Fin 64)
  /-- WINDOW_END (R124). -/
  | windowEnd
  /-- TRANSMISSION_COMPLETE (R130). -/
  | transmissionComplete
  /-- OWN_FRAME_END (R130). -/
  | ownFrameEnd
  /-- COLLISION (R131): the bit time of the own frame, counted from its start, whose readback finds dominant. -/
  | collision (bitTime : Nat)
  /-- LINE_STUCK (R134). -/
  | lineStuck
  /-- LINE_RELEASED (R136). -/
  | lineReleased
  /-- TAKE (R173). -/
  | take
  /-- ACK_ALL (R78). -/
  | ackAll
  /-- ACK_ONE (R80): the station and condition stand in ARG0 and ARG1. -/
  | ackOne
  /-- SILENCE (R93). -/
  | silence
  /-- LAMP_TEST_ON (R163). -/
  | lampTestOn
  /-- LAMP_TEST_OFF (R163). -/
  | lampTestOff
  /-- COUNT_CLEAR (R98). -/
  | countClear
  /-- COMMIT (R183). -/
  | commit
  /-- UNKNOWN_COMMAND (R181): the code written to COMMAND. -/
  | unknownCommand (code : Byte)
  /-- READ_CAPTURE (R178). -/
  | readCapture (part : ReadPart)
  /-- IMAGE_BUFFER_WRITE (R142): the offset in the buffer and the bytes written from there. -/
  | imageBufferWrite (offset : Fin 640) (bytes : List Byte)
  /-- REGISTER_WRITE (R177): the address the write transaction names and its data bytes, the pointer's two first. -/
  | registerWrite (address : BitVec 7) (data : List Byte)
  /-- REPORT_LINE_END (R189). -/
  | reportLineEnd
  /-- RECEPTION_START (R120). -/
  | receptionStart
  deriving DecidableEq, Repr

end Sys2Proof
end

