-- ==== Sys2Proof/Decode.lean ====
section
/-!
DEFINITION. The command a word spells by the bits of spec/opcode_table.json. The table gives no row any bits (every row's
`fields` is empty and none has a pattern), so no word spells a command. The bytes that do have an encoding, frames and
the image, are decoded in Machine/Operands.lean and Machine/Image.lean.
-/

namespace Sys2Proof

/-- The command a word of the table spells: none, for no row of the table gives bits. -/
def decodeTableWord (_nbits _w : Nat) : Option Instr := none

end Sys2Proof
end

