-- ==== Sys2Proof/Machine/State.lean ====
section
/-!
DEFINITION. Everything the Menhal 3216 holds, as plain data: the twelve functional blocks of Table 0-1, the levels at
its input pins, the notices and edges one block has handed another and that are not yet taken, the accepted settings,
the millisecond count, and the queue of commands that wait. Then the state right after reset, and the two reason types.
-/

namespace Sys2Proof

namespace Machine

/-- A store of bytes by offset: (offset, byte) pairs in strictly rising order of offset, none of them a byte that an
unlisted offset reads as (00h). `Memory.wf` says so. -/
abbrev Memory := List Host.Cell

/-! ### Outcomes -/

/-- Reasons a command can stop the part. The manual names no event that stops it: an event that cannot happen in a
state leaves that state unchanged (R3, R139), so no fault is declared. -/
inductive Fault where
  deriving DecidableEq, Repr

/-- Reasons the model has no meaning for a command. -/
inductive Refusal where
  /-- A command not modelled yet, by its mnemonic. Raised by no arm of `exec`; it would be safe. -/
  | notModelled (mnemonic : String)
  deriving DecidableEq, Repr

/-! ### The station picture (Chapter 1) -/

/-- Presence of a station number (Table 1-2). -/
inductive Presence where
  | notExpected
  | unheard
  | present
  | absent
  | self
  deriving DecidableEq, Repr

/-- Quality of a picture entry (R4). A condition entry is never FAULT. -/
inductive Quality where
  | good
  | fault
  | unknown
  deriving DecidableEq, Repr

/-- Annunciation state of a condition (R58). -/
inductive AnnState where
  | normal
  | alertUnack
  | alertAck
  | returnUnack
  | unused
  deriving DecidableEq, Repr

/-- A roster entry (Table 1-2). `absence` is the absence timer: the count at which it expires, or stopped. -/
structure RosterEntry where
  presence : Presence
  lastSeq : Option Seq
  refreshCode : Option Nat
  absence : Option Ms
  restartSeen : Bool
  strangerLogged : Bool
  deriving DecidableEq, Repr

/-- A point mirror entry (R4). -/
structure PointEntry where
  value : Bool
  quality : Quality
  deriving DecidableEq, Repr

/-- A condition mirror entry (R4); in the own row it is the live record (R1). -/
structure CondEntry where
  state : AnnState
  truth : Bool
  gen : Gen
  quality : Quality
  deriving DecidableEq, Repr

/-- The Picture Unit (Table 1-1). -/
structure Picture where
  roster : Tab 32 RosterEntry
  points : Tab 32 (Tab 16 PointEntry)
  conds : Tab 32 (Tab 8 CondEntry)
  deriving DecidableEq, Repr

/-- The items a change notice can name (Table 1-6). -/
inductive Item where
  | presence (station : Station)
  | point (station : Station) (point : PointIx)
  | cond (station : Station) (cond : CondIx)
  deriving DecidableEq, Repr

/-- A change notice: the item it names, and the fields of that item before and after the change (R18, Table 1-6). -/
inductive Notice where
  | presence (station : Station) (before after : Presence)
  | point (station : Station) (point : PointIx) (before after : PointEntry)
  | cond (station : Station) (cond : CondIx) (before after : CondEntry)
  deriving DecidableEq, Repr

/-- A condition reference, station.Cindex. -/
structure CondRef where
  station : Station
  cond : CondIx
  deriving DecidableEq, Repr

/-! ### The Point Input Unit (Chapter 2) -/

/-- The present levels at the input pins: `true` is active. They belong to the contacts, not to the part. -/
structure Pins where
  lines : Tab 16 Bool
  ack : Bool
  silence : Bool
  test : Bool
  deriving DecidableEq, Repr

/-- Debounce of one line or control input (Tables 2-1 and 2-4): the accepted level, the candidate level and the
debounce timer. -/
structure Debouncer where
  accepted : Bool
  candidate : Option Bool
  timer : Option Ms
  deriving DecidableEq, Repr

/-- The relation of a pair's two lines (R28). -/
inductive Relation where
  | complement
  | agree
  deriving DecidableEq, Repr

/-- Supervision of one pair (Table 2-1). -/
structure PairState where
  accepted : Relation
  timer : Option Ms
  deriving DecidableEq, Repr

/-- The Point Input Unit (Tables 2-1 and 2-6). -/
structure PointUnit where
  lines : Tab 16 Debouncer
  pairs : Tab 8 PairState
  ack : Debouncer
  silence : Debouncer
  test : Debouncer
  deriving DecidableEq, Repr

/-! ### The Condition Unit (Chapter 3) -/

/-- Evaluation state of a condition (R48). -/
inductive EvalState where
  | isFalse
  | qualifying
  | isTrue
  | releasing
  deriving DecidableEq, Repr

/-- Running fields of a condition record (Table 3-2); truth stands in the own row of the picture. -/
structure CondRun where
  eval : EvalState
  raw : Bool
  hold : Option Ms
  release : Option Ms
  deriving DecidableEq, Repr

/-- The Condition Unit: eight records, and the change notices handed to it and not yet taken, oldest first (R45). -/
structure CondUnit where
  run : Tab 8 CondRun
  notices : List Notice
  deriving DecidableEq, Repr

/-! ### The Annunciation Unit (Chapters 4 and 5) -/

/-- The phase an acknowledgement answers (R61). -/
inductive Phase where
  | alert
  | returned
  deriving DecidableEq, Repr

/-- The pair an acknowledgement carries (R61). -/
structure AckPair where
  phase : Phase
  gen : Gen
  deriving DecidableEq, Repr

/-- Whether an ACKREQ for a request-table entry stands in the outgoing queue (Table 5-2). -/
inductive FramePending where
  | none
  | queued
  | onLine
  deriving DecidableEq, Repr

/-- An entry of the acknowledge request table (Table 5-2). -/
structure Request where
  target : Station
  mask : BitVec 8
  pairs : Tab 8 AckPair
  retries : Nat
  timer : Option Ms
  pending : FramePending
  sendAgain : Bool
  deriving DecidableEq, Repr

/-- An edge of a condition's truth handed by the Condition Unit (R52). -/
structure Edge where
  cond : CondIx
  rising : Bool
  deriving DecidableEq, Repr

/-- The Annunciation Unit. Annunciation state and generation stand in the own row of the picture. `edges` are the truth
edges handed and not yet taken (R60); `clears` the horn-set conditions whose notice calls for a clear of the silence
latch and is not yet taken (R95). -/
structure AnnUnit where
  seqTruth : Tab 8 Bool
  edges : List Edge
  clears : List CondRef
  requests : Tab 8 (Option Request)
  attention : List CondRef
  deriving DecidableEq, Repr

/-! ### The Frame Unit (Chapter 6) -/

/-- What an outgoing queue entry sends (Table 6-4). Only a STATE entry can be ROUTINE (`urgent = false`) and holds the
changed mark. -/
inductive EntryKind where
  | state (urgent : Bool) (changed : Bool)
  | ackreq (request : ReqIx)
  | silence (zones : BitVec 4)
  deriving DecidableEq, Repr

/-- An outgoing queue entry: what it sends, and whether its frame is on the line (Table 6-4). -/
structure QEntry where
  kind : EntryKind
  onLine : Bool
  deriving DecidableEq, Repr

/-- The Frame Unit (Table 6-7). -/
structure FrameUnit where
  queue : List QEntry
  nextSeq : Seq
  first : Bool
  refresh : Option Ms
  discarded : Nat
  deriving DecidableEq, Repr

/-! ### The Line Access Controller (Chapter 7) -/

/-- Line state (Table 7-4). -/
inductive LineState where
  | quiet
  | window
  | receiving
  | transmitting
  | jamming
  | stuck
  deriving DecidableEq, Repr

/-- What the line state RECEIVING carries: a reception, the own broken or completed frame and what follows it
(R130, R133), or the start-up wait (R119). -/
inductive Rx where
  | none
  | startupWait
  | frame
  | ownFrame
  deriving DecidableEq, Repr

/-- The Line Access Controller (Table 7-3). `sending` holds the bytes of the own frame while its transmission is under
way; `jam` holds the levels of the own jam, which the station drives from the bit time after its collision on, and is
empty where it drives none (R131); `nextSlot` is the first slot of the window whose start is not yet taken. -/
structure LineUnit where
  state : LineState
  w : Option Station
  blind : Bool
  slot : Option (Fin 64)
  collisions : Nat
  rx : Rx
  sending : Option (List Byte)
  jam : List Level
  nextSlot : Nat
  deriving DecidableEq, Repr

/-! ### Life Control and the Configuration Loader (Chapter 8) -/

/-- Life state (Table 8-2). -/
inductive Life where
  | loading
  | listening
  | active
  | withdrawn
  | duplicate
  | configFault
  deriving DecidableEq, Repr

/-- Fault code: the result of the image check (Table 8-4). -/
inductive FaultCode where
  | none
  | badMagic
  | badLength
  | badCrc
  | stationMismatch
  | badField
  | selfReference
  | badTemplate
  deriving DecidableEq, Repr

/-- Life Control (Table 8-1), with the SFAULT line it drives. `withdrawFor` is the withdraw duration last chosen, and
`draws` the model's own count of random choices made. -/
structure LifeControl where
  life : Life
  fault : FaultCode
  stn : Station
  source : ImageSource
  listen : Option Ms
  withdraw : Option Ms
  withdrawFor : Nat
  lineStuck : Bool
  sfault : Bool
  draws : Nat
  deriving DecidableEq, Repr

/-- What the Configuration Loader is doing (R141, R142). -/
inductive LoaderPhase where
  | idle
  | reading
  | checking
  deriving DecidableEq, Repr

/-- The Configuration Loader: the image buffer as (offset, byte) pairs in rising order with no byte that reads 00h, the
result of the last check, the number of bytes the memory read has placed so far, and the configuration memory port:
whether SCS selects the memory, whether SCK is high, the levels SDO has still to show of the read command, the one at
the pin first, and the levels of SDI sampled so far of the byte that is arriving, its most significant bit first (R141).
-/
structure Loader where
  buffer : Memory
  phase : LoaderPhase
  check : FaultCode
  got : Nat
  scs : Bool
  sck : Bool
  sdo : List Bool
  sdi : List Bool
  deriving DecidableEq, Repr

/-! ### The Output Unit (Chapter 9) -/

/-- The Output Unit's running fields (Table 9-2). -/
structure OutputUnit where
  levels : Tab 12 Bool
  horn : Bool
  phase : Fin 8
  testLevel : Bool
  lampTest : Bool
  latch : Bool
  deriving DecidableEq, Repr

/-! ### The Journal (Chapter 10) -/

/-- The trigger of a report job (R70). -/
inductive Trigger where
  | alert
  | clear
  deriving DecidableEq, Repr

/-- A journal record's kind with its station, index, value and generation (Table 10-2). A POINT_CHANGE quality is GOOD
or FAULT: `fault` says which. -/
inductive RecordBody where
  | started (own : Station) (version : Byte)
  | pointChange (owner : Station) (point : PointIx) (value fault : Bool)
  | condChange (owner : Station) (cond : CondIx) (state : AnnState) (gen : Gen)
  | peerPresent (peer : Station)
  | peerAbsent (peer : Station)
  | peerRestart (peer : Station)
  | seqGap (peer : Station) (missed : BitVec 8)
  | stranger (peer : Station)
  | ackFailed (target : Station) (mask : BitVec 8)
  | ackRefused (target : Station) (mask : BitVec 8)
  | reportDropped (own : Station) (cond : CondIx) (trigger : Trigger)
  | withdrawn (own : Station)
  | duplicate (own : Station)
  | lineStuck
  | lineReleased
  | configFault (own : Station) (code : FaultCode)
  | overflow (lost : Nat)
  deriving DecidableEq, Repr

/-- A journal record (Table 10-1). -/
structure Record where
  body : RecordBody
  time : Ms
  deriving DecidableEq, Repr

/-- The Journal (R171), its window (R173) and the ATTN line it drives (R175). -/
structure Journal where
  records : List Record
  lost : Nat
  overflowPending : Bool
  window : Option Record
  attn : Bool
  deriving DecidableEq, Repr

/-! ### The Supervisor Port (Chapter 11) -/

/-- Result codes (Table 13-1). -/
inductive Result where
  | ok
  | empty
  | busy
  | refused
  | badArg
  | notConfigured
  | fault (code : FaultCode)
  deriving DecidableEq, Repr

/-- The Supervisor Port. `capture` is the read capture buffer, `unsent` the captured bytes the read in progress has yet
to send, `reading` whether a read is in progress whose next byte the port sends, `sent` the bytes the last part of a
read put on the bus, and `acks` the acknowledgements the port gave in the last transaction, the address's first (R177).
-/
structure Port where
  pointer : BitVec 16
  capture : List Byte
  unsent : List Byte
  reading : Bool
  sent : List Byte
  acks : List Bool
  command : Byte
  arg0 : Byte
  arg1 : Byte
  result : Result
  deriving DecidableEq, Repr

/-! ### The Report Unit (Chapter 12) -/

/-- A report job (R186). -/
structure Job where
  template : TemplateIx
  trigger : Trigger
  cond : CondIx
  gen : Gen
  time : Ms
  deriving DecidableEq, Repr

/-- The Report Unit: the job queue and the render state, which is SENDING while `line` holds the line being sent, CR LF
included; `since` is the count at which its sending began, from which how far it has been sent follows (R189). -/
structure ReportUnit where
  jobs : List Job
  line : Option (List Byte)
  since : Ms
  deriving DecidableEq, Repr

/-! ### The accepted configuration (Chapters 2, 3, 5, 7, 9, 10, 12) -/

/-- Mode of an input line (R22). -/
inductive LineMode where
  | normal
  | inverted
  | pair
  | unused
  deriving DecidableEq, Repr

/-- Settings of an input line (Table 2-1). -/
structure LineSetting where
  mode : LineMode
  debounce : Nat
  deriving DecidableEq, Repr

/-- Class of a condition: its annunciation sequence (Section 4.3). -/
inductive AnnClass where
  | lock
  | ring
  | follow
  deriving DecidableEq, Repr

/-- Combine mode of a condition (R43). -/
inductive Combine where
  | all
  | any
  | atLeast
  deriving DecidableEq, Repr

/-- A term of a condition (Table 3-3). -/
inductive Term where
  | point (station : Station) (point : PointIx) (expect doubt : Bool)
  | fault (station : Station) (point : PointIx)
  | alarm (station : Station) (cond : CondIx) (doubt : Bool)
  | present (station : Station)
  deriving DecidableEq, Repr

/-- Configured fields of a condition record (Table 3-1); hold and release in units of 100 ms. -/
structure CondSetting where
  enabled : Bool
  annClass : AnnClass
  combine : Combine
  k : Nat
  hold : Nat
  release : Nat
  onAlert : Option TemplateIx
  onClear : Option TemplateIx
  terms : List Term
  deriving DecidableEq, Repr

/-- What an output line shows (R156): nothing, a condition as a LAMP, or one value as a DIRECT output. -/
inductive OutSetting where
  | unused
  | lamp (source : CondRef)
  | directPoint (station : Station) (point : PointIx) (invert doubt : Bool)
  | directCond (source : CondRef) (invert doubt : Bool)
  deriving DecidableEq, Repr

/-- Journal scope (R170). -/
inductive Scope where
  | own
  | attention
  | all
  deriving DecidableEq, Repr

/-- The settings of the accepted image (Table 13-4), held from acceptance until the next reset. -/
structure Settings where
  version : Byte
  bitRate : Nat
  refreshCode : Nat
  expected : BitVec 32
  zone : Fin 4
  reach : BitVec 4
  scope : Scope
  attnEnabled : Bool
  lines : Tab 16 LineSetting
  conds : Tab 8 CondSetting
  outs : Tab 12 OutSetting
  horn : List CondRef
  uart : Nat
  templates : Tab 4 (List Byte)
  deriving DecidableEq, Repr

/-- Everything the part holds. `held` says that the RESET pin is held; `pending` is the queue of commands that wait. -/
structure State where
  held : Bool
  clock : Ms
  pins : Pins
  settings : Settings
  life : LifeControl
  loader : Loader
  pic : Picture
  input : PointUnit
  cond : CondUnit
  ann : AnnUnit
  frame : FrameUnit
  line : LineUnit
  out : OutputUnit
  journal : Journal
  port : Port
  report : ReportUnit
  pending : List Instr
  deriving DecidableEq, Repr

/-! ### Updates, one block at a time -/

/-- The state with the standing of the RESET pin changed. -/
def State.onHeld (f : Bool → Bool) (s : State) : State := { s with held := f s.held }

/-- The state with the millisecond count changed. -/
def State.onClock (f : Ms → Ms) (s : State) : State := { s with clock := f s.clock }

/-- The state with the levels at the input pins changed. -/
def State.onPins (f : Pins → Pins) (s : State) : State := { s with pins := f s.pins }

/-- The state with the accepted settings changed. -/
def State.onSettings (f : Settings → Settings) (s : State) : State := { s with settings := f s.settings }

/-- The state with Life Control changed. -/
def State.onLife (f : LifeControl → LifeControl) (s : State) : State := { s with life := f s.life }

/-- The state with the Configuration Loader changed. -/
def State.onLoader (f : Loader → Loader) (s : State) : State := { s with loader := f s.loader }

/-- The state with the Picture Unit changed. -/
def State.onPic (f : Picture → Picture) (s : State) : State := { s with pic := f s.pic }

/-- The state with the Point Input Unit changed. -/
def State.onInput (f : PointUnit → PointUnit) (s : State) : State := { s with input := f s.input }

/-- The state with the Condition Unit changed. -/
def State.onCond (f : CondUnit → CondUnit) (s : State) : State := { s with cond := f s.cond }

/-- The state with the Annunciation Unit changed. -/
def State.onAnn (f : AnnUnit → AnnUnit) (s : State) : State := { s with ann := f s.ann }

/-- The state with the Frame Unit changed. -/
def State.onFrame (f : FrameUnit → FrameUnit) (s : State) : State := { s with frame := f s.frame }

/-- The state with the Line Access Controller changed. -/
def State.onLine (f : LineUnit → LineUnit) (s : State) : State := { s with line := f s.line }

/-- The state with the Output Unit changed. -/
def State.onOut (f : OutputUnit → OutputUnit) (s : State) : State := { s with out := f s.out }

/-- The state with the Journal changed. -/
def State.onJournal (f : Journal → Journal) (s : State) : State := { s with journal := f s.journal }

/-- The state with the Supervisor Port changed. -/
def State.onPort (f : Port → Port) (s : State) : State := { s with port := f s.port }

/-- The state with the Report Unit changed. -/
def State.onReport (f : ReportUnit → ReportUnit) (s : State) : State := { s with report := f s.report }

/-! ### Reset values -/

/-- No settings are held until an image is accepted (R54, R74, R155, R170, R184): every condition and output unused, no
horn set, ATTN off, no templates. That every input line has mode UNUSED, which Table 2-6 leaves open, and the codes that
are read only after acceptance, which are 0, are the model's choice (log entry 3). -/
def Settings.empty : Settings where
  version := 0
  bitRate := 0
  refreshCode := 0
  expected := 0
  zone := 0
  reach := 0
  scope := .own
  attnEnabled := false
  lines := .fill 16 ⟨.unused, 0⟩
  conds := .fill 8 ⟨false, .lock, .all, 0, 0, 0, none, none, []⟩
  outs := .fill 12 .unused
  horn := []
  uart := 0
  templates := .fill 4 []

/-- Every contact open and every control input inactive (log entry 4: the pins are not the part's). -/
def Pins.idle : Pins := ⟨.fill 16 false, false, false, false⟩

/-- The Picture Unit after reset (R6). -/
def Picture.reset : Picture where
  roster := .fill 32 ⟨.notExpected, none, none, none, false, false⟩
  points := .fill 32 (.fill 16 ⟨false, .unknown⟩)
  conds := .fill 32 (.fill 8 ⟨.normal, false, 0, .unknown⟩)

/-- A debouncer after reset (Table 2-6). -/
def Debouncer.reset : Debouncer := ⟨false, none, none⟩

/-- The Point Input Unit after reset (Table 2-6). -/
def PointUnit.reset : PointUnit where
  lines := .fill 16 .reset
  pairs := .fill 8 ⟨.complement, none⟩
  ack := .reset
  silence := .reset
  test := .reset

/-- The Condition Unit after reset (R54). -/
def CondUnit.reset : CondUnit := ⟨.fill 8 ⟨.isFalse, false, none, none⟩, []⟩

/-- The Annunciation Unit after reset (R74, R77, R81). -/
def AnnUnit.reset : AnnUnit := ⟨.fill 8 false, [], [], .fill 8 none, []⟩

/-- The Frame Unit after reset (Table 6-7). -/
def FrameUnit.reset : FrameUnit := ⟨[], 0, true, none, 0⟩

/-- The Line Access Controller after reset (Table 7-3). -/
def LineUnit.reset : LineUnit := ⟨.quiet, none, false, none, 0, .none, none, [], 0⟩

/-- Life Control after reset (Table 8-1). The straps are sampled only as the part leaves reset; until then the station
number and the source hold values nothing reads (log entry 3). -/
def LifeControl.reset : LifeControl := ⟨.loading, .none, 0, .memory, none, none, 0, false, false, 0⟩

/-- The Configuration Loader after reset (Section 8.3): every byte of the buffer reads 00h. That its own check result is
NONE is the model's choice (log entry 3): the manual gives NONE for Life Control's fault code alone. -/
def Loader.reset : Loader := ⟨[], .idle, .none, 0, false, false, [], []⟩

/-- The Output Unit after reset (Table 9-2). -/
def OutputUnit.reset : OutputUnit := ⟨.fill 12 false, false, 0, false, false, false⟩

/-- The Journal after reset (R176). -/
def Journal.reset : Journal := ⟨[], 0, false, none, false⟩

/-- The Supervisor Port after reset (R177, R181). That the read capture buffer is empty is the model's choice (log entry
3): the manual gives it no value before the first capturing read. -/
def Port.reset : Port := ⟨0, [], [], false, [], [], 0, 0, 0, .ok⟩

/-- The Report Unit after reset (R184). -/
def ReportUnit.reset : ReportUnit := ⟨[], none, 0⟩

/-- The machine right after reset, with the RESET pin still held and every block at its reset values (R140). -/
def State.reset : State where
  held := true
  clock := 0
  pins := .idle
  settings := .empty
  life := .reset
  loader := .reset
  pic := .reset
  input := .reset
  cond := .reset
  ann := .reset
  frame := .reset
  line := .reset
  out := .reset
  journal := .reset
  port := .reset
  report := .reset
  pending := []

end Machine

end Sys2Proof
end

