-- ==== Sys2Proof/Machine/Memory.lean ====
section
/-!
DEFINITION. The image buffer of the Configuration Loader as a store of bytes: what an offset reads as, a write that
keeps the store's one canonical form, and that form as a check.
-/

namespace Sys2Proof

namespace Machine

/-- The size of the image buffer (Section 8.3). -/
def bufferSize : Nat := 640

/-- The byte at an offset; after reset every byte of the buffer reads 00h (Section 8.3). -/
def Memory.read : Memory → Nat → Byte
  | [], _ => 0
  | (k, v) :: rest, a => if k = a then v else Memory.read rest a

/-- One byte written; writing 00h, which an unlisted offset reads as, lists nothing. -/
def Memory.write : Memory → Nat → Byte → Memory
  | [], a, b => if b = 0 then [] else [(a, b)]
  | (k, v) :: rest, a, b =>
    if a < k then (if b = 0 then (k, v) :: rest else (a, b) :: (k, v) :: rest)
    else if a = k then (if b = 0 then rest else (a, b) :: rest)
    else (k, v) :: Memory.write rest a b

/-- The canonical form from an offset on: strictly rising offsets inside the buffer, and no byte 00h. -/
def Memory.wfFrom : Nat → Memory → Bool
  | _, [] => true
  | low, (k, v) :: rest => low ≤ k && k < bufferSize && v != 0 && Memory.wfFrom (k + 1) rest

/-- The canonical form of the image buffer. -/
def Memory.wf (m : Memory) : Bool := Memory.wfFrom 0 m

/-- The `n` bytes from an offset on. -/
def Memory.slice (m : Memory) (a n : Nat) : List Byte :=
  (List.range n).map (fun i => Memory.read m (a + i))

/-- A 16-bit number stored high byte first (R191). -/
def Memory.word (m : Memory) (a : Nat) : Nat :=
  (Memory.read m a).toNat * 256 + (Memory.read m (a + 1)).toNat

end Machine

end Sys2Proof
end

