-- ==== Sys2Proof/Machine/Operands.lean ====
section
/-!
DEFINITION. The operand forms of the line: the value codes of Table 13-1, the CRC-16 (R194), frames as bytes (R193,
R196), bytes as levels of the line (R117), and how the Line Access Controller decodes the levels of a reception (R120,
R121, R123).
-/

namespace Sys2Proof

namespace Machine

/-! ### Value codes (Table 13-1) -/

/-- Annunciation state codes. -/
def AnnState.code : AnnState → Nat
  | .normal => 0
  | .alertUnack => 1
  | .alertAck => 2
  | .returnUnack => 3
  | .unused => 4

/-- The annunciation state of a code; a code of 5–7 is taken as UNUSED (R14, R196). -/
def annStateOf : Nat → AnnState
  | 0 => .normal
  | 1 => .alertUnack
  | 2 => .alertAck
  | 3 => .returnUnack
  | _ => .unused

/-- Presence codes. -/
def Presence.code : Presence → Nat
  | .notExpected => 0
  | .unheard => 1
  | .present => 2
  | .absent => 3
  | .self => 4

/-- Life state codes. -/
def Life.code : Life → Nat
  | .loading => 0
  | .listening => 1
  | .active => 2
  | .withdrawn => 3
  | .duplicate => 4
  | .configFault => 5

/-- Line state codes. -/
def LineState.code : LineState → Nat
  | .quiet => 0
  | .window => 1
  | .receiving => 2
  | .transmitting => 3
  | .jamming => 4
  | .stuck => 5

/-- Fault codes. -/
def FaultCode.code : FaultCode → Nat
  | .none => 0
  | .badMagic => 1
  | .badLength => 2
  | .badCrc => 3
  | .stationMismatch => 4
  | .badField => 5
  | .selfReference => 6
  | .badTemplate => 7

/-- Result codes: the fault codes BAD_MAGIC to BAD_TEMPLATE stand at 11h–17h. -/
def Result.code : Result → Nat
  | .ok => 0x00
  | .empty => 0x01
  | .busy => 0x02
  | .refused => 0x03
  | .badArg => 0x04
  | .notConfigured => 0x05
  | .fault c => 0x10 + c.code

/-- Trigger codes. -/
def Trigger.code : Trigger → Nat
  | .alert => 0
  | .clear => 1

/-- A number as a byte. -/
def byteOf (n : Nat) : Byte := BitVec.ofNat 8 n

/-- A number as two bytes, high byte first (R191). -/
def wordBytes (n : Nat) : List Byte := [byteOf (n / 256), byteOf n]

/-- A flag as the number 1 or 0. -/
def flag (b : Bool) : Nat := if b then 1 else 0

/-! ### The CRC-16 (R194) -/

/-- `n` of the eight steps that follow each byte. -/
def crcSteps : Nat → BitVec 16 → BitVec 16
  | 0, r => r
  | n + 1, r => crcSteps n (if r.msb then (r <<< 1) ^^^ 0x1021#16 else r <<< 1)

/-- One byte combined into the register's high 8 bits, then eight steps. -/
def crcByte (r : BitVec 16) (b : Byte) : BitVec 16 :=
  crcSteps 8 (r ^^^ (b.setWidth 16 <<< 8))

/-- The check of a sequence of bytes: the register starts at FFFFh and is not inverted at the end. -/
def crc16 (bytes : List Byte) : BitVec 16 := bytes.foldl crcByte 0xFFFF#16

/-- The check as it is sent or stored, high byte first. -/
def crcBytes (bytes : List Byte) : List Byte :=
  [(crc16 bytes).extractLsb' 8 8, (crc16 bytes).extractLsb' 0 8]

/-! ### Frames (R97, R193) -/

/-- A condition as a STATE carries it: annunciation state, truth, generation. -/
structure CondReport where
  state : AnnState
  truth : Bool
  gen : Gen
  deriving DecidableEq, Repr

/-- The content of a STATE frame (Table 6-1): masks of point values and fault marks hold bit n for point n (R192). -/
structure StateFrame where
  seq : Seq
  first : Bool
  refreshCode : Nat
  values : BitVec 16
  faults : BitVec 16
  conds : Tab 8 CondReport
  deriving DecidableEq, Repr

/-- What a frame carries (Table 6-1). -/
inductive Payload where
  | state (f : StateFrame)
  | ackreq (target : Station) (mask : BitVec 8) (pairs : Tab 8 AckPair)
  | silence (zones : BitVec 4)
  deriving DecidableEq, Repr

/-- A frame: its origin and what it carries. -/
structure Frame where
  origin : Station
  payload : Payload
  deriving DecidableEq, Repr

/-- A condition byte: bits 2–0 annunciation state, bit 3 truth, bits 7–4 generation. -/
def condByte (c : CondReport) : Byte :=
  byteOf (c.state.code + 8 * flag c.truth + 16 * c.gen.val)

/-- A condition byte read; a state code of 5–7 is UNUSED. -/
def condOfByte (b : Byte) : CondReport where
  state := annStateOf (b.toNat % 8)
  truth := b.getLsbD 3
  gen := Fin.ofNat 16 (b.toNat / 16)

/-- An ACKREQ entry: bit 4 phase, bits 3–0 generation. -/
def ackByte (a : AckPair) : Byte :=
  byteOf (a.gen.val + (match a.phase with | .alert => 0 | .returned => 16))

/-- An ACKREQ entry read from its defined bits (R196). -/
def ackOfByte (b : Byte) : AckPair where
  phase := if b.getLsbD 4 then .returned else .alert
  gen := Fin.ofNat 16 b.toNat

/-- The two bytes of a mask of sixteen points: the first holds P0–P7 (R192). -/
def maskBytes (m : BitVec 16) : List Byte := [m.extractLsb' 0 8, m.extractLsb' 8 8]

/-- A mask of sixteen points read from its two bytes. -/
def maskOfBytes (lo hi : Byte) : BitVec 16 := hi ++ lo

/-- The kind code of a payload. -/
def Payload.kindCode : Payload → Nat
  | .state _ => 0x01
  | .ackreq _ _ _ => 0x02
  | .silence _ => 0x03

/-- The sequence field: the sequence number in a STATE, 0 in ACKREQ and SILENCE (R97). -/
def Payload.seqField : Payload → Byte
  | .state f => f.seq
  | .ackreq _ _ _ => 0
  | .silence _ => 0

/-- The payload bytes (Table 13-3); an ACKREQ entry outside the mask is 00h. -/
def Payload.bytes : Payload → List Byte
  | .state f =>
    byteOf (f.refreshCode % 8 + 128 * flag f.first) ::
      (maskBytes f.values ++ maskBytes f.faults ++ f.conds.list.map condByte)
  | .ackreq target mask pairs =>
    byteOf target.val :: mask ::
      (indices 8).map (fun c => if mask.getLsbD c.val then ackByte (pairs.get c) else 0)
  | .silence zones => [zones.setWidth 8]

/-- Header and payload of a frame (Tables 13-2 and 13-3). -/
def Frame.body (f : Frame) : List Byte :=
  byteOf f.payload.kindCode :: byteOf f.origin.val :: f.payload.seqField :: byteOf f.payload.bytes.length ::
    f.payload.bytes

/-- A frame's bytes: header, payload, check (R193). -/
def Frame.bytes (f : Frame) : List Byte := f.body ++ crcBytes f.body

/-- The origin of a frame: bits 4–0 of its second byte (R196). -/
def frameOrigin (bytes : List Byte) : Station := Fin.ofNat 32 (bytes.getD 1 0).toNat

/-- Whether a reception's bytes form a frame valid on the line: at least the header, a payload length of 16 or less, a
byte count equal to 4 + payload length + 2, and a CRC-16 that checks (R121). -/
def validOnLine (bytes : List Byte) : Bool :=
  let n := (bytes.getD 3 0).toNat
  4 ≤ bytes.length && n ≤ 16 && bytes.length == 4 + n + 2 &&
    bytes.drop (4 + n) == crcBytes (bytes.take (4 + n))

/-- A frame valid on the line as the Frame Unit reads it: none where it discards the frame, for a kind code of no kind
or a payload length that is not the kind's (R99). -/
def decodeFrame (bytes : List Byte) : Option Frame :=
  let kind := (bytes.getD 0 0).toNat
  let len := (bytes.getD 3 0).toNat
  let p := fun i => bytes.getD (4 + i) 0
  let origin := frameOrigin bytes
  if kind = 0x01 ∧ len = 13 then
    some ⟨origin, .state
      { seq := bytes.getD 2 0
        first := (p 0).getLsbD 7
        refreshCode := min 4 ((p 0).toNat % 8)
        values := maskOfBytes (p 1) (p 2)
        faults := maskOfBytes (p 3) (p 4)
        conds := .build (fun c => condOfByte (p (5 + c.val))) }⟩
  else if kind = 0x02 ∧ len = 10 then
    some ⟨origin, .ackreq (Fin.ofNat 32 (p 0).toNat) (p 1) (.build (fun c => ackOfByte (p (2 + c.val))))⟩
  else if kind = 0x03 ∧ len = 1 then
    some ⟨origin, .silence ((p 0).setWidth 4)⟩
  else none

/-! ### Levels of the line (R117) -/

/-- A data bit on the line: 0 is dominant and 1 recessive. -/
def bitLevel (b : Bool) : Level := if b then .recessive else .dominant

/-- A byte on the line: a dominant start bit, eight data bits with the least significant first, a recessive stop bit. -/
def byteLevels (b : Byte) : List Level :=
  [.dominant, bitLevel (b.getLsbD 0), bitLevel (b.getLsbD 1), bitLevel (b.getLsbD 2), bitLevel (b.getLsbD 3),
    bitLevel (b.getLsbD 4), bitLevel (b.getLsbD 5), bitLevel (b.getLsbD 6), bitLevel (b.getLsbD 7), .recessive]

/-- What a transmitter drives for a frame's bytes, from the lead-in to the last stop bit. -/
def driveLevels (bytes : List Byte) : List Level :=
  [.dominant, .dominant, .dominant, .recessive] ++ bytes.flatMap byteLevels

/-- The own jam: 16 dominant bit times from the bit time after the collision on; then the station stops driving
(R131). -/
def ownJam : List Level := List.replicate 16 .dominant

/-- The level the station drives a number of bit times after the start of its frame, or of its jam: recessive where it
drives neither, and after the last bit time of either (R117, R118, R131). -/
def LineUnit.drives (l : LineUnit) (bitTime : Nat) : Level :=
  match l.sending with
  | some bytes => (driveLevels bytes).getD bitTime .recessive
  | none => l.jam.getD bitTime .recessive

/-- The recessive tail to the frame end: 10 bit times. -/
def tailLevels : List Level := List.replicate 10 .recessive

/-! ### Decoding a reception (R120, R121, R123) -/

/-- What the levels of a reception come to, taken up to its end: bytes without a framing error, a framing error, a
framing error recognised as a jam, or no end yet. -/
inductive Reception where
  | unfinished
  | broken
  | jammed
  | complete (bytes : List Byte)
  deriving DecidableEq, Repr

/-- Whether the line, recessive for `n` bit times so far, completes its first run of 10 recessive bit times exactly at
the end of the levels. -/
def endsQuiet : Nat → List Level → Bool
  | _, [] => false
  | n, .recessive :: rest => if n = 9 then rest.isEmpty else endsQuiet (n + 1) rest
  | _, .dominant :: rest => endsQuiet 0 rest

/-- How many dominant bit times the levels begin with. -/
def dominantRun : List Level → Nat
  | .dominant :: rest => dominantRun rest + 1
  | _ => 0

/-- A reception broken by a framing error of kind 1 or 4, whose remaining levels follow. -/
def brokenEnd (recessiveSoFar : Nat) (rest : List Level) : Reception :=
  if endsQuiet recessiveSoFar rest then .broken else .unfinished

/-- A reception broken by a framing error of kind 2 or 3: the failing bit is dominant and follows `before` dominant bit
times; a run of 8 or more is a jam (R123). -/
def jamOrBroken (before : Nat) (rest : List Level) : Reception :=
  if endsQuiet 0 rest then (if 8 ≤ before + 1 + dominantRun rest then .jammed else .broken) else .unfinished

/-- The recessive wait after a stop bit, `n` bit times of it so far: a dominant level before the tenth is a framing
error of kind 4. Where no byte has been read the wait begins after the lead-in's fourth bit, which is not counted in it:
R120 and R121 count from a stop bit and leave this open, so it is the model's choice (log entry 18). -/
def readTail (bytes : List Byte) : Nat → List Level → Reception
  | _, [] => .unfinished
  | n, .recessive :: rest => if n = 9 then (if rest.isEmpty then .complete bytes else .unfinished) else readTail bytes (n + 1) rest
  | _, .dominant :: rest => brokenEnd 0 rest

/-- A data bit read from its level. -/
def levelBit : Level → Nat
  | .recessive => 1
  | .dominant => 0

/-- The byte of eight data levels, least significant first. -/
def byteOfLevels (d0 d1 d2 d3 d4 d5 d6 d7 : Level) : Byte :=
  byteOf (levelBit d0 + 2 * levelBit d1 + 4 * levelBit d2 + 8 * levelBit d3 + 16 * levelBit d4 + 32 * levelBit d5 +
    64 * levelBit d6 + 128 * levelBit d7)

/-- The bytes of a reception, after its lead-in or a stop bit. A recessive bit time here begins the wait of `readTail`,
also after a lead-in that no byte follows (log entry 18). -/
def readBytes (bytes : List Byte) : List Level → Reception
  | .recessive :: rest => readTail bytes 0 (.recessive :: rest)
  | .dominant :: d0 :: d1 :: d2 :: d3 :: d4 :: d5 :: d6 :: d7 :: .recessive :: rest =>
    readBytes (bytes ++ [byteOfLevels d0 d1 d2 d3 d4 d5 d6 d7]) rest
  | .dominant :: d0 :: d1 :: d2 :: d3 :: d4 :: d5 :: d6 :: d7 :: .dominant :: rest =>
    jamOrBroken (dominantRun [d7, d6, d5, d4, d3, d2, d1, d0, .dominant]) rest
  | _ => .unfinished

/-- The reception whose levels, one per bit time from its first dominant bit time to its end, are given. -/
def readReception : List Level → Reception
  | .dominant :: .dominant :: .dominant :: .recessive :: rest => readBytes [] rest
  | .dominant :: .dominant :: .dominant :: .dominant :: rest => jamOrBroken 3 rest
  | .dominant :: .dominant :: .recessive :: rest => brokenEnd 0 (.recessive :: rest)
  | .dominant :: .recessive :: rest => brokenEnd 0 (.recessive :: rest)
  | _ => .unfinished

end Machine

end Sys2Proof
end

