-- ==== Sys2Proof/Machine/Image.lean ====
section
/-!
DEFINITION. The configuration image: the field codes and their ranges (Tables 13-1 and 13-4), templates (R185), the
seven checks in order (R143) and the settings an accepted image hands to the blocks (R144).
-/

namespace Sys2Proof

namespace Machine

/-! ### Bits of a byte and codes of the image -/

/-- The `width` bits of a number from bit `low` on. -/
def bitsOf (n low width : Nat) : Nat := n / 2 ^ low % 2 ^ width

/-- A byte of the image as a number. -/
def Memory.num (m : Memory) (a : Nat) : Nat := (Memory.read m a).toNat

/-- Input mode codes (Table 13-1). -/
def lineModeOf : Nat → Option LineMode
  | 0 => some .normal
  | 1 => some .inverted
  | 2 => some .pair
  | 3 => some .unused
  | _ => none

/-- Condition enabled codes. -/
def enabledOf : Nat → Option Bool
  | 0 => some false
  | 1 => some true
  | _ => none

/-- Class codes. -/
def classOf : Nat → Option AnnClass
  | 0 => some .lock
  | 1 => some .ring
  | 2 => some .follow
  | _ => none

/-- Combine codes. -/
def combineOf : Nat → Option Combine
  | 0 => some .all
  | 1 => some .any
  | 2 => some .atLeast
  | _ => none

/-- Report template codes: 0–3, or Fh for none. -/
def reportOf (n : Nat) : Option (Option TemplateIx) :=
  if h : n < 4 then some (some ⟨n, h⟩) else if n = 0xF then some none else none

/-- Journal scope codes. -/
def scopeOf : Nat → Option Scope
  | 0 => some .own
  | 1 => some .attention
  | 2 => some .all
  | _ => none

/-- A number as an index below `n`, where it is one. -/
def indexOf (n k : Nat) : Option (Fin n) := if h : k < n then some ⟨k, h⟩ else none

/-! ### Input lines (R23) -/

/-- The settings of an input line, where its byte is in range: bits 2–0 mode, bits 6–4 debounce code 0–4, and no PAIR
on an odd line. -/
def lineSettingOf (line : PointIx) (b : Nat) : Option LineSetting := do
  let mode ← lineModeOf (bitsOf b 0 3)
  let code := bitsOf b 4 3
  if code ≤ 4 ∧ ¬ (mode = .pair ∧ line.val % 2 = 1) then some ⟨mode, code⟩ else none

/-! ### Conditions (R44) -/

/-- A term, where its word is in range: bits 15–13 kind, 12–7 station, 6–2 index, 1 expect, 0 doubt. -/
def termOf (w : Nat) : Option Term := do
  let station ← indexOf 32 (bitsOf w 7 6)
  let index := bitsOf w 2 5
  let expect := bitsOf w 1 1 == 1
  let doubt := bitsOf w 0 1 == 1
  match bitsOf w 13 3 with
  | 0 => do let p ← indexOf 16 index; some (.point station p expect doubt)
  | 1 => do let p ← indexOf 16 index; some (.fault station p)
  | 2 => do let c ← indexOf 8 index; some (.alarm station c doubt)
  | 3 => some (.present station)
  | _ => none

/-- Every element of a list that must all be there. -/
def allOf {α : Type} : List (Option α) → Option (List α)
  | [] => some []
  | x :: rest => do let a ← x; let b ← allOf rest; some (a :: b)

/-- A condition the image leaves unused (R37). -/
def CondSetting.unused : CondSetting := ⟨false, .lock, .all, 0, 0, 0, none, none, []⟩

/-- The settings of a condition, where its fields are in range as R44 checks them; an UNUSED condition's other fields
and the terms beyond the term count are disregarded. -/
def condSettingOf (m : Memory) (c : CondIx) : Option CondSetting := do
  let base := 32 + 21 * c.val
  let head := m.num base
  let enabled ← enabledOf (bitsOf head 0 2)
  if enabled then do
    let annClass ← classOf (bitsOf head 2 2)
    let combine ← combineOf (bitsOf head 4 2)
    let count := bitsOf (m.num (base + 1)) 0 4
    let k := bitsOf (m.num (base + 1)) 4 4
    let onAlert ← reportOf (bitsOf (m.num (base + 4)) 0 4)
    let onClear ← reportOf (bitsOf (m.num (base + 4)) 4 4)
    let terms ← allOf ((List.range count).map (fun t => termOf (m.word (base + 5 + 2 * t))))
    if 1 ≤ count ∧ count ≤ 8 ∧ (combine = .atLeast → 1 ≤ k ∧ k ≤ count) then
      some ⟨true, annClass, combine, k, m.num (base + 2), m.num (base + 3), onAlert, onClear, terms⟩
    else none
  else some .unused

/-! ### Outputs and horn set (R156) -/

/-- The settings of an output, where its three bytes are in range; an UNUSED output's fields are not checked. -/
def outSettingOf (m : Memory) (o : OutIx) : Option OutSetting :=
  let head := m.num (200 + 3 * o.val)
  let station := m.num (201 + 3 * o.val)
  let index := m.num (202 + 3 * o.val)
  let invert := bitsOf head 4 1 == 1
  let doubt := bitsOf head 5 1 == 1
  match bitsOf head 0 2, bitsOf head 2 2 with
  | 0, _ => some .unused
  | 1, 1 => do let s ← indexOf 32 station; let c ← indexOf 8 index; some (.lamp ⟨s, c⟩)
  | 2, 0 => do let s ← indexOf 32 station; let p ← indexOf 16 index; some (.directPoint s p invert doubt)
  | 2, 1 => do let s ← indexOf 32 station; let c ← indexOf 8 index; some (.directCond ⟨s, c⟩ invert doubt)
  | _, _ => none

/-- The horn set, where its count and each counted member are in range. -/
def hornSetOf (m : Memory) : Option (List CondRef) :=
  if m.num 236 ≤ 16 then
    allOf ((List.range (m.num 236)).map (fun k => do
      let s ← indexOf 32 (m.num (237 + 2 * k))
      let c ← indexOf 8 (m.num (238 + 2 * k))
      some ⟨s, c⟩))
  else none

/-! ### Templates (R185) -/

/-- A part of a template: a literal character or one of the eight references of Table 12-2. -/
inductive Piece where
  | literal (b : Byte)
  | point (station : Station) (point : PointIx)
  | alarm (station : Station) (cond : CondIx)
  | event
  | cond
  | gen
  | time
  | own
  | at
  deriving DecidableEq, Repr

/-- Whether a piece counts as a reference. -/
def Piece.isReference : Piece → Bool
  | .literal _ => false
  | _ => true

/-- A decimal digit character's value. -/
def digitOf (b : Byte) : Option Nat :=
  if 0x30 ≤ b.toNat ∧ b.toNat ≤ 0x39 then some (b.toNat - 0x30) else none

/-- Whether a byte is a literal character: printable, 20h–7Eh, or a tab. An @ is none. -/
def isLiteral (b : Byte) : Bool :=
  b == 0x09 || (0x20 ≤ b.toNat && b.toNat ≤ 0x7E && b != 0x40)

/-- The pieces of a template, where it parses. In @Pss.pp and @Ass.c the digits are decimal and in range. -/
def parseTemplate : List Byte → Option (List Piece)
  | [] => some []
  | 0x40#8 :: 0x50#8 :: s1 :: s0 :: 0x2E#8 :: p1 :: p0 :: rest => do
    let a ← digitOf s1; let b ← digitOf s0; let c ← digitOf p1; let d ← digitOf p0
    let s ← indexOf 32 (10 * a + b)
    let p ← indexOf 16 (10 * c + d)
    let more ← parseTemplate rest
    some (.point s p :: more)
  | 0x40#8 :: 0x41#8 :: s1 :: s0 :: 0x2E#8 :: c0 :: rest => do
    let a ← digitOf s1; let b ← digitOf s0; let c ← digitOf c0
    let s ← indexOf 32 (10 * a + b)
    let k ← indexOf 8 c
    let more ← parseTemplate rest
    some (.alarm s k :: more)
  | 0x40#8 :: 0x45#8 :: rest => do let more ← parseTemplate rest; some (.event :: more)
  | 0x40#8 :: 0x43#8 :: rest => do let more ← parseTemplate rest; some (.cond :: more)
  | 0x40#8 :: 0x47#8 :: rest => do let more ← parseTemplate rest; some (.gen :: more)
  | 0x40#8 :: 0x54#8 :: rest => do let more ← parseTemplate rest; some (.time :: more)
  | 0x40#8 :: 0x53#8 :: rest => do let more ← parseTemplate rest; some (.own :: more)
  | 0x40#8 :: 0x40#8 :: rest => do let more ← parseTemplate rest; some (.at :: more)
  | b :: rest => if isLiteral b then do let more ← parseTemplate rest; some (.literal b :: more) else none

/-- Whether a template parses with at most 8 references. -/
def templateOk (bytes : List Byte) : Bool :=
  match parseTemplate bytes with
  | some pieces => (pieces.filter Piece.isReference).length ≤ 8
  | none => false

/-- The bytes of `n` templates from an offset on, where each length is 0–48 and none reaches `stop` or beyond. -/
def templatesFrom (m : Memory) (stop : Nat) : Nat → Nat → Option (List (List Byte))
  | 0, _ => some []
  | n + 1, a =>
    let len := m.num a
    if a < stop ∧ len ≤ 48 ∧ a + 1 + len ≤ stop then do
      let more ← templatesFrom m stop n (a + 1 + len)
      some (m.slice (a + 1) len :: more)
    else none

/-- Where the templates begin (Table 13-4). -/
def templatesAt : Nat := 270

/-! ### The settings of an image -/

/-- A table of entries that must all be there. -/
def tabOf {n : Nat} {α : Type} (f : Fin n → Option α) : Option (Tab n α) :=
  match allOf ((indices n).map f) with
  | some l => if h : l.length = n then some ⟨l, h⟩ else none
  | none => none

/-- The expected-station mask: bit n of four bytes, the first for stations 0–7, stands for station n (R192). -/
def expectedMaskOf (m : Memory) : BitVec 32 :=
  Memory.read m 11 ++ Memory.read m 10 ++ Memory.read m 9 ++ Memory.read m 8

/-- The settings of an image of a given length whose own number is given, where every field is in range (check 5 of
Table 8-4, by Table 8-5, R44, R156 and R196). -/
def settingsOf (m : Memory) (len : Nat) (stn : Station) : Option Settings := do
  let zone ← indexOf 4 (m.num 12)
  let scope ← scopeOf (m.num 14)
  let attn ← enabledOf (m.num 15)
  let lines ← tabOf (fun n : Fin 16 => lineSettingOf n (m.num (16 + n.val)))
  let conds ← tabOf (fun c : Fin 8 => condSettingOf m c)
  let outs ← tabOf (fun o : Fin 12 => outSettingOf m o)
  let horn ← hornSetOf m
  let templates ← templatesFrom m (len - 2) 4 templatesAt
  let expected := expectedMaskOf m
  let reach := (Memory.read m 13).setWidth 4
  if h : templates.length = 4 then
    if templatesAt ≤ len - 2 ∧ m.num 2 = 1 ∧ m.num 6 ≤ 2 ∧ m.num 7 ≤ 4 ∧ expected.getLsbD stn.val ∧
        reach.getLsbD zone.val ∧ m.num 269 ≤ 3 then
      some ⟨Memory.read m 2, m.num 6, m.num 7, expected, zone, reach, scope, attn, lines, conds, outs, horn,
        m.num 269, ⟨templates, h⟩⟩
    else none
  else none

/-! ### The checks in order (R143) -/

/-- Whether an enabled condition has an ALARM term naming its own station number and its own index (check 6). -/
def selfReferring (set : Settings) (stn : Station) : Bool :=
  (indices 8).any (fun c => (set.conds.get c).enabled &&
    (set.conds.get c).terms.any (fun t => match t with
      | .alarm s k _ => s == stn && k == c
      | _ => false))

/-- The outcome of the image check: the fault code of the first check that fails, or the settings. -/
def checkImage (m : Memory) (stn : Station) : Except FaultCode Settings :=
  let len := m.word 3
  if m.word 0 ≠ 0x3216 then .error .badMagic
  else if ¬ (64 ≤ len ∧ len ≤ bufferSize) then .error .badLength
  else if m.slice (len - 2) 2 ≠ crcBytes (m.slice 0 (len - 2)) then .error .badCrc
  else if m.num 5 ≠ stn.val then .error .stationMismatch
  else match settingsOf m len stn with
    | none => .error .badField
    | some set =>
      if selfReferring set stn then .error .selfReference
      else if set.templates.list.all templateOk then .ok set
      else .error .badTemplate

/-- How many bytes of the serial memory are read, once the magic word, version and length field have been: the declared
length where it lies within 64–640, and no further than the length field otherwise (R141). -/
def memoryReadLength (m : Memory) : Nat :=
  let len := m.word 3
  if 64 ≤ len ∧ len ≤ bufferSize then len else 5

/-- A byte of the memory read is placed at the next offset of the buffer; with the last one the memory is deselected and
the image check starts over the buffer (R141). -/
def Loader.memoryByte (b : Byte) (l : Loader) : Loader :=
  let l := { l with buffer := Memory.write l.buffer l.got b, got := l.got + 1 }
  if 5 ≤ l.got ∧ memoryReadLength l.buffer ≤ l.got then { l with phase := .checking, scs := false } else l

/-- The levels of a byte on SDO or SDI, most significant bit first (R141). -/
def spiLevels (b : Byte) : List Bool := (List.range 8).map (fun i => b.getLsbD (7 - i))

/-- The byte that levels of SDI spell, the first of them its most significant bit (R141). -/
def spiByte (levels : List Bool) : Byte := levels.foldl (fun b level => b <<< 1 ||| if level then 1 else 0) 0

/-- A rising edge of SCK: SDI is sampled. While the read command is being sent, its level belongs to no byte (R141). -/
def Loader.clockRises (level : Bool) (l : Loader) : Loader :=
  { l with sck := true, sdi := if l.sdo = [] then l.sdi ++ [level] else l.sdi }

/-- A falling edge of SCK: SDO takes its next level, and the eight levels sampled since the last byte make a byte of the
image (R141). That the byte stands in the buffer, and the read ends, at this edge is log entry 13. -/
def Loader.clockFalls (l : Loader) : Loader :=
  let next := { l with sck := false, sdo := l.sdo.tail }
  if l.sdi.length = 8 then { next with sdi := [] }.memoryByte (spiByte l.sdi) else next

/-- One edge of SCK in a memory read, with the level of SDI at it; SCK stands still while no read runs (R141). -/
def Loader.clockEdge (l : Loader) (level : Bool) : Loader :=
  if l.phase = .reading then (if l.sck then l.clockFalls else l.clockRises level) else l

/-- The edges of SCK in the longest read of the serial memory: two for each bit of the command byte, the two address
bytes and 640 bytes of image (R141). -/
def longestRead : Nat := 2 * 8 * (3 + bufferSize)

/-- A memory that is absent, and one that has ended, returns all ones: SDI is high at every edge of SCK that the read
still takes, as many as are given at most (R141). -/
def Loader.readOnes : Nat → Loader → Loader
  | 0, l => l
  | edges + 1, l => if l.phase = .reading then Loader.readOnes edges (l.clockEdge true) else l

/-- One part of the memory read: SCK moves edge by edge, with the levels of SDI given, and with the rest of the read
further to its end (R141). -/
def Loader.readPart (l : Loader) : MemoryPart → Loader
  | .next sdi => sdi.foldl Loader.clockEdge l
  | .rest sdi => (sdi.foldl Loader.clockEdge l).readOnes longestRead

end Machine

end Sys2Proof
end

