-- ==== Sys2Proof/Machine/Flags.lean ====
section
/-!
DEFINITION. What the part's lines show: the pattern clock and lamp patterns (R158 to R160), DIRECT outputs (R161), lamp
test (R162), HORN (R164), SFAULT (R153) and ATTN (R175), each a function of the state it reads.
-/

namespace Sys2Proof

namespace Machine

/-- The life states in which the station samples, evaluates, receives and drives its outputs: LISTENING, ACTIVE,
WITHDRAWN and DUPLICATE (R31, R53, R119, R166). -/
def Life.running : Life → Bool
  | .loading => false
  | .listening => true
  | .active => true
  | .withdrawn => true
  | .duplicate => true
  | .configFault => false

/-- The life states in which a STATE request acts on the outgoing queue (R104). -/
def Life.queues : Life → Bool
  | .loading => false
  | .listening => true
  | .active => true
  | .withdrawn => true
  | .duplicate => false
  | .configFault => false

/-- The own station number (R138). -/
def State.own (s : State) : Station := s.life.stn

/-- An entry of the point mirror. -/
def State.pointEntry (s : State) (st : Station) (p : PointIx) : PointEntry := (s.pic.points.get st).get p

/-- An entry of the condition mirror; in the own row, the live record (R1). -/
def State.condEntry (s : State) (st : Station) (c : CondIx) : CondEntry := (s.pic.conds.get st).get c

/-- The live record of an own condition (R1). -/
def State.ownCond (s : State) (c : CondIx) : CondEntry := s.condEntry s.own c

/-! ### The pattern clock -/

/-- The pattern phase of a millisecond count: the count modulo 1000, divided by 125 and rounded down (R158). -/
def phaseOf (clock : Ms) : Fin 8 := ⟨clock.toNat % 1000 / 125, by omega⟩

/-- The patterns of a LAMP output (Table 9-4). -/
inductive Pattern where
  | off
  | steady
  | fast
  | slow
  | wink
  deriving DecidableEq, Repr

/-- Whether a pattern is on in a phase (Table 9-3, R160). -/
def Pattern.on : Pattern → Fin 8 → Bool
  | .off, _ => false
  | .steady, _ => true
  | .fast, p => p.val % 2 == 0
  | .slow, p => p.val < 4
  | .wink, p => p.val == 0

/-- Lamp test is on while the TEST level is active or the supervisor lamp test is on (R162). -/
def OutputUnit.testing (o : OutputUnit) : Bool := o.testLevel || o.lampTest

/-- The pattern of a LAMP output on a condition entry: the first row of Table 9-4 that applies. -/
def lampPattern (testing : Bool) (e : CondEntry) : Pattern :=
  if testing then .steady
  else if e.quality ≠ .good then .wink
  else match e.state with
    | .normal => .off
    | .alertUnack => .fast
    | .alertAck => .steady
    | .returnUnack => .slow
    | .unused => .off

/-! ### Output lines and HORN -/

/-- The level an output's setting gives from the picture, lamp test and the pattern phase (R156, R159 to R161). -/
def State.outLevel (s : State) (o : OutSetting) : Bool :=
  match o with
  | .unused => false
  | .lamp r => (lampPattern s.out.testing (s.condEntry r.station r.cond)).on s.out.phase
  | .directPoint st p invert doubt =>
    let e := s.pointEntry st p
    xor invert (if e.quality = .good then e.value else doubt)
  | .directCond r invert doubt =>
    let e := s.condEntry r.station r.cond
    xor invert (if e.quality = .good then e.truth else doubt)

/-- HORN is on exactly when the silence latch is clear and a horn-set condition of quality GOOD stands in ALERT_UNACK
(R164). -/
def State.hornLevel (s : State) : Bool :=
  !s.out.latch && s.settings.horn.any (fun r =>
    (s.condEntry r.station r.cond).quality == .good && (s.condEntry r.station r.cond).state == .alertUnack)

/-- Every output line and HORN recomputed from the state they read; off outside the running life states (R157,
R166). -/
def State.driveOutputs (s : State) : State :=
  s.onOut (fun o => { o with
    levels := .build (fun i => s.life.life.running && s.outLevel (s.settings.outs.get i))
    horn := s.life.life.running && s.hornLevel })

/-- The SFAULT line: asserted in CONFIG_FAULT, DUPLICATE and WITHDRAWN, and while the line is stuck (R153). -/
def LifeControl.driveSfault (l : LifeControl) : LifeControl :=
  { l with sfault := l.lineStuck || (match l.life with
      | .configFault => true
      | .duplicate => true
      | .withdrawn => true
      | .loading => false
      | .listening => false
      | .active => false) }

/-- The ATTN line: asserted while the journal holds a record and the accepted image has ATTN enabled (R175). -/
def Journal.driveAttn (enabled : Bool) (j : Journal) : Journal :=
  { j with attn := enabled && !j.records.isEmpty }

end Machine

end Sys2Proof
end

