-- ==== Sys2Proof/Machine/Render.lean ====
section
/-!
DEFINITION. How the Report Unit composes a line: what each reference renders (Table 12-2), tabs (R187), the cut at 96
characters (R188), and the UART rates (Table 12-1).
-/

namespace Sys2Proof

namespace Machine

/-- A decimal or hexadecimal digit 0–9, A–F as a character. -/
def digitChar (n : Nat) : Byte := byteOf (if n < 10 then 0x30 + n else 0x41 + (n - 10))

/-- A number in decimal without leading zeros, of at most `fuel + 1` digits. -/
def decimal : Nat → Nat → List Byte
  | 0, n => [digitChar (n % 10)]
  | fuel + 1, n => if n < 10 then [digitChar n] else decimal fuel (n / 10) ++ [digitChar (n % 10)]

/-- What @Pss.pp renders: 0, 1, F or ?. -/
def renderPoint (e : PointEntry) : List Byte :=
  match e.quality with
  | .good => if e.value then [0x31] else [0x30]
  | .fault => [0x46]
  | .unknown => [0x3F]

/-- What @Ass.c renders: ????, NORM, ALRT, ACKD, RTRN or UNUS. -/
def renderCond (e : CondEntry) : List Byte :=
  if e.quality ≠ .good then [0x3F, 0x3F, 0x3F, 0x3F]
  else match e.state with
    | .normal => [0x4E, 0x4F, 0x52, 0x4D]
    | .alertUnack => [0x41, 0x4C, 0x52, 0x54]
    | .alertAck => [0x41, 0x43, 0x4B, 0x44]
    | .returnUnack => [0x52, 0x54, 0x52, 0x4E]
    | .unused => [0x55, 0x4E, 0x55, 0x53]

/-- What a piece of a template other than a tab renders for a job (Table 12-2). -/
def State.renderPiece (s : State) (j : Job) : Piece → List Byte
  | .literal b => [b]
  | .point st p => renderPoint (s.pointEntry st p)
  | .alarm st c => renderCond (s.condEntry st c)
  | .event => match j.trigger with
    | .alert => [0x41, 0x4C, 0x52, 0x54]
    | .clear => [0x43, 0x4C, 0x52]
  | .cond => [digitChar j.cond.val]
  | .gen => [digitChar j.gen.val]
  | .time => decimal 6 (j.time.toNat / 1000)
  | .own => [digitChar (s.own.val / 10), digitChar (s.own.val % 10)]
  | .at => [0x40]

/-- The line with one more piece; a tab becomes one to eight spaces, up to the next multiple of 8 (R187). -/
def State.addPiece (s : State) (j : Job) (line : List Byte) (p : Piece) : List Byte :=
  if p = .literal 0x09 then line ++ List.replicate (8 - line.length % 8) 0x20
  else line ++ s.renderPiece j p

/-- A line of more than 96 characters keeps its first 95 and takes ~ in place of the rest (R188). -/
def cutLine (line : List Byte) : List Byte :=
  if line.length ≤ 96 then line else line.take 95 ++ [0x7E]

/-- The line composed for a job, with CR LF (R187, R188). -/
def State.composeLine (s : State) (j : Job) : List Byte :=
  cutLine (((parseTemplate (s.settings.templates.get j.template)).getD []).foldl (s.addPiece j) []) ++ [0x0D, 0x0A]

/-- The rate of TXD in bits per second (Table 12-1). -/
def baudOf (code : Nat) : Nat :=
  match code with
  | 0 => 9600
  | 1 => 19200
  | 2 => 38400
  | _ => 57600

/-- A level of TXD (R189). -/
inductive TxdLevel where
  | idle
  | active
  deriving DecidableEq, Repr

/-- The level of a data bit: 1 is the idle level and 0 the active one, as on any 8N1 line (log entry 19). -/
def txdBit (b : Bool) : TxdLevel := if b then .idle else .active

/-- A character on TXD, 8N1: a start bit at the active level, eight data bits least significant first, a stop bit at the
idle level (R189). -/
def txdLevels (b : Byte) : List TxdLevel :=
  .active :: ((List.range 8).map (fun i => txdBit (b.getLsbD i)) ++ [.idle])

/-- The level of TXD a number of bit times after the sending of the line began: its characters follow one another without
gap, and TXD rests at its idle level while the render state is IDLE (R189, R190). -/
def ReportUnit.txdAt (r : ReportUnit) (bitTime : Nat) : TxdLevel :=
  match r.line with
  | none => .idle
  | some line => (line.flatMap txdLevels).getD bitTime .idle

/-- How many bit times of the line being sent have passed by now, at the rate of Table 12-1. -/
def State.txdBits (s : State) : Nat := (s.clock - s.report.since).toNat * baudOf s.settings.uart / 1000

/-- The level of TXD now (R184, R189, R190). -/
def State.txd (s : State) : TxdLevel := s.report.txdAt s.txdBits

/-- How many characters of the line being sent have left by now, at 10 bit times a character (R189). -/
def State.charsSent (s : State) : Nat :=
  match s.report.line with
  | none => 0
  | some line => min line.length (s.txdBits / 10)

end Machine

end Sys2Proof
end

