-- ==== Sys2Proof/Machine/Ops.lean ====
section
/-!
DEFINITION. The shared operations of the blocks, each written once: time, the journal, picture writes and their change
notices, the outgoing queue, transmissions, the request table, acknowledgements, conditions, report jobs, the contention
window, and the changes of life state. Every command's meaning is a few of them.
-/

namespace Sys2Proof

namespace Machine

/-! ### Time -/

/-- The millisecond count set, with the pattern phase it gives (R158). -/
def State.setClock (t : Ms) (s : State) : State :=
  (s.onClock (fun _ => t)).onOut (fun o => { o with phase := phaseOf t })

/-- Time has come to the count at which a timer expires. An expiry taken late leaves the count as it is (log entry
5). -/
def State.reachTime (due : Ms) (s : State) : State :=
  if (due - s.clock).msb then s else s.setClock due

/-- The count some milliseconds from now: when a timer started now expires. -/
def State.after (s : State) (ms : Nat) : Ms := s.clock + BitVec.ofNat 32 ms

/-- One millisecond passes: what a step does when no command waits (log entry 5). Nothing happens while the RESET pin is
held (R140). -/
def State.tick (s : State) : State :=
  if s.held then s else (s.setClock (s.clock + 1)).driveOutputs

/-- The refresh period of a refresh code, in ms (R113). -/
def periodMs (code : Nat) : Nat :=
  match code with
  | 0 => 100
  | 1 => 200
  | 2 => 500
  | 3 => 1000
  | _ => 2000

/-- The own refresh period P. -/
def State.period (s : State) : Nat := periodMs s.settings.refreshCode

/-- The absence timer's duration for a refresh code: 3P (Table 1-5). -/
def absenceMs (code : Nat) : Nat := 3 * periodMs code

/-- The debounce time of a debounce code (Table 2-3). -/
def debounceMs (code : Nat) : Nat :=
  match code with
  | 0 => 5
  | 1 => 10
  | 2 => 20
  | 3 => 50
  | _ => 100

/-! ### The journal (Chapter 10) -/

/-- Whether the scope of the accepted image passes a record (Table 10-3). -/
def State.scopePasses (s : State) : RecordBody → Bool
  | .pointChange owner _ _ _ => s.settings.scope == .all || owner == s.own
  | .condChange owner c _ _ =>
    s.settings.scope == .all || owner == s.own ||
      (s.settings.scope == .attention && s.ann.attention.contains ⟨owner, c⟩)
  | _ => true

/-- The most records the journal holds (R171). -/
def journalSize : Nat := 32

/-- A record appended, or discarded and counted as lost when 32 are held (R171). -/
def Journal.append (j : Journal) (r : Record) : Journal :=
  if j.records.length < journalSize then { j with records := j.records ++ [r] }
  else { j with lost := min 65535 (j.lost + 1), overflowPending := true }

/-- A record handed to the Journal, which applies its scope and drives ATTN (R170, R171, R175). -/
def State.record (b : RecordBody) (s : State) : State :=
  if s.scopePasses b then
    s.onJournal (fun j => (j.append ⟨b, s.clock⟩).driveAttn s.settings.attnEnabled)
  else s

/-! ### Picture writes and change notices (R18) -/

/-- The item a notice names. -/
def Notice.item : Notice → Item
  | .presence st _ _ => .presence st
  | .point st p _ _ => .point st p
  | .cond st c _ _ => .cond st c

/-- A notice handed to the Condition Unit. -/
def State.notice (n : Notice) (s : State) : State :=
  s.onCond (fun u => { u with notices := u.notices ++ [n] })

/-- Whether a condition's notice calls for a clear of the silence latch (R95). -/
def callsForClear (before after : CondEntry) : Bool :=
  after.state == .alertUnack && after.quality == .good &&
    (before.state != .alertUnack || before.gen != after.gen)

/-- A condition's notice handed to the Condition Unit, and to the Annunciation Unit where the condition is in the horn
set and the notice calls for a clear of the silence latch. -/
def State.noticeCond (st : Station) (c : CondIx) (before after : CondEntry) (s : State) : State :=
  let s := s.notice (.cond st c before after)
  if s.settings.horn.contains ⟨st, c⟩ && callsForClear before after then
    s.onAnn (fun u => { u with clears := u.clears ++ [⟨st, c⟩] })
  else s

/-- A point entry set in the mirror. -/
def Picture.setPoint (st : Station) (p : PointIx) (e : PointEntry) (pic : Picture) : Picture :=
  { pic with points := pic.points.modify st (fun row => row.set p e) }

/-- A condition entry set in the mirror. -/
def Picture.setCond (st : Station) (c : CondIx) (e : CondEntry) (pic : Picture) : Picture :=
  { pic with conds := pic.conds.modify st (fun row => row.set c e) }

/-- A roster entry set. -/
def Picture.setRoster (st : Station) (r : RosterEntry) (pic : Picture) : Picture :=
  { pic with roster := pic.roster.set st r }

/-- A point entry written, with its change notice if it changed. -/
def State.writePoint (st : Station) (p : PointIx) (e : PointEntry) (s : State) : State :=
  if e = s.pointEntry st p then s else (s.onPic (Picture.setPoint st p e)).notice (.point st p (s.pointEntry st p) e)

/-- A condition entry written, with its change notice if it changed. -/
def State.writeCond (st : Station) (c : CondIx) (e : CondEntry) (s : State) : State :=
  if e = s.condEntry st c then s
  else (s.onPic (Picture.setCond st c e)).noticeCond st c (s.condEntry st c) e

/-- A roster entry written, with the notice of its presence item if presence changed. -/
def State.writeRoster (st : Station) (r : RosterEntry) (s : State) : State :=
  let t := s.onPic (Picture.setRoster st r)
  if r.presence = (s.pic.roster.get st).presence then t
  else t.notice (.presence st (s.pic.roster.get st).presence r.presence)

/-! ### The outgoing queue (Section 6.3) -/

/-- Whether an entry is the STATE entry. -/
def QEntry.isState (e : QEntry) : Bool :=
  match e.kind with
  | .state _ _ => true
  | .ackreq _ => false
  | .silence _ => false

/-- Whether an entry is the SILENCE entry. -/
def QEntry.isSilence (e : QEntry) : Bool :=
  match e.kind with
  | .state _ _ => false
  | .ackreq _ => false
  | .silence _ => true

/-- Whether an entry carries a request-table entry's ACKREQ. -/
def QEntry.isAckreq (r : ReqIx) (e : QEntry) : Bool :=
  match e.kind with
  | .state _ _ => false
  | .ackreq q => q == r
  | .silence _ => false

/-- Whether an entry's standing is URGENT; ACKREQ and SILENCE entries always are (Table 6-4). -/
def QEntry.urgent (e : QEntry) : Bool :=
  match e.kind with
  | .state u _ => u
  | .ackreq _ => true
  | .silence _ => true

/-- An entry with its changed mark as given; only a STATE entry holds one (Table 6-4). -/
def QEntry.setChanged (changed : Bool) (e : QEntry) : QEntry :=
  match e.kind with
  | .state u _ => { e with kind := .state u changed }
  | .ackreq _ => e
  | .silence _ => e

/-- An URGENT STATE entry that waits. -/
def QEntry.urgentState : QEntry := ⟨.state true false, false⟩

/-- A ROUTINE STATE entry that waits. -/
def QEntry.routineState : QEntry := ⟨.state false false, false⟩

/-- The first entry that meets a test, changed. -/
def changeFirst (p : QEntry → Bool) (f : QEntry → QEntry) : List QEntry → List QEntry
  | [] => []
  | e :: rest => if p e then f e :: rest else e :: changeFirst p f rest

/-- An urgent STATE request by the STATE entry it finds (Table 6-5). -/
def urgentRequest (q : List QEntry) : List QEntry :=
  match q.find? QEntry.isState with
  | none => q ++ [.urgentState]
  | some e =>
    if e.onLine then changeFirst QEntry.isState (QEntry.setChanged true) q
    else if e.urgent then q
    else q.filter (fun x => !x.isState) ++ [.urgentState]

/-- A routine STATE request by the STATE entry it finds (Table 6-5). -/
def routineRequest (q : List QEntry) : List QEntry :=
  match q.find? QEntry.isState with
  | none => q ++ [.routineState]
  | some _ => q

/-- A SILENCE request by the SILENCE entry it finds (Table 5-4, R111). -/
def silenceRequest (reach : BitVec 4) (q : List QEntry) : List QEntry :=
  match q.find? QEntry.isSilence with
  | none => q ++ [⟨.silence reach, false⟩]
  | some _ => changeFirst QEntry.isSilence (fun e => match e.kind with
      | .silence zones => { e with kind := .silence (zones ||| reach) }
      | .state _ _ => e
      | .ackreq _ => e) q

/-- An urgent STATE request, taken in LISTENING, ACTIVE and WITHDRAWN (R104). -/
def State.requestUrgent (s : State) : State :=
  if s.life.life.queues then s.onFrame (fun f => { f with queue := urgentRequest f.queue }) else s

/-- A routine STATE request (R104, R113). -/
def State.requestRoutine (s : State) : State :=
  if s.life.life.queues then s.onFrame (fun f => { f with queue := routineRequest f.queue }) else s

/-- An ACKREQ entry added at the tail for a request-table entry (R110). -/
def State.queueAckreq (r : ReqIx) (s : State) : State :=
  s.onFrame (fun f => { f with queue := f.queue ++ [⟨.ackreq r, false⟩] })

/-- The discarded-frame count raised; it saturates (R98). -/
def State.raiseDiscarded (s : State) : State :=
  s.onFrame (fun f => { f with discarded := min 65535 (f.discarded + 1) })

/-! ### The request table (Section 5.3) -/

/-- The place of the entry for a target. -/
def State.requestFor (s : State) (target : Station) : Option ReqIx :=
  (indices 8).find? (fun i => match s.ann.requests.get i with
    | some r => r.target == target
    | none => false)

/-- The lowest-numbered free place (R82). -/
def State.freePlace (s : State) : Option ReqIx :=
  (indices 8).find? (fun i => (s.ann.requests.get i).isNone)

/-- A place of the request table set. -/
def State.setRequest (i : ReqIx) (r : Option Request) (s : State) : State :=
  s.onAnn (fun u => { u with requests := u.requests.set i r })

/-- An entry freed; its ACKREQ leaves the queue in the same event, and a transmission of it runs on (R84, R110). -/
def State.freeRequest (i : ReqIx) (s : State) : State :=
  (s.setRequest i none).onFrame (fun f => { f with queue := f.queue.filter (fun e => !e.isAckreq i) })

/-- An entry freed with an ACK_FAILED record that carries its target and remaining mask. -/
def State.failRequest (i : ReqIx) (s : State) : State :=
  match s.ann.requests.get i with
  | none => s
  | some r => (s.record (.ackFailed r.target r.mask)).freeRequest i

/-- The entry for a target, if there is one, freed with ACK_FAILED (R87). -/
def State.failTarget (target : Station) (s : State) : State :=
  match s.requestFor target with
  | none => s
  | some i => s.failRequest i

/-- Every entry freed with ACK_FAILED, in ascending order of target (R88). -/
def State.failAll (s : State) : State := (indices 32).foldl (fun s t => s.failTarget t) s

/-- The request a new entry holds: three retries, no timer, its ACKREQ queued (R82). -/
def Request.new (target : Station) (mask : BitVec 8) (pairs : Tab 8 AckPair) : Request :=
  ⟨target, mask, pairs, 3, none, .queued, false⟩

/-- A request merged into an entry (R83, Table 5-3). -/
def Request.merge (r : Request) (mask : BitVec 8) (pairs : Tab 8 AckPair) : Request :=
  { r with
    mask := r.mask ||| mask
    pairs := .build (fun c => if mask.getLsbD c.val then pairs.get c else r.pairs.get c)
    retries := 3
    timer := match r.pending with
      | .none => none
      | .queued => r.timer
      | .onLine => r.timer
    pending := match r.pending with
      | .none => .queued
      | .queued => .queued
      | .onLine => .onLine
    sendAgain := match r.pending with
      | .none => r.sendAgain
      | .queued => r.sendAgain
      | .onLine => true }

/-- A request handed to the table in ACTIVE: merged, or taken by the lowest free place, or refused with ACK_REFUSED
(R82, R83). -/
def State.handRequest (target : Station) (mask : BitVec 8) (pairs : Tab 8 AckPair) (s : State) : State :=
  match s.requestFor target with
  | some i =>
    match s.ann.requests.get i with
    | none => s
    | some r =>
      let t := s.setRequest i (some (r.merge mask pairs))
      match r.pending with
      | .none => t.queueAckreq i
      | .queued => t
      | .onLine => t
  | none =>
    match s.freePlace with
    | some i => (s.setRequest i (some (.new target mask pairs))).queueAckreq i
    | none => s.record (.ackRefused target mask)

/-- What a masked condition's mirror shows when its pair is still the requested one (R86). -/
def AckPair.shown (a : AckPair) (e : CondEntry) : Bool :=
  (match a.phase with
    | .alert => e.state == .alertUnack
    | .returned => e.state == .returnUnack) && e.gen == a.gen

/-- The conditions of a mask that meet a test. -/
def maskWhere (f : CondIx → Bool) : BitVec 8 :=
  BitVec.ofBoolListLE ((List.ofFn f : List Bool)) |>.setWidth 8

/-- The entry for the origin of a STATE taken resolved against its row; an entry whose mask empties is freed (R86). -/
def State.resolveRequest (origin : Station) (first : Bool) (s : State) : State :=
  match s.requestFor origin with
  | none => s
  | some i =>
    match s.ann.requests.get i with
    | none => s
    | some r =>
      let mask := if first then 0 else
        maskWhere (fun c => r.mask.getLsbD c.val && (r.pairs.get c).shown (s.condEntry origin c))
      if mask = 0 then s.freeRequest i else s.setRequest i (some { r with mask := mask })

/-! ### Starting, completing and breaking off a transmission (Sections 6.5, 6.6) -/

/-- The own row as a STATE carries it (R107). -/
def State.ownState (s : State) : StateFrame where
  seq := s.frame.nextSeq
  first := s.frame.first
  refreshCode := s.settings.refreshCode
  values := BitVec.ofBoolListLE ((List.ofFn (fun p : Fin 16 => (s.pointEntry s.own p).value) : List Bool)) |>.setWidth 16
  faults := BitVec.ofBoolListLE ((List.ofFn (fun p : Fin 16 => (s.pointEntry s.own p).quality == .fault) : List Bool))
    |>.setWidth 16
  conds := .build (fun c => ⟨(s.ownCond c).state, (s.ownCond c).truth, (s.ownCond c).gen⟩)

/-- The payload of an entry, captured from the state of the station at this moment (R107). An ACKREQ entry's
request-table entry exists while the entry is queued (R110). -/
def State.payloadOf (s : State) (k : EntryKind) : Payload :=
  match k with
  | .state _ _ => .state s.ownState
  | .ackreq i =>
    match s.ann.requests.get i with
    | some r => .ackreq r.target r.mask r.pairs
    | none => .ackreq s.own 0 (.fill 8 ⟨.alert, 0⟩)
  | .silence zones => .silence zones

/-- Whether an entry waits and is URGENT. -/
def QEntry.waitsUrgent (e : QEntry) : Bool := !e.onLine && e.urgent

/-- Whether an entry waits. -/
def QEntry.waits (e : QEntry) : Bool := !e.onLine

/-- The test that picks an entry: the oldest urgent entry, or, with none WAITING, the ROUTINE STATE entry (R106). -/
def pickTest (q : List QEntry) : QEntry → Bool :=
  if q.any QEntry.waitsUrgent then QEntry.waitsUrgent else QEntry.waits

/-- The entry picked at a transmission's start (R106). -/
def pick (q : List QEntry) : Option QEntry := q.find? (pickTest q)

/-- A change of the request-table entry an ACKREQ carries; nothing for another kind or a freed entry. -/
def State.onRequestOf (k : EntryKind) (f : Request → Request) (s : State) : State :=
  match k with
  | .ackreq i =>
    match s.ann.requests.get i with
    | some r => s.setRequest i (some (f r))
    | none => s
  | .state _ _ => s
  | .silence _ => s

/-- A transmission starts: the Frame Unit picks an entry, its frame is captured, and the line state becomes TRANSMITTING
(R106, R107, R130). With no WAITING entry nothing starts. -/
def State.startTransmission (s : State) : State :=
  match pick s.frame.queue with
  | none => s
  | some e =>
    let bytes := (Frame.mk s.own (s.payloadOf e.kind)).bytes
    let s := s.onFrame (fun f => { f with
      queue := changeFirst (pickTest f.queue) (fun x => { x.setChanged false with onLine := true }) f.queue })
    let s := s.onRequestOf e.kind (fun r => { r with pending := .onLine })
    s.onLine (fun l => { l with state := .transmitting, slot := none, rx := .none, sending := some bytes })

/-- A quiet start: in ACTIVE and QUIET a station that holds a WAITING entry starts at once (R128). -/
def State.quietStart (s : State) : State :=
  if s.life.life = .active ∧ s.line.state = .quiet then s.startTransmission else s

/-- What ends every event that can change the picture, the outgoing queue, the count or the latch: the quiet start it
calls for, and the lines recomputed (R128, R157; log entry 6). -/
def State.settle (s : State) : State := s.quietStart.driveOutputs

/-- The entry whose frame is on the line, unless it was freed meanwhile (R110). -/
def State.onLineEntry (s : State) : Option QEntry := s.frame.queue.find? QEntry.onLine

/-- Whether the own frame is being sent: ACTIVE, TRANSMITTING, and not yet in its tail (R130, R133). -/
def State.transmitting (s : State) : Bool :=
  s.life.life == .active && s.line.state == .transmitting && s.line.sending.isSome

/-- The entry whose frame is on the line goes back to WAITING in its place, its changed mark cleared (R109); an ACKREQ's
request-table entry returns to QUEUED (R84). -/
def State.breakOff (s : State) : State :=
  let s := match s.onLineEntry with
    | none => s
    | some e => s.onRequestOf e.kind (fun r => { r with pending := .queued, sendAgain := false })
  let s := s.onFrame (fun f => { f with
    queue := changeFirst QEntry.onLine (fun x => { x.setChanged false with onLine := false }) f.queue })
  s.onLine (fun l => { l with sending := none })

/-- A STATE completes: the sequence advances, FIRST is cleared, the refresh timer restarts, and the entry leaves the
queue or, if changed, joins the tail as URGENT (R108, R112, R113, R115). -/
def State.completeState (changed : Bool) (s : State) : State :=
  s.onFrame (fun f => { f with
    queue := f.queue.filter (fun x => !x.onLine) ++ (if changed then [.urgentState] else [])
    nextSeq := f.nextSeq + 1
    first := false
    refresh := some (s.after s.period) })

/-- An ACKREQ completes: its entry leaves the queue; with send again clear the retry timer starts, and with it set the
ACKREQ is queued again (R84, R108). -/
def State.completeAckreq (i : ReqIx) (s : State) : State :=
  let s := s.onFrame (fun f => { f with queue := f.queue.filter (fun x => !x.onLine) })
  match s.ann.requests.get i with
  | none => s
  | some r =>
    if r.sendAgain then
      (s.setRequest i (some { r with sendAgain := false, pending := .queued })).queueAckreq i
    else s.setRequest i (some { r with pending := .none, timer := some (s.after 200) })

/-- The own transmission completes; one whose entry was freed touches neither the queue nor the table (R108, R110). -/
def State.complete (s : State) : State :=
  match s.onLineEntry with
  | none => s
  | some e =>
    match e.kind with
    | .state _ changed => s.completeState changed
    | .ackreq i => s.completeAckreq i
    | .silence _ => s.onFrame (fun f => { f with queue := f.queue.filter (fun x => !x.onLine) })

/-! ### Report jobs (Sections 12.2, 12.3) -/

/-- With the unit IDLE and a job queued, the head job leaves and its line is composed and sent (R187). -/
def State.startReport (s : State) : State :=
  match s.report.line, s.report.jobs with
  | none, j :: rest => s.onReport (fun _ => ⟨rest, some (s.composeLine j), s.clock⟩)
  | _, _ => s

/-- The most jobs the queue holds (R186). -/
def jobQueueSize : Nat := 6

/-- A job arrives: it joins the queue, and is started at once in an idle unit; or it is dropped with REPORT_DROPPED
(R186, R187). -/
def State.addJob (j : Job) (s : State) : State :=
  if s.report.jobs.length < jobQueueSize then
    (s.onReport (fun r => { r with jobs := r.jobs ++ [j] })).startReport
  else s.record (.reportDropped s.own j.cond j.trigger)

/-! ### Annunciation (Chapter 4) -/

/-- The state an edge leads to, by class; none where the state stays (Tables 4-2 to 4-4). -/
def nextByEdge : AnnClass → AnnState → Bool → Option AnnState
  | .lock, .normal, true => some .alertUnack
  | .lock, .alertAck, false => some .normal
  | .ring, .normal, true => some .alertUnack
  | .ring, .alertAck, false => some .returnUnack
  | .ring, .returnUnack, true => some .alertUnack
  | .follow, .normal, true => some .alertUnack
  | .follow, .alertUnack, false => some .normal
  | .follow, .alertAck, false => some .normal
  | _, _, _ => none

/-- The state a matching acknowledgement leads to, by class and sequence truth (Tables 4-2 to 4-4). -/
def nextByAck : AnnClass → AnnState → Bool → Option AnnState
  | .lock, .alertUnack, truth => some (if truth then .alertAck else .normal)
  | .ring, .alertUnack, truth => some (if truth then .alertAck else .returnUnack)
  | .ring, .returnUnack, _ => some .normal
  | .follow, .alertUnack, _ => some .alertAck
  | _, _, _ => none

/-- The generation after a change: advanced at an entry into ALERT_UNACK and at no other (R59). -/
def genAfter (new : AnnState) (g : Gen) : Gen := if new = .alertUnack then g + 1 else g

/-- The report job of a change, where its condition's field names a template (R70). -/
def State.reportChange (c : CondIx) (new : AnnState) (g : Gen) (s : State) : State :=
  let cs := s.settings.conds.get c
  match new with
  | .alertUnack =>
    match cs.onAlert with
    | some t => s.addJob ⟨t, .alert, c, g, s.clock⟩
    | none => s
  | .normal =>
    match cs.onClear with
    | some t => s.addJob ⟨t, .clear, c, g, s.clock⟩
    | none => s
  | .alertAck => s
  | .returnUnack => s
  | .unused => s

/-- A change of an own condition's annunciation state: its record, the write with its notice, the urgent STATE request
and the report job, in this order (R68). -/
def State.annChange (c : CondIx) (new : AnnState) (s : State) : State :=
  let e := s.ownCond c
  let g := genAfter new e.gen
  ((s.record (.condChange s.own c new g)).writeCond s.own c { e with state := new, gen := g }).requestUrgent.reportChange
    c new g

/-- The class of an own condition. -/
def State.classOfCond (s : State) (c : CondIx) : AnnClass := (s.settings.conds.get c).annClass

/-- A truth edge taken: the sequence truth takes its level and the state moves by the condition's class (R60, R63 to
R65). -/
def State.applyEdge (c : CondIx) (rising : Bool) (s : State) : State :=
  let s := s.onAnn (fun u => { u with seqTruth := u.seqTruth.set c rising })
  match nextByEdge (s.classOfCond c) (s.ownCond c).state rising with
  | none => s
  | some new => s.annChange c new

/-- The first edge of a condition taken out of a list of edges. -/
def dropEdge (c : CondIx) : List Edge → List Edge
  | [] => []
  | e :: rest => if e.cond = c then rest else e :: dropEdge c rest

/-- The oldest edge handed for a condition, taken (R60). -/
def State.takeEdge (c : CondIx) (s : State) : State :=
  match s.ann.edges.find? (fun e => e.cond == c) with
  | none => s
  | some e => (s.onAnn (fun u => { u with edges := dropEdge c u.edges })).applyEdge c e.rising

/-- An acknowledgement applied: a match moves the condition by its class, and one that does not match is ignored (R61).
-/
def State.applyAck (c : CondIx) (a : AckPair) (s : State) : State :=
  if a.shown (s.ownCond c) then
    match nextByAck (s.classOfCond c) (s.ownCond c).state (s.ann.seqTruth.get c) with
    | none => s
    | some new => s.annChange c new
  else s

/-- Whether a state is one a press answers: ALERT_UNACK or RETURN_UNACK. -/
def AnnState.answerable : AnnState → Bool
  | .normal => false
  | .alertUnack => true
  | .alertAck => false
  | .returnUnack => true
  | .unused => false

/-- The pair an acknowledgement of an entry carries (R62, R78). -/
def CondEntry.ackPair (e : CondEntry) : AckPair :=
  ⟨if e.state = .returnUnack then .returned else .alert, e.gen⟩

/-- A local acknowledgement formed from the condition's state and generation at this moment and applied (R62). -/
def State.localAck (c : CondIx) (s : State) : State := s.applyAck c (s.ownCond c).ackPair

/-- Whether a press selects a reference: in the attention set, quality GOOD, ALERT_UNACK or RETURN_UNACK (R78). -/
def State.selects (s : State) (st : Station) (c : CondIx) : Bool :=
  s.ann.attention.contains ⟨st, c⟩ && (s.condEntry st c).quality == .good && (s.condEntry st c).state.answerable

/-- A request in the life state as it stands: handed to the table in ACTIVE, refused with ACK_REFUSED otherwise (R79,
R82). -/
def State.sendRequest (target : Station) (mask : BitVec 8) (pairs : Tab 8 AckPair) (s : State) : State :=
  if s.life.life = .active then s.handRequest target mask pairs else s.record (.ackRefused target mask)

/-- An ACK press or ACK_ALL: the own conditions selected, then one request per owner, in ascending order (R78). The
selection and the pairs are those of the picture at the press. -/
def State.ackPress (s : State) : State :=
  let afterOwn := (indices 8).foldl (fun t c => if s.selects s.own c then t.localAck c else t) s
  (indices 32).foldl (fun t st =>
    let mask := maskWhere (fun c => s.selects st c)
    if st = s.own ∨ mask = 0 then t
    else t.sendRequest st mask (.build (fun c => (s.condEntry st c).ackPair))) afterOwn

/-- The silence latch set or cleared (R92). -/
def State.setLatch (b : Bool) (s : State) : State := s.onOut (fun o => { o with latch := b })

/-- A SILENCE press or command: the latch set and, in ACTIVE, a SILENCE frame asked for (R93). -/
def State.silencePress (s : State) : State :=
  let t := s.setLatch true
  if s.life.life = .active then t.onFrame (fun f => { f with queue := silenceRequest s.settings.reach f.queue }) else t

/-- An ACKREQ taken: for the own station in ACTIVE, an acknowledgement per masked condition, C0 to C7, then an urgent
STATE request (R90). -/
def State.takeAckreq (target : Station) (mask : BitVec 8) (pairs : Tab 8 AckPair) (s : State) : State :=
  if target = s.own ∧ s.life.life = .active then
    ((indices 8).foldl (fun t c => if mask.getLsbD c.val then t.applyAck c (pairs.get c) else t) s).requestUrgent
  else s

/-- A received SILENCE: the latch set where the zone mask includes the own zone (R94). -/
def State.takeSilence (zones : BitVec 4) (s : State) : State :=
  if zones.getLsbD s.settings.zone.val then s.setLatch true else s

/-! ### Conditions (Chapter 3) -/

/-- The value of a term from the entry it names, as it stands in the picture (Tables 3-4 and 3-5, R40, R42). -/
def State.termValue (s : State) : Term → Bool
  | .point st p expect doubt =>
    let e := s.pointEntry st p
    if e.quality = .good then e.value == expect else doubt
  | .fault st p => (s.pointEntry st p).quality == .fault
  | .alarm st c doubt =>
    let e := s.condEntry st c
    if e.quality = .good then
      match e.state with
      | .normal => false
      | .alertUnack => true
      | .alertAck => true
      | .returnUnack => true
      | .unused => doubt
    else doubt
  | .present st => match (s.pic.roster.get st).presence with
    | .present => true
    | .self => true
    | .unheard => false
    | .absent => false
    | .notExpected => false

/-- The raw result of a condition's terms (Table 3-6). -/
def State.rawResult (s : State) (cs : CondSetting) : Bool :=
  match cs.combine with
  | .all => cs.terms.all s.termValue
  | .any => cs.terms.any s.termValue
  | .atLeast => cs.k ≤ cs.terms.countP s.termValue

/-- An edge of an own condition's truth: written with its notice, handed to the Annunciation Unit, and an urgent STATE
requested (R52). -/
def State.truthEdge (c : CondIx) (rising : Bool) (s : State) : State :=
  ((s.writeCond s.own c { s.ownCond c with truth := rising }).onAnn
    (fun u => { u with edges := u.edges ++ [⟨c, rising⟩] })).requestUrgent

/-- The running fields of an own condition set. -/
def State.setRun (c : CondIx) (r : CondRun) (s : State) : State :=
  s.onCond (fun u => { u with run := u.run.set c r })

/-- The move of a condition's evaluation state on a raw result that differs from the stored one (Table 3-7). In
QUALIFYING and TRUE the raw result is 1, in FALSE and RELEASING 0 (R49), so no other move arises. -/
def State.moveRaw (c : CondIx) (raw : Bool) (s : State) : State :=
  let cs := s.settings.conds.get c
  let r := { s.cond.run.get c with raw := raw }
  match r.eval, raw with
  | .isFalse, true =>
    if cs.hold = 0 then (s.setRun c { r with eval := .isTrue }).truthEdge c true
    else s.setRun c { r with eval := .qualifying, hold := some (s.after (100 * cs.hold)) }
  | .qualifying, false => s.setRun c { r with eval := .isFalse, hold := none }
  | .isTrue, false =>
    if cs.release = 0 then (s.setRun c { r with eval := .isFalse }).truthEdge c false
    else s.setRun c { r with eval := .releasing, release := some (s.after (100 * cs.release)) }
  | .releasing, true => s.setRun c { r with eval := .isTrue, release := none }
  | .isFalse, false => s.setRun c r
  | .qualifying, true => s.setRun c r
  | .isTrue, true => s.setRun c r
  | .releasing, false => s.setRun c r

/-- One evaluation of an enabled condition (R45). -/
def State.evaluate (c : CondIx) (s : State) : State :=
  let cs := s.settings.conds.get c
  let raw := s.rawResult cs
  if cs.enabled ∧ raw ≠ (s.cond.run.get c).raw then s.moveRaw c raw else s

/-- Whether a term reads an item (R45). -/
def Term.reads (t : Term) (i : Item) : Bool :=
  match t with
  | .point st p _ _ => i == .point st p
  | .fault st p => i == .point st p
  | .alarm st c _ => i == .cond st c
  | .present st => i == .presence st

/-- The evaluations a notice causes: each enabled condition with a term that reads its item, once, C0 to C7 (R45). -/
def State.evaluateItem (i : Item) (s : State) : State :=
  (indices 8).foldl (fun t c => if (t.settings.conds.get c).terms.any (fun m => m.reads i) then t.evaluate c else t) s

/-- The entry evaluation: every enabled condition once, C0 to C7 (R47). -/
def State.evaluateAll (s : State) : State := (indices 8).foldl (fun t c => t.evaluate c) s

/-- The edges handed so far, each taken in order. -/
def State.takeEdges (s : State) : State := s.ann.edges.foldl (fun t e => t.takeEdge e.cond) s

/-! ### Points (Chapter 2) -/

/-- The even line of a pair. -/
def evenLine (k : PairIx) : PointIx := ⟨2 * k.val, by omega⟩

/-- The odd line of a pair. -/
def oddLine (k : PairIx) : PointIx := ⟨2 * k.val + 1, by omega⟩

/-- The pair a line belongs to. -/
def pairOf (n : PointIx) : PairIx := ⟨n.val / 2, by omega⟩

/-- Whether two lines form a pair: the even line's mode is PAIR (R27). -/
def Settings.isPair (set : Settings) (k : PairIx) : Bool := (set.lines.get (evenLine k)).mode == .pair

/-- Whether a line is debounced: not the odd line of a pair, and not UNUSED (R24, R30). -/
def Settings.debounces (set : Settings) (n : PointIx) : Bool :=
  !(n.val % 2 == 1 && set.isPair (pairOf n)) && (set.lines.get n).mode != .unused

/-- The debounce time of a line, or of a pair through its even line (R23). -/
def Settings.debounceTime (set : Settings) (n : PointIx) : Nat := debounceMs (set.lines.get n).debounce

/-- The point value a mode gives for an accepted level (Table 2-2). -/
def LineMode.value (m : LineMode) (active : Bool) : Bool :=
  match m with
  | .normal => active
  | .inverted => !active
  | .pair => active
  | .unused => false

/-- A change of level at a debounced input (Table 2-4): a departure starts a candidate and its timer, a return drops
them. -/
def Debouncer.level (d : Debouncer) (active : Bool) (due : Ms) : Debouncer :=
  match d.candidate with
  | none => if active = d.accepted then d else { d with candidate := some active, timer := some due }
  | some _ => if active = d.accepted then { d with candidate := none, timer := none } else d

/-- The expiry of a debounce timer: the candidate becomes the accepted level (Table 2-4). -/
def Debouncer.expire (d : Debouncer) : Debouncer :=
  match d.candidate with
  | none => { d with timer := none }
  | some level => ⟨level, none, none⟩

/-- A line's debouncer set. -/
def State.setLine (n : PointIx) (d : Debouncer) (s : State) : State :=
  s.onInput (fun u => { u with lines := u.lines.set n d })

/-- A pair's supervision set. -/
def State.setPair (k : PairIx) (p : PairState) (s : State) : State :=
  s.onInput (fun u => { u with pairs := u.pairs.set k p })

/-- The present relation of a pair, from the present levels of its two lines (R28). -/
def State.relationNow (s : State) (k : PairIx) : Relation :=
  if s.pins.lines.get (evenLine k) = s.pins.lines.get (oddLine k) then .agree else .complement

/-- Pair supervision on a change of level of either line (Table 2-5). -/
def State.supervise (k : PairIx) (s : State) : State :=
  let p := s.input.pairs.get k
  if s.relationNow k = p.accepted then s.setPair k { p with timer := none }
  else if p.timer.isSome then s
  else s.setPair k { p with timer := some (s.after (s.settings.debounceTime (evenLine k))) }

/-- Own points written in one event: their records, their writes with notices, one urgent STATE request (R26, R29). -/
def State.writeOwnPoints (l : List (PointIx × PointEntry)) (s : State) : State :=
  let s := l.foldl (fun t x => t.record (.pointChange t.own x.1 x.2.value (x.2.quality == .fault))) s
  (l.foldl (fun t x => t.writePoint t.own x.1 x.2) s).requestUrgent

/-- An accepted change of a line written: the line's own point, or both points of its pair, with quality unchanged
(R26). -/
def State.acceptedChange (n : PointIx) (active : Bool) (s : State) : State :=
  let value := (s.settings.lines.get n).mode.value active
  let entry := fun p : PointIx => (p, { s.pointEntry s.own p with value := value })
  if s.settings.isPair (pairOf n) then s.writeOwnPoints [entry (evenLine (pairOf n)), entry (oddLine (pairOf n))]
  else s.writeOwnPoints [entry n]

/-- The quality of a pair's accepted relation (R29). -/
def Relation.quality : Relation → Quality
  | .agree => .fault
  | .complement => .good

/-- The quality of a pair written to both its points, with values unchanged (R29). -/
def State.pairQuality (k : PairIx) (q : Quality) (s : State) : State :=
  let entry := fun p : PointIx => (p, { s.pointEntry s.own p with quality := q })
  s.writeOwnPoints [entry (evenLine k), entry (oddLine k)]

/-- The debouncer of a control input. -/
def PointUnit.control (u : PointUnit) : Control → Debouncer
  | .ack => u.ack
  | .silence => u.silence
  | .test => u.test

/-- A control input's debouncer set. -/
def State.setControl (i : Control) (d : Debouncer) (s : State) : State :=
  s.onInput (fun u => match i with
    | .ack => { u with ack := d }
    | .silence => { u with silence := d }
    | .test => { u with test := d })

/-- The level at a control input's pin. -/
def Pins.control (p : Pins) : Control → Bool
  | .ack => p.ack
  | .silence => p.silence
  | .test => p.test

/-- What a control input's accepted change hands on: a press of ACK or SILENCE, or TEST's level; a release is handed to
no block (R33 to R35). -/
def State.controlChange (i : Control) (active : Bool) (s : State) : State :=
  match i with
  | .ack => if active then s.ackPress else s
  | .silence => if active then s.silencePress else s
  | .test => s.onOut (fun o => { o with testLevel := active })

/-! ### The contention window (Section 7.4) -/

/-- A window begins: line state WINDOW, current slot 0 (R124). -/
def State.beginWindow (s : State) : State :=
  s.onLine (fun l => { l with state := .window, slot := some 0, nextSlot := 0, rx := .none })

/-- The own rank under a winner number: (own number − W − 1) modulo 32 (R125). -/
def rank (own w : Station) : Station := own - w - 1

/-! ### Life (Chapter 8) -/

/-- A change of Life Control, with SFAULT driven (R153). -/
def State.setLife (f : LifeControl → LifeControl) (s : State) : State := s.onLife (fun l => (f l).driveSfault)

/-- Leaving ACTIVE stops the driving of the line: an own frame is broken off and the station goes on as a receiver of
it, an own jam stops where it stands (R133). -/
def State.stopDriving (s : State) : State :=
  match s.line.state with
  | .transmitting => s.breakOff.onLine (fun l => { l with state := .receiving, slot := none, rx := .ownFrame })
  | .jamming => s.onLine (fun l => { l with jam := [] })
  | .quiet => s
  | .window => s
  | .receiving => s
  | .stuck => s

/-- The withdraw duration of a draw: a whole number of milliseconds from 2P to 3P (R151). -/
def withdrawMs (period draw : Nat) : Nat := 2 * period + draw % (period + 1)

/-- Entry to WITHDRAWN, after the frame on the line has been broken off without a jam: the SILENCE entry and the ACKREQ
entries leave the queue, a STATE entry is made URGENT, the refresh timer stops, the records are handed and the withdraw
timer starts (R114, R132, R150). -/
def State.enterWithdrawn (s : State) : State :=
  let s := s.onFrame (fun f => { f with
    queue := (f.queue.filter (fun e => !e.isSilence)).map (fun e => match e.kind with
      | .state _ changed => { e with kind := .state true changed }
      | .ackreq _ => e
      | .silence _ => e)
    refresh := none })
  let s := (s.record (.withdrawn s.own)).failAll
  let duration := withdrawMs s.period (Config.withdrawDraw s.life.draws)
  s.setLife (fun l => { l with
    life := .withdrawn
    withdraw := some (s.after duration)
    withdrawFor := duration
    draws := l.draws + 1 })

/-- Entry to DUPLICATE: driving and timers stop, the DUPLICATE record and the ACK_FAILED records are handed, the queue
empties, SFAULT is asserted (R114, R133, R149). -/
def State.enterDuplicate (s : State) : State :=
  let s := s.stopDriving
  let s := (s.record (.duplicate s.own)).failAll
  let s := s.onFrame (fun f => { f with queue := [], refresh := none })
  s.setLife (fun l => { l with life := .duplicate, listen := none })

/-- A duplicate notice acts in LISTENING and ACTIVE and is dropped otherwise (R148). -/
def State.duplicateNotice (s : State) : State :=
  match s.life.life with
  | .listening => s.enterDuplicate
  | .active => s.enterDuplicate
  | .loading => s
  | .withdrawn => s
  | .duplicate => s
  | .configFault => s

/-- Entry to LISTENING starts the listen timer with 2P and makes W UNKNOWN (R119, R146). -/
def State.enterListening (s : State) : State :=
  (s.setLife (fun l => { l with life := .listening, listen := some (s.after (2 * s.period)), withdraw := none })).onLine
    (fun l => { l with w := none })

/-! ### Frames into the picture (Sections 1.3 to 1.6) -/

/-- A point entry as a STATE writes it (R14). -/
def StateFrame.point (f : StateFrame) (p : PointIx) : PointEntry :=
  ⟨f.values.getLsbD p.val, if f.faults.getLsbD p.val then .fault else .good⟩

/-- A condition entry as a STATE writes it (R14). -/
def StateFrame.cond (f : StateFrame) (c : CondIx) : CondEntry :=
  let r := f.conds.get c
  ⟨r.state, r.truth, r.gen, .good⟩

/-- Whether a peer point's change makes a POINT_CHANGE record: its value changes, or its quality becomes FAULT or ceases
to be FAULT (R20). -/
def pointRecorded (before after : PointEntry) : Bool :=
  before.value != after.value || (before.quality == .fault) != (after.quality == .fault)

/-- Whether a peer condition's change makes a COND_CHANGE record: its annunciation state or generation changes (R20). -/
def condRecorded (before after : CondEntry) : Bool :=
  before.state != after.state || before.gen != after.gen

/-- The record and the notice of a peer point rewritten by a STATE (R14, R20). -/
def State.pointRewritten (st : Station) (p : PointIx) (before after : PointEntry) (s : State) : State :=
  let s := if pointRecorded before after then
    s.record (.pointChange st p after.value (after.quality == .fault)) else s
  if before = after then s else s.notice (.point st p before after)

/-- The record and the notice of a peer condition rewritten by a STATE (R14, R20). -/
def State.condRewritten (st : Station) (c : CondIx) (before after : CondEntry) (s : State) : State :=
  let s := if condRecorded before after then s.record (.condChange st c after.state after.gen) else s
  if before = after then s else s.noticeCond st c before after

/-- The record taking a STATE makes for its origin's roster entry, if any (R10 to R12). -/
def rosterRecord (origin : Station) (r : RosterEntry) (f : StateFrame) : Option RecordBody :=
  match r.presence with
  | .present =>
    if f.first then (if r.restartSeen then none else some (.peerRestart origin))
    else match r.lastSeq with
      | some last => if f.seq = last + 1 then none else some (.seqGap origin (f.seq - last - 1))
      | none => none
  | .unheard => some (.peerPresent origin)
  | .absent => some (.peerPresent origin)
  | .self => none
  | .notExpected => none

/-- The origin's roster entry after a STATE is taken (R10 to R13, R15). -/
def State.rosterAfter (s : State) (r : RosterEntry) (f : StateFrame) : RosterEntry :=
  { r with
    presence := .present
    lastSeq := some f.seq
    refreshCode := some (min 4 f.refreshCode)
    absence := some (s.after (absenceMs (min 4 f.refreshCode)))
    restartSeen := match r.presence with
      | .present => f.first
      | .unheard => r.restartSeen
      | .absent => r.restartSeen
      | .self => r.restartSeen
      | .notExpected => r.restartSeen }

/-- The origin's row and roster entry rewritten as one event (R14). -/
def Picture.takeRow (origin : Station) (r : RosterEntry) (f : StateFrame) (pic : Picture) : Picture :=
  { pic with
    roster := pic.roster.set origin r
    points := pic.points.set origin (.build f.point)
    conds := pic.conds.set origin (.build f.cond) }

/-- A STATE taken from an expected peer: the row written, then the record, the notices and records of its entries, and
the row-taken notice, in this order (R14, R19). -/
def State.takeRow (origin : Station) (f : StateFrame) (s : State) : State :=
  let r := s.pic.roster.get origin
  let t := s.onPic (Picture.takeRow origin (s.rosterAfter r f) f)
  let t := match rosterRecord origin r f with
    | some b => t.record b
    | none => t
  let t := if r.presence = .present then t else t.notice (.presence origin r.presence .present)
  let t := (indices 16).foldl (fun t p => t.pointRewritten origin p (s.pointEntry origin p) (f.point p)) t
  let t := (indices 8).foldl (fun t c => t.condRewritten origin c (s.condEntry origin c) (f.cond c)) t
  t.resolveRequest origin f.first

/-- A STATE from a stranger: the first one since reset makes a STRANGER record (R9). -/
def State.strangerState (origin : Station) (s : State) : State :=
  let r := s.pic.roster.get origin
  if r.strangerLogged then s
  else (s.record (.stranger origin)).onPic (Picture.setRoster origin { r with strangerLogged := true })

/-- A STATE handed to the Picture Unit, by its origin's presence (Table 1-4). -/
def State.takeState (origin : Station) (f : StateFrame) (s : State) : State :=
  match (s.pic.roster.get origin).presence with
  | .self => s
  | .notExpected => s.strangerState origin
  | .unheard => s.takeRow origin f
  | .present => s.takeRow origin f
  | .absent => s.takeRow origin f

/-- An ACKREQ or SILENCE heard from a PRESENT peer restarts its absence timer (R15). -/
def State.heard (origin : Station) (s : State) : State :=
  let r := s.pic.roster.get origin
  if r.presence = .present then
    s.onPic (Picture.setRoster origin { r with absence := some (s.after (absenceMs (r.refreshCode.getD 4))) })
  else s

/-- A frame valid on the line taken by the Frame Unit: one of no kind or of a wrong length is discarded (R99), one that
bears the own number makes a duplicate notice (R101), and the others are dispatched (R100). -/
def State.receiveFrame (bytes : List Byte) (s : State) : State :=
  let s := if (decodeFrame bytes).isNone then s.raiseDiscarded else s
  if frameOrigin bytes = s.own then s.duplicateNotice
  else match decodeFrame bytes with
    | none => s
    | some ⟨origin, .state f⟩ => s.takeState origin f
    | some ⟨origin, .ackreq target mask pairs⟩ => (s.heard origin).takeAckreq target mask pairs
    | some ⟨origin, .silence zones⟩ => (s.heard origin).takeSilence zones

/-- A peer's absence: its row UNKNOWN with values kept, then the record, the notices and the absence notice, in this
order (R16). -/
def State.becomeAbsent (st : Station) (s : State) : State :=
  let r := s.pic.roster.get st
  let t := s.onPic (fun pic => { pic with
    roster := pic.roster.set st { r with presence := .absent, absence := none, restartSeen := false }
    points := pic.points.modify st (fun row => .build (fun p => { row.get p with quality := .unknown }))
    conds := pic.conds.modify st (fun row => .build (fun c => { row.get c with quality := .unknown })) })
  let t := (t.record (.peerAbsent st)).notice (.presence st r.presence .absent)
  let t := (indices 16).foldl (fun t p =>
    if s.pointEntry st p = t.pointEntry st p then t
    else t.notice (.point st p (s.pointEntry st p) (t.pointEntry st p))) t
  let t := (indices 8).foldl (fun t c =>
    if s.condEntry st c = t.condEntry st c then t
    else t.noticeCond st c (s.condEntry st c) (t.condEntry st c)) t
  t.failTarget st

/-! ### Acceptance of the image (R144) -/

/-- The attention set: the source of every LAMP output and every member of the horn set, each held once (R77). -/
def Settings.attentionSet (set : Settings) : List CondRef :=
  (set.outs.list.filterMap (fun o => match o with
    | .lamp r => some r
    | .unused => none
    | .directPoint _ _ _ _ => none
    | .directCond _ _ _ => none) ++ set.horn).eraseDups

/-- Step 1: the settings handed to the blocks, the attention set formed, the fault code NONE. -/
def State.takeSettings (set : Settings) (s : State) : State :=
  ((s.onSettings (fun _ => set)).onAnn (fun u => { u with attention := set.attentionSet })).setLife
    (fun l => { l with fault := .none })

/-- Step 2: the own entry becomes SELF and the expected peers UNHEARD; the own conditions take quality GOOD, and state
UNUSED where the image leaves them unused (R7). -/
def State.startPicture (s : State) : State :=
  let s := (indices 32).foldl (fun t st =>
    let r := t.pic.roster.get st
    if st = t.own then t.writeRoster st { r with presence := .self }
    else if t.settings.expected.getLsbD st.val then t.writeRoster st { r with presence := .unheard }
    else t) s
  (indices 8).foldl (fun t c =>
    let e := t.ownCond c
    t.writeCond t.own c { e with
      quality := .good
      state := if (t.settings.conds.get c).enabled then e.state else .unused }) s

/-- The level a point's value is derived from: of the even line for both points of a pair (Table 2-2). -/
def Settings.valueLine (set : Settings) (n : PointIx) : PointIx :=
  if set.isPair (pairOf n) then evenLine (pairOf n) else n

/-- Step 3: accepted levels, pairs, control inputs and own points take their start values from the levels of this
moment; no record and no request is made (R32, R35). Whether the odd line of a pair is a sensed line here the manual
leaves open; the model leaves it at its reset value, as it does an UNUSED line, for it is never debounced (log entry
17). -/
def State.startPoints (s : State) : State :=
  let set := s.settings
  let s := s.onInput (fun u =>
    { lines := .build (fun n => if set.debounces n then ⟨s.pins.lines.get n, none, none⟩ else u.lines.get n)
      pairs := .build (fun k =>
        if set.isPair k then
          ⟨.complement, if s.relationNow k = .agree then some (s.after (set.debounceTime (evenLine k))) else none⟩
        else u.pairs.get k)
      ack := ⟨s.pins.ack, none, none⟩
      silence := ⟨s.pins.silence, none, none⟩
      test := ⟨s.pins.test, none, none⟩ })
  let s := s.onOut (fun o => { o with testLevel := s.pins.test })
  (indices 16).foldl (fun t n =>
    let l := set.valueLine n
    t.writePoint t.own n ⟨(set.lines.get l).mode.value (t.input.lines.get l).accepted, .good⟩) s

/-- Steps 5 and 6: the entry evaluation and the edges it makes, then the listen timer and the start-up wait (R47, R119,
R146; log entry 7). -/
def State.startRunning (s : State) : State :=
  (s.evaluateAll.takeEdges.enterListening).onLine (fun l =>
    { l with state := .receiving, slot := none, rx := .startupWait })

/-- The image accepted: the station enters LISTENING from LOADING in one event, the blocks in the order of R144. -/
def State.acceptImage (set : Settings) (s : State) : State :=
  let s := ((s.takeSettings set).setLife (fun l => { l with life := .listening })).startPicture.startPoints
  (s.record (.started s.own set.version)).startRunning

/-! ### The frame of every meaning -/

/-- What an event does: nothing while the RESET pin is held (R140), its effect otherwise. -/
def State.event (f : State → State) (s : State) : Host.Outcome State Fault Refusal :=
  .next (if s.held then s else f s)

end Machine

end Sys2Proof
end

