-- ==== Sys2Proof/Machine/Annunciation.lean ====
section
/-!
DEFINITION. The commands of the Annunciation Unit that no press or frame carries: TRUTH_EDGE, RETRY_TIMER_EXPIRY and
SILENCE_LATCH_CLEAR (Chapters 4 and 5).
-/

namespace Sys2Proof

namespace Machine

/-- TRUTH_EDGE: the oldest edge handed for the condition is taken (R60, R63). -/
def execTruthEdge (cond : CondIx) (s : State) : Host.Outcome State Fault Refusal :=
  s.event (fun s => if s.ann.edges.any (fun e => e.cond == cond) then (s.takeEdge cond).settle else s)

/-- An entry's retry timer expires: the ACKREQ is queued again, or with no retries left the entry fails (R85). -/
def State.retryExpiry (i : ReqIx) (s : State) : State :=
  match s.ann.requests.get i with
  | none => s
  | some r =>
    match r.timer with
    | none => s
    | some due =>
      let t := s.reachTime due
      (if 0 < r.retries then
        (t.setRequest i (some { r with retries := r.retries - 1, timer := none, pending := .queued })).queueAckreq i
      else t.failRequest i).settle

/-- RETRY_TIMER_EXPIRY (R85). -/
def execRetryTimerExpiry (entry : ReqIx) (s : State) : Host.Outcome State Fault Refusal :=
  s.event (State.retryExpiry entry)

/-- The oldest notice that calls for a clear is taken: the silence latch is cleared and HORN recomputed (R95, R165). -/
def State.latchClear (s : State) : State :=
  match s.ann.clears with
  | [] => s
  | _ :: rest => ((s.onAnn (fun u => { u with clears := rest })).setLatch false).driveOutputs

/-- SILENCE_LATCH_CLEAR (R95). -/
def execSilenceLatchClear (s : State) : Host.Outcome State Fault Refusal := s.event State.latchClear

end Machine

end Sys2Proof
end

