-- ==== Sys2Proof/Machine/Conditions.lean ====
section
/-!
DEFINITION. The commands of the Condition Unit: EVALUATION, HOLD_EXPIRY and RELEASE_EXPIRY (Chapter 3).
-/

namespace Sys2Proof

namespace Machine

/-- The Condition Unit takes the oldest notice (R45, R53). -/
def State.evaluation (s : State) : State :=
  match s.cond.notices with
  | [] => s
  | n :: rest => ((s.onCond (fun u => { u with notices := rest })).evaluateItem n.item).settle

/-- EVALUATION (R45). -/
def execEvaluation (s : State) : Host.Outcome State Fault Refusal := s.event State.evaluation

/-- A hold timer expires: QUALIFYING to TRUE with a rising edge (R48). -/
def State.holdExpiry (c : CondIx) (s : State) : State :=
  match (s.cond.run.get c).eval, (s.cond.run.get c).hold with
  | .qualifying, some due =>
    (((s.reachTime due).setRun c { s.cond.run.get c with eval := .isTrue, hold := none }).truthEdge c true).settle
  | _, _ => s

/-- HOLD_EXPIRY (R48). -/
def execHoldExpiry (cond : CondIx) (s : State) : Host.Outcome State Fault Refusal := s.event (State.holdExpiry cond)

/-- A release timer expires: RELEASING to FALSE with a falling edge (R48). -/
def State.releaseExpiry (c : CondIx) (s : State) : State :=
  match (s.cond.run.get c).eval, (s.cond.run.get c).release with
  | .releasing, some due =>
    (((s.reachTime due).setRun c { s.cond.run.get c with eval := .isFalse, release := none }).truthEdge c false).settle
  | _, _ => s

/-- RELEASE_EXPIRY (R48). -/
def execReleaseExpiry (cond : CondIx) (s : State) : Host.Outcome State Fault Refusal :=
  s.event (State.releaseExpiry cond)

end Machine

end Sys2Proof
end

