-- ==== Sys2Proof/Machine/Life.lean ====
section
/-!
DEFINITION. The commands of Life Control, the Configuration Loader and the pattern clock: RESET, LEAVE_RESET,
MEMORY_READ_END, IMAGE_CHECK_END, LISTEN_TIMER_EXPIRY, WITHDRAW_TIMER_EXPIRY and PATTERN_PHASE_STEP.
-/

namespace Sys2Proof

namespace Machine

/-- Every block at its reset values, with the RESET pin held. The levels at the pins and the commands that wait are not
the part's, and the model's count of random choices runs on (R140). -/
def State.resetPart (s : State) : State :=
  { State.reset with
    pins := s.pins
    pending := s.pending
    life := { LifeControl.reset with draws := s.life.draws } }

/-- RESET: taken in any life state and in the middle of any operation (R140). -/
def execReset (s : State) : Host.Outcome State Fault Refusal := .next s.resetPart

/-- The bytes that begin a read of the serial memory: the command 03h and the address 0000h (R141). -/
def memoryReadCommand : List Byte := [0x03, 0x00, 0x00]

/-- The part leaves reset: reset values, the count at 0, the straps sampled, and with source MEMORY the memory read
begun (R138, R140, R141). -/
def State.leaveReset (stn : Station) (source : ImageSource) (s : State) : State :=
  let s := (s.resetPart.onHeld (fun _ => false)).onLife (fun l => { l with stn := stn, source := source })
  match source with
  | .memory => s.onLoader (fun l => { l with
      phase := .reading
      scs := true
      sdo := memoryReadCommand.flatMap spiLevels })
  | .supervisor => s

/-- LEAVE_RESET: acts only while the RESET pin is held. -/
def execLeaveReset (stn : Station) (source : ImageSource) (s : State) : Host.Outcome State Fault Refusal :=
  .next (if s.held then s.leaveReset stn source else s)

/-- SCK moves in the memory read, edge by edge, up to the end of the read (R141). -/
def State.memoryRead (part : MemoryPart) (s : State) : State :=
  if s.loader.phase = .reading ∧ s.life.life = .loading then
    s.onLoader (fun l => l.readPart part)
  else s

/-- MEMORY_READ_END (R141). -/
def execMemoryReadEnd (part : MemoryPart) (s : State) : Host.Outcome State Fault Refusal :=
  s.event (State.memoryRead part)

/-- A failed check: CONFIG_FAULT with its record for an image from the memory, and the fault code in RESULT and in Life
Control for a COMMIT (R142, R145). -/
def State.failImage (code : FaultCode) (s : State) : State :=
  match s.life.source with
  | .memory =>
    (s.setLife (fun l => { l with life := .configFault, fault := code })).record (.configFault s.own code)
  | .supervisor =>
    (s.setLife (fun l => { l with fault := code })).onPort (fun p => { p with result := .fault code })

/-- An image that passes: the station enters LISTENING, and a COMMIT's RESULT becomes OK (R142, R144). -/
def State.passImage (set : Settings) (s : State) : State :=
  let s := match s.life.source with
    | .memory => s
    | .supervisor => s.onPort (fun p => { p with result := .ok })
  s.acceptImage set

/-- The image check ends, and the first failing check in order decides (R143). The Configuration Loader's own check
result, which Table 0-1 names only, takes the fault code; that it reads NONE after a check that passes is the model's
choice (log entry 3). -/
def State.imageCheckEnd (s : State) : State :=
  if s.loader.phase = .checking ∧ s.life.life = .loading then
    match checkImage s.loader.buffer s.own with
    | .ok set => ((s.onLoader (fun l => { l with phase := .idle, check := .none })).passImage set).settle
    | .error code => (s.onLoader (fun l => { l with phase := .idle, check := code })).failImage code
  else s

/-- IMAGE_CHECK_END (R143). -/
def execImageCheckEnd (s : State) : Host.Outcome State Fault Refusal := s.event State.imageCheckEnd

/-- Entry to ACTIVE: an urgent STATE request, the refresh timer with P, the blind flag set (R147). -/
def State.enterActive (s : State) : State :=
  let s := (s.setLife (fun l => { l with life := .active, listen := none })).requestUrgent
  (s.onFrame (fun f => { f with refresh := some (s.after s.period) })).onLine (fun l => { l with blind := true })

/-- The listen timer expires (R147). -/
def State.listenExpiry (s : State) : State :=
  match s.life.life, s.life.listen with
  | .listening, some due => (s.reachTime due).enterActive.settle
  | _, _ => s

/-- LISTEN_TIMER_EXPIRY (R147). -/
def execListenTimerExpiry (s : State) : Host.Outcome State Fault Refusal := s.event State.listenExpiry

/-- The withdraw timer expires: the station enters LISTENING (R151). -/
def State.withdrawExpiry (s : State) : State :=
  match s.life.life, s.life.withdraw with
  | .withdrawn, some due => (s.reachTime due).enterListening.driveOutputs
  | _, _ => s

/-- WITHDRAW_TIMER_EXPIRY (R151). -/
def execWithdrawTimerExpiry (s : State) : Host.Outcome State Fault Refusal := s.event State.withdrawExpiry

/-- The count at which the pattern phase next steps: the next multiple of 125 ms, or the wrap to 0 (R158). -/
def nextStepAt (clock : Ms) : Ms :=
  let next := (clock.toNat / 125 + 1) * 125
  if next < 2 ^ 32 then BitVec.ofNat 32 next else 0

/-- The pattern phase steps: the count reaches the next multiple of 125 ms and every output is recomputed (R158). -/
def State.patternStep (s : State) : State := (s.setClock (nextStepAt s.clock)).driveOutputs

/-- PATTERN_PHASE_STEP (R158). -/
def execPatternPhaseStep (s : State) : Host.Outcome State Fault Refusal := s.event State.patternStep

end Machine

end Sys2Proof
end

