-- ==== Sys2Proof/Machine/Line.lean ====
section
/-!
DEFINITION. The commands of the Line Access Controller (Chapter 7). An event that cannot occur in the controller's
state leaves the station as it is.
-/

namespace Sys2Proof

namespace Machine

/-- The start-up wait ends after 10 recessive bit times: a window begins and nothing is received (R119). -/
def State.startupWaitEnd (s : State) : State :=
  if s.life.life.running ∧ s.line.state = .receiving ∧ s.line.rx = .startupWait then s.beginWindow else s

/-- STARTUP_WAIT_END (R119). -/
def execStartupWaitEnd (s : State) : Host.Outcome State Fault Refusal := s.event State.startupWaitEnd

/-- A dominant level the station does not drive starts a reception in QUIET and WINDOW, and in the tail of the own frame
it makes what follows part of that frame's reception (R120, R124, R130). -/
def State.receptionStart (s : State) : State :=
  let begin := fun rx : Rx => s.onLine (fun l => { l with state := .receiving, slot := none, rx := rx })
  if s.life.life.running then
    match s.line.state with
    | .quiet => begin .frame
    | .window => begin .frame
    | .transmitting => if s.line.sending.isNone then begin .ownFrame else s
    | .receiving => s
    | .jamming => s
    | .stuck => s
  else s

/-- RECEPTION_START (R120). -/
def execReceptionStart (s : State) : Host.Outcome State Fault Refusal := s.event State.receptionStart

/-- Whether a reception is under way whose end is to come: a peer's, or the own frame and what follows it. -/
def State.receiving (s : State) (rx : Rx) : Bool :=
  s.life.life.running && s.line.state == .receiving && s.line.rx == rx

/-- A valid frame end: W becomes the origin, the blind flag is cleared, a window begins, and then the frame is handed to
the Frame Unit (R121). -/
def State.validEnd (bytes : List Byte) (s : State) : State :=
  ((s.onLine (fun l => { l with w := some (frameOrigin bytes), blind := false })).beginWindow.receiveFrame
    bytes).driveOutputs

/-- The levels of the reception decode to a frame valid on the line, or this event does not occur (R121). -/
def State.frameEnd (levels : List Level) (s : State) : State :=
  match readReception levels with
  | .complete bytes => if s.receiving .frame ∧ validOnLine bytes then s.validEnd bytes else s
  | .broken => s
  | .jammed => s
  | .unfinished => s

/-- FRAME_END (R121). -/
def execFrameEnd (levels : List Level) (s : State) : Host.Outcome State Fault Refusal :=
  s.event (State.frameEnd levels)

/-- The end of an invalid reception: W is kept, the blind flag set, a window begins, and the discarded-frame count is
raised, but not for a reception of the own frame (R122, R130, R133). -/
def State.invalidEnd (s : State) : State :=
  let t := (s.onLine (fun l => { l with blind := true })).beginWindow
  if s.receiving .frame then t.raiseDiscarded
  else if s.receiving .ownFrame then t
  else s

/-- The levels of the reception come to a framing error that is no jam, or to bytes that form no valid frame, or this
event does not occur (R122). -/
def State.invalidReceptionEnd (levels : List Level) (s : State) : State :=
  match readReception levels with
  | .broken => s.invalidEnd
  | .complete bytes => if validOnLine bytes then s else s.invalidEnd
  | .jammed => s
  | .unfinished => s

/-- INVALID_RECEPTION_END (R122). -/
def execInvalidReceptionEnd (levels : List Level) (s : State) : Host.Outcome State Fault Refusal :=
  s.event (State.invalidReceptionEnd levels)

/-- The jam end. After the own jam only a window begins (R131). A receiver that recognised the jam in its reception
raises the discarded-frame count once (R123), but not for a reception of the own frame (R98). W and the blind flag stay. -/
def State.jamEnd (levels : List Level) (s : State) : State :=
  if s.life.life.running ∧ s.line.state = .jamming then (s.onLine (fun l => { l with jam := [] })).beginWindow
  else if readReception levels = .jammed then
    if s.receiving .frame then s.beginWindow.raiseDiscarded
    else if s.receiving .ownFrame then s.beginWindow
    else s
  else s

/-- JAM_END (R123, R131). -/
def execJamEnd (levels : List Level) (s : State) : Host.Outcome State Fault Refusal := s.event (State.jamEnd levels)

/-- Whether a slot is one in which the station starts: in ACTIVE, not blind, W known, its urgent slot with an URGENT
entry WAITING or its routine slot with any entry WAITING (R125 to R127). -/
def State.startsIn (slot : Fin 64) (s : State) : Bool :=
  s.life.life == .active && !s.line.blind &&
    match s.line.w with
    | none => false
    | some w =>
      (slot.val == (rank s.own w).val && s.frame.queue.any QEntry.waitsUrgent) ||
        (slot.val == 32 + (rank s.own w).val && s.frame.queue.any QEntry.waits)

/-- A slot of the window starts; a slot whose start has been taken does not start again (R124, R126). -/
def State.slotStart (slot : Fin 64) (s : State) : State :=
  if s.life.life.running ∧ s.line.state = .window ∧ s.line.nextSlot ≤ slot.val then
    let t := s.onLine (fun l => { l with slot := some slot, nextSlot := slot.val + 1 })
    if s.startsIn slot then t.startTransmission else t
  else s

/-- SLOT_START (R126). -/
def execSlotStart (slot : Fin 64) (s : State) : Host.Outcome State Fault Refusal := s.event (State.slotStart slot)

/-- Slot 63 ends with the line recessive: QUIET, the blind flag cleared, an UNKNOWN W becomes 31, and a station that
holds a WAITING entry starts (R124, R128). -/
def State.windowEnd (s : State) : State :=
  if s.life.life.running ∧ s.line.state = .window then
    (s.onLine (fun l => { l with state := .quiet, slot := none, blind := false, w := some (l.w.getD 31) })).quietStart
  else s

/-- WINDOW_END (R124). -/
def execWindowEnd (s : State) : Host.Outcome State Fault Refusal := s.event State.windowEnd

/-- The own frame completes at its last stop bit; the line state stays TRANSMITTING through the tail (R108, R130). -/
def State.transmissionComplete (s : State) : State :=
  if s.transmitting then s.complete.onLine (fun l => { l with collisions := 0, sending := none }) else s

/-- TRANSMISSION_COMPLETE (R130). -/
def execTransmissionComplete (s : State) : Host.Outcome State Fault Refusal := s.event State.transmissionComplete

/-- The frame end of the own frame: W becomes the own number, the blind flag is cleared, a window begins (R130). -/
def State.ownFrameEnd (s : State) : State :=
  if s.life.life.running ∧ s.line.state = .transmitting ∧ s.line.sending = none then
    (s.onLine (fun l => { l with w := some s.own, blind := false })).beginWindow
  else s

/-- OWN_FRAME_END (R130). -/
def execOwnFrameEnd (s : State) : Host.Outcome State Fault Refusal := s.event State.ownFrameEnd

/-- Whether the own frame sends recessive at a bit time, counted from its start: only there does a readback find a
collision (R130, R131). -/
def State.sendsRecessive (s : State) (bitTime : Nat) : Bool :=
  match s.line.sending with
  | some bytes => (driveLevels bytes)[bitTime]? == some .recessive
  | none => false

/-- A collision that leaves the count below 16 starts a jam (R131). One that leaves it at 16 withdraws the station, which
does not jam and goes on as a receiver of the other frame (R132, R150). -/
def State.collision (bitTime : Nat) (s : State) : State :=
  if s.transmitting ∧ s.sendsRecessive bitTime then
    let count := min 16 (s.line.collisions + 1)
    let s := s.breakOff.onLine (fun l => { l with collisions := count })
    if count = 16 then
      ((s.onLine (fun l => { l with state := .receiving, rx := .frame })).enterWithdrawn).driveOutputs
    else s.onLine (fun l => { l with state := .jamming, jam := ownJam })
  else s

/-- COLLISION (R131). -/
def execCollision (bitTime : Nat) (s : State) : Host.Outcome State Fault Refusal := s.event (State.collision bitTime)

/-- The line has been dominant for 40 bit times: an own frame is broken off, an own jam stops, a reception under way
raises the discarded-frame count once, LINE_STUCK is recorded and Life Control is told (R134, R152). -/
def State.lineStuck (s : State) : State :=
  if s.life.life.running ∧ s.line.state ≠ .stuck then
    let t := if s.line.sending.isSome then s.breakOff else s
    let t := if s.receiving .frame then t.raiseDiscarded else t
    let t := t.onLine (fun l => { l with state := .stuck, slot := none, rx := .none, jam := [] })
    (t.record .lineStuck).setLife (fun l => { l with lineStuck := true })
  else s

/-- LINE_STUCK (R134). -/
def execLineStuck (s : State) : Host.Outcome State Fault Refusal := s.event State.lineStuck

/-- A stuck line is released: LINE_RELEASED, the blind flag set, W kept, a window begun, Life Control told (R136). -/
def State.lineReleased (s : State) : State :=
  if s.life.life.running ∧ s.line.state = .stuck then
    (((s.record .lineReleased).onLine (fun l => { l with blind := true })).beginWindow).setLife
      (fun l => { l with lineStuck := false })
  else s

/-- LINE_RELEASED (R136). -/
def execLineReleased (s : State) : Host.Outcome State Fault Refusal := s.event State.lineReleased

end Machine

end Sys2Proof
end

