-- ==== Sys2Proof/Machine/Peers.lean ====
section
/-!
DEFINITION. The timer commands of the Picture Unit and the Frame Unit: ABSENCE_TIMER_EXPIRY and REFRESH_TIMER_EXPIRY.
-/

namespace Sys2Proof

namespace Machine

/-- A PRESENT station's absence timer expires (R16). -/
def State.absenceExpiry (st : Station) (s : State) : State :=
  match (s.pic.roster.get st).presence, (s.pic.roster.get st).absence with
  | .present, some due => ((s.reachTime due).becomeAbsent st).settle
  | _, _ => s

/-- ABSENCE_TIMER_EXPIRY (R16). -/
def execAbsenceTimerExpiry (station : Station) (s : State) : Host.Outcome State Fault Refusal :=
  s.event (State.absenceExpiry station)

/-- The refresh timer expires: one routine STATE request, and the timer stays stopped (R113). -/
def State.refreshExpiry (s : State) : State :=
  match s.life.life, s.frame.refresh with
  | .active, some due =>
    ((s.reachTime due).onFrame (fun f => { f with refresh := none })).requestRoutine.settle
  | _, _ => s

/-- REFRESH_TIMER_EXPIRY (R113). -/
def execRefreshTimerExpiry (s : State) : Host.Outcome State Fault Refusal := s.event State.refreshExpiry

end Machine

end Sys2Proof
end

