-- ==== Sys2Proof/Machine/Points.lean ====
section
/-!
DEFINITION. The commands of the Point Input Unit: INPUT_LEVEL_CHANGE, DEBOUNCE_EXPIRY, PAIR_TIMER_EXPIRY,
CONTROL_INPUT_CHANGE and CONTROL_DEBOUNCE_EXPIRY (Chapter 2).
-/

namespace Sys2Proof

namespace Machine

/-- The debounce of a line and the supervision of its pair on a change of its level, where they run (R24, R28, R30). -/
def State.senseLine (n : PointIx) (active : Bool) (s : State) : State :=
  let s := if s.settings.debounces n then
      s.setLine n ((s.input.lines.get n).level active (s.after (s.settings.debounceTime n)))
    else s
  if s.settings.isPair (pairOf n) then s.supervise (pairOf n) else s

/-- The level at an input pin changes; it is sensed while sampling runs (R31). A level that is already there is no
change. -/
def State.inputLevel (n : PointIx) (active : Bool) (s : State) : State :=
  if s.pins.lines.get n = active then s
  else
    let s := s.onPins (fun p => { p with lines := p.lines.set n active })
    if s.life.life.running ∧ ¬ s.held then s.senseLine n active else s

/-- INPUT_LEVEL_CHANGE (R24). The contact moves even while the RESET pin is held; the part then senses nothing. -/
def execInputLevelChange (line : PointIx) (active : Bool) (s : State) : Host.Outcome State Fault Refusal :=
  .next (s.inputLevel line active)

/-- A line's debounce timer expires: the candidate becomes the accepted level and the change is written (R24, R26). -/
def State.debounceExpiry (n : PointIx) (s : State) : State :=
  match (s.input.lines.get n).candidate, (s.input.lines.get n).timer with
  | some level, some due =>
    (((s.reachTime due).setLine n (s.input.lines.get n).expire).acceptedChange n level).settle
  | _, _ => s

/-- DEBOUNCE_EXPIRY (R24). -/
def execDebounceExpiry (line : PointIx) (s : State) : Host.Outcome State Fault Refusal :=
  s.event (State.debounceExpiry line)

/-- The other relation. -/
def Relation.other : Relation → Relation
  | .complement => .agree
  | .agree => .complement

/-- A pair timer expires: the accepted relation changes and the quality is written to both points (R28, R29). -/
def State.pairExpiry (k : PairIx) (s : State) : State :=
  match (s.input.pairs.get k).timer with
  | some due =>
    let relation := (s.input.pairs.get k).accepted.other
    (((s.reachTime due).setPair k ⟨relation, none⟩).pairQuality k relation.quality).settle
  | none => s

/-- PAIR_TIMER_EXPIRY (R28). -/
def execPairTimerExpiry (pair : PairIx) (s : State) : Host.Outcome State Fault Refusal :=
  s.event (State.pairExpiry pair)

/-- The debounce time of the control inputs (R33). -/
def controlDebounceMs : Nat := 20

/-- A pin of the control inputs set. -/
def Pins.setControl (i : Control) (active : Bool) (p : Pins) : Pins :=
  match i with
  | .ack => { p with ack := active }
  | .silence => { p with silence := active }
  | .test => { p with test := active }

/-- The level at a control input's pin changes; it is debounced while sampling runs (R33). -/
def State.controlLevel (i : Control) (active : Bool) (s : State) : State :=
  if s.pins.control i = active then s
  else
    let s := s.onPins (Pins.setControl i active)
    if s.life.life.running ∧ ¬ s.held then
      s.setControl i ((s.input.control i).level active (s.after controlDebounceMs))
    else s

/-- CONTROL_INPUT_CHANGE (R33). -/
def execControlInputChange (input : Control) (active : Bool) (s : State) : Host.Outcome State Fault Refusal :=
  .next (s.controlLevel input active)

/-- A control input's debounce timer expires: a press, a release or a change of TEST's level (R33 to R35). -/
def State.controlExpiry (i : Control) (s : State) : State :=
  match (s.input.control i).candidate, (s.input.control i).timer with
  | some level, some due =>
    (((s.reachTime due).setControl i (s.input.control i).expire).controlChange i level).settle
  | _, _ => s

/-- CONTROL_DEBOUNCE_EXPIRY (R33). -/
def execControlDebounceExpiry (input : Control) (s : State) : Host.Outcome State Fault Refusal :=
  s.event (State.controlExpiry input)

end Machine

end Sys2Proof
end

