-- ==== Sys2Proof/Machine/Reports.lean ====
section
/-!
DEFINITION. The command of the Report Unit: REPORT_LINE_END (Chapter 12).
-/

namespace Sys2Proof

namespace Machine

/-- The stop bit of LF ends: the render state becomes IDLE and a queued job is started (R187, R189). -/
def State.reportLineEnd (s : State) : State :=
  match s.report.line with
  | none => s
  | some _ => (s.onReport (fun r => { r with line := none })).startReport

/-- REPORT_LINE_END (R189). -/
def execReportLineEnd (s : State) : Host.Outcome State Fault Refusal := s.event State.reportLineEnd

end Machine

end Sys2Proof
end

