-- ==== Sys2Proof/Machine/Supervisor.lean ====
section
/-!
DEFINITION. The Supervisor Port (Chapters 11 and 13): the register map and its record units, I2C writes and reads, and
the commands TAKE, ACK_ALL, ACK_ONE, SILENCE, LAMP_TEST_ON, LAMP_TEST_OFF, COUNT_CLEAR, COMMIT and UNKNOWN_COMMAND.
-/

namespace Sys2Proof

namespace Machine

/-! ### What the registers read (R197, R198) -/

/-- The record kind codes (Table 13-1). -/
def RecordBody.kindCode : RecordBody → Nat
  | .started _ _ => 0x01
  | .pointChange _ _ _ _ => 0x02
  | .condChange _ _ _ _ => 0x03
  | .peerPresent _ => 0x04
  | .peerAbsent _ => 0x05
  | .peerRestart _ => 0x06
  | .seqGap _ _ => 0x07
  | .stranger _ => 0x08
  | .ackFailed _ _ => 0x09
  | .ackRefused _ _ => 0x0A
  | .reportDropped _ _ _ => 0x0B
  | .withdrawn _ => 0x0C
  | .duplicate _ => 0x0D
  | .lineStuck => 0x0E
  | .lineReleased => 0x0F
  | .configFault _ _ => 0x10
  | .overflow _ => 0x11

/-- A record's station byte, its index and generation byte, and its value byte (Table 13-5). -/
def RecordBody.fieldBytes : RecordBody → List Byte
  | .started own version => [byteOf own.val, 0, version]
  | .pointChange st p value fault => [byteOf st.val, byteOf p.val, byteOf (flag value + 2 * flag fault)]
  | .condChange st c state gen => [byteOf st.val, byteOf (c.val + 16 * gen.val), byteOf state.code]
  | .peerPresent st => [byteOf st.val, 0, 0]
  | .peerAbsent st => [byteOf st.val, 0, 0]
  | .peerRestart st => [byteOf st.val, 0, 0]
  | .seqGap st missed => [byteOf st.val, 0, missed]
  | .stranger st => [byteOf st.val, 0, 0]
  | .ackFailed st mask => [byteOf st.val, 0, mask]
  | .ackRefused st mask => [byteOf st.val, 0, mask]
  | .reportDropped st c trigger => [byteOf st.val, byteOf c.val, byteOf trigger.code]
  | .withdrawn st => [byteOf st.val, 0, 0]
  | .duplicate st => [byteOf st.val, 0, 0]
  | .lineStuck => [0xFF, 0, 0]
  | .lineReleased => [0xFF, 0, 0]
  | .configFault st code => [byteOf st.val, 0, byteOf code.code]
  | .overflow lost => 0xFF :: wordBytes lost

/-- A record in the journal window (Table 13-5). -/
def Record.bytes (r : Record) : List Byte :=
  byteOf r.body.kindCode :: (r.body.fieldBytes ++
    [byteOf (r.time.toNat / 2 ^ 24), byteOf (r.time.toNat / 2 ^ 16), byteOf (r.time.toNat / 2 ^ 8), byteOf r.time.toNat])

/-- The status block (Tables 11-2 and 13-6). -/
def State.statusBytes (s : State) : List Byte :=
  [byteOf s.life.life.code, byteOf s.life.fault.code, byteOf s.own.val, byteOf s.journal.records.length] ++
    wordBytes s.journal.lost ++ wordBytes s.frame.discarded ++
    [byteOf s.line.collisions, byteOf s.line.state.code, byteOf (flag s.out.latch)]

/-- The journal window; every byte of an empty one reads 00h (R197). -/
def State.windowBytes (s : State) : List Byte :=
  match s.journal.window with
  | some r => r.bytes
  | none => List.replicate 8 0

/-- A roster entry's four bytes (Table 13-6). -/
def RosterEntry.bytes (r : RosterEntry) : List Byte :=
  [byteOf r.presence.code,
    byteOf (flag r.lastSeq.isSome + 2 * flag r.refreshCode.isSome + 4 * flag r.restartSeen + 8 * flag r.strangerLogged),
    r.lastSeq.getD 0, byteOf (r.refreshCode.getD 0)]

/-- A point row's four bytes: values, then fault marks (Table 13-6). A mark is set for FAULT and clear for GOOD (R97); that
it reads 0 for a point of quality UNKNOWN is the model's choice (log entry 20). -/
def State.rowBytes (s : State) (st : Station) : List Byte :=
  maskBytes (BitVec.ofBoolListLE ((List.ofFn (fun p : Fin 16 => (s.pointEntry st p).value) : List Bool)) |>.setWidth 16) ++
    maskBytes (BitVec.ofBoolListLE
      ((List.ofFn (fun p : Fin 16 => (s.pointEntry st p).quality == .fault) : List Bool)) |>.setWidth 16)

/-- A condition entry's byte (Table 13-6). -/
def CondEntry.byte (e : CondEntry) : Byte := condByte ⟨e.state, e.truth, e.gen⟩

/-- The record unit an offset lies in: its first offset and its size (Table 13-6). -/
def unitOf (off : Nat) : Option (Nat × Nat) :=
  if off < 0x0B then some (0, 0x0B)
  else if 0x20 ≤ off ∧ off < 0x28 then some (0x20, 8)
  else if 0x100 ≤ off ∧ off < 0x180 then some (off - off % 4, 4)
  else if 0x200 ≤ off ∧ off < 0x280 then some (off - off % 4, 4)
  else if 0x300 ≤ off ∧ off < 0x400 then some (off, 1)
  else none

/-- The bytes of the record unit that begins at an offset. -/
def State.unitBytes (s : State) (base : Nat) : List Byte :=
  if base < 0x0B then s.statusBytes
  else if base < 0x28 then s.windowBytes
  else if base < 0x180 then (s.pic.roster.get (Fin.ofNat 32 ((base - 0x100) / 4))).bytes
  else if base < 0x280 then s.rowBytes (Fin.ofNat 32 ((base - 0x200) / 4))
  else [(s.condEntry (Fin.ofNat 32 ((base - 0x300) / 8)) (Fin.ofNat 8 base)).byte]

/-- The live byte of a register; an offset that lies in no region reads 00h (R177, R198). -/
def State.register (s : State) (off : Nat) : Byte :=
  match unitOf off with
  | some (base, _) => (s.unitBytes base).getD (off - base) 0
  | none =>
    if off = 0x10 then s.port.arg0
    else if off = 0x11 then s.port.arg1
    else if off = 0x12 then s.port.command
    else if off = 0x13 then byteOf s.port.result.code
    else if 0x1000 ≤ off ∧ off < 0x1280 then Memory.read s.loader.buffer (off - 0x1000)
    else 0

/-! ### Commands (R181, R182) -/

/-- RESULT set. -/
def State.result (r : Result) (s : State) : State := s.onPort (fun p => { p with result := r })

/-- A COMMIT check runs: the check of an image from the supervisor (R142). -/
def State.committing (s : State) : Bool :=
  s.life.life == .loading && s.life.source == .supervisor && s.loader.phase == .checking

/-- The journal after a TAKE from a non-empty list: the oldest record in the window, and an OVERFLOW record in the place
freed where 31 are left with the flag set (R172, R173). -/
def Journal.take (j : Journal) (head : Record) (rest : List Record) (now : Ms) : Journal :=
  if rest.length = 31 ∧ j.overflowPending then
    { j with records := rest ++ [⟨.overflow j.lost, now⟩], lost := 0, overflowPending := false, window := some head }
  else { j with records := rest, window := some head }

/-- TAKE at the Journal (R173). -/
def State.takeRecord (s : State) : State :=
  match s.journal.records with
  | [] => s.result .empty
  | head :: rest =>
    (s.onJournal (fun j => (j.take head rest s.clock).driveAttn s.settings.attnEnabled)).result .ok

/-- ACK_ONE by the checks of Table 5-1 in order; the acknowledgement is the one a press would form (R80). -/
def State.ackOneChecks (a0 a1 : Byte) (s : State) : State :=
  if h0 : a0.toNat < 32 then
    if h1 : a1.toNat < 8 then
      let st : Station := ⟨a0.toNat, h0⟩
      let c : CondIx := ⟨a1.toNat, h1⟩
      let e := s.condEntry st c
      if st = s.own then
        if e.state = .unused then s.result .badArg
        else if e.state.answerable then ((s.localAck c).result .ok).settle
        else s.result .ok
      else if (s.pic.roster.get st).presence = .notExpected then s.result .badArg
      else if e.quality ≠ .good then s.result .refused
      else if e.state = .unused then s.result .badArg
      else if s.life.life ≠ .active then s.result .refused
      else if ¬ e.state.answerable then s.result .ok
      else
        let taken := (s.requestFor st).isSome || s.freePlace.isSome
        ((s.handRequest st (maskWhere (fun k => k == c)) (.fill 8 e.ackPair)).result
          (if taken then .ok else .refused)).settle
    else s.result .badArg
  else s.result .badArg

/-- COMMIT at step 5 (R142, R183). -/
def State.commitImage (s : State) : State :=
  if s.life.life = .loading ∧ s.life.source = .supervisor then
    (s.onLoader (fun l => { l with phase := .checking })).result .busy
  else s.result .refused

/-- The eight commands (Table 13-1). -/
inductive Command where
  | take
  | ackAll
  | ackOne
  | silence
  | lampTestOn
  | lampTestOff
  | countClear
  | commit
  deriving DecidableEq, Repr

/-- The command of a code. -/
def commandOf (code : Byte) : Option Command :=
  match code.toNat with
  | 0x01 => some .take
  | 0x02 => some .ackAll
  | 0x03 => some .ackOne
  | 0x04 => some .silence
  | 0x05 => some .lampTestOn
  | 0x06 => some .lampTestOff
  | 0x07 => some .countClear
  | 0x08 => some .commit
  | _ => none

/-- What a command does when it is taken at step 5 (Table 11-3). -/
def State.runCommand (c : Command) (s : State) : State :=
  match c with
  | .take => s.takeRecord
  | .ackAll => (s.ackPress.result .ok).settle
  | .ackOne => s.ackOneChecks s.port.arg0 s.port.arg1
  | .silence => (s.silencePress.result .ok).settle
  | .lampTestOn => ((s.onOut (fun o => { o with lampTest := true })).result .ok).driveOutputs
  | .lampTestOff => ((s.onOut (fun o => { o with lampTest := false })).result .ok).driveOutputs
  | .countClear => (s.onFrame (fun f => { f with discarded := 0 })).result .ok
  | .commit => s.commitImage

/-- Whether a command goes on to step 5 in LOADING: TAKE and COMMIT (R181). -/
def Command.inLoading : Command → Bool
  | .take => true
  | .ackAll => false
  | .ackOne => false
  | .silence => false
  | .lampTestOn => false
  | .lampTestOff => false
  | .countClear => false
  | .commit => true

/-- A command settled by the first of the steps of R181 that applies. -/
def State.settleCommand (code : Byte) (s : State) : State :=
  if s.committing then s.result .busy
  else match commandOf code with
    | none => s.result .badArg
    | some c =>
      if s.life.life = .loading ∧ ¬ c.inLoading then s.result .notConfigured
      else if s.life.life = .configFault ∧ c ≠ .take then s.result .refused
      else s.runCommand c

/-! ### Transactions (R177) -/

/-- Whether the image buffer is writable (R179). -/
def State.bufferWritable (s : State) : Bool :=
  s.life.life == .loading && s.life.source == .supervisor && s.loader.phase != .checking

/-- A byte written to the register at an offset takes effect in the event of its receipt; a write to a read-only
register or to no region is ignored (R177, R179, R181). -/
def State.writeRegister (off : Nat) (b : Byte) (s : State) : State :=
  if off = 0x10 then s.onPort (fun p => { p with arg0 := b })
  else if off = 0x11 then s.onPort (fun p => { p with arg1 := b })
  else if off = 0x12 then (s.onPort (fun p => { p with command := b })).settleCommand b
  else if 0x1000 ≤ off ∧ off < 0x1280 ∧ s.bufferWritable then
    s.onLoader (fun l => { l with buffer := Memory.write l.buffer (off - 0x1000) b })
  else s

/-- A data byte written at the pointer, which then advances by one (R177). -/
def State.writeByte (s : State) (b : Byte) : State :=
  (s.writeRegister s.port.pointer.toNat b).onPort (fun p => { p with pointer := p.pointer + 1 })

/-- A write transaction's data bytes: the new pointer, high byte first, then bytes written at it; one that ends after
one byte leaves the pointer as it was (R177). -/
def State.writeData (data : List Byte) (s : State) : State :=
  match data with
  | hi :: lo :: rest => rest.foldl State.writeByte (s.onPort (fun p => { p with pointer := hi ++ lo }))
  | [_] => s
  | [] => s

/-- A transaction begins, and any read in progress has ended; the port gives acknowledgements (R177). -/
def State.beginTransaction (acks : List Bool) (s : State) : State :=
  s.onPort (fun p => { p with reading := false, unsent := [], acks := acks })

/-- A write transaction. The port acknowledges its own address and every data byte, taken or ignored, and does not
acknowledge another address (R177). -/
def State.writeTransaction (address : BitVec 7) (data : List Byte) (s : State) : State :=
  if address = Config.portAddress then
    (s.beginTransaction (true :: List.replicate data.length true)).writeData data
  else s.beginTransaction [false]

/-- A write transaction that places the pointer on COMMAND and writes a code there (Table 11-4). -/
def State.writeCommand (code : Byte) (s : State) : State :=
  s.writeTransaction Config.portAddress [0x00, 0x12, code]

/-- The next byte of a read: from the capture while bytes of the captured unit are left, the live register after them;
the pointer advances by one (R177, R178). -/
def State.sendByte (s : State) : State :=
  match s.port.unsent with
  | b :: rest => s.onPort (fun p => { p with sent := p.sent ++ [b], unsent := rest, pointer := p.pointer + 1 })
  | [] =>
    let b := s.register s.port.pointer.toNat
    s.onPort (fun p => { p with sent := p.sent ++ [b], pointer := p.pointer + 1 })

/-- Some bytes sent one after the other. -/
def State.sendBytes : Nat → State → State
  | 0, s => s
  | n + 1, s => State.sendBytes n s.sendByte

/-- A read begins: on the first byte of a record unit the whole unit is captured, elsewhere nothing (R178). -/
def State.beginRead (s : State) : State :=
  let off := s.port.pointer.toNat
  match unitOf off with
  | some (base, _) =>
    if base = off then
      let bytes := s.unitBytes base
      s.onPort (fun p => { p with reading := true, capture := bytes, unsent := bytes, sent := [] })
    else s.onPort (fun p => { p with reading := true, unsent := [], sent := [] })
  | none => s.onPort (fun p => { p with reading := true, unsent := [], sent := [] })

/-- After some bytes whose last the controller did not acknowledge the port sends none (R177). -/
def State.afterBytes (count : Nat) (acked : Bool) (s : State) : State :=
  if count = 0 ∨ acked then s else s.onPort (fun p => { p with reading := false, unsent := [] })

/-- A part of a read transaction (R177, R178). -/
def State.readPart (part : ReadPart) (s : State) : State :=
  match part with
  | .start address count acked =>
    if address = Config.portAddress then
      (State.sendBytes count (s.beginTransaction [true]).beginRead).afterBytes count acked
    else (s.beginTransaction [false]).onPort (fun p => { p with sent := [] })
  | .more count acked =>
    if s.port.reading then (State.sendBytes count (s.onPort (fun p => { p with sent := [] }))).afterBytes count acked
    else s.onPort (fun p => { p with sent := [] })
  | .stop => s.onPort (fun p => { p with reading := false, unsent := [], sent := [] })

/-! ### The meanings -/

/-- TAKE (R173). -/
def execTake (s : State) : Host.Outcome State Fault Refusal := s.event (State.writeCommand 0x01)

/-- ACK_ALL (R78). -/
def execAckAll (s : State) : Host.Outcome State Fault Refusal := s.event (State.writeCommand 0x02)

/-- ACK_ONE (R80). -/
def execAckOne (s : State) : Host.Outcome State Fault Refusal := s.event (State.writeCommand 0x03)

/-- SILENCE (R93). -/
def execSilence (s : State) : Host.Outcome State Fault Refusal := s.event (State.writeCommand 0x04)

/-- LAMP_TEST_ON (R163). -/
def execLampTestOn (s : State) : Host.Outcome State Fault Refusal := s.event (State.writeCommand 0x05)

/-- LAMP_TEST_OFF (R163). -/
def execLampTestOff (s : State) : Host.Outcome State Fault Refusal := s.event (State.writeCommand 0x06)

/-- COUNT_CLEAR (R98). -/
def execCountClear (s : State) : Host.Outcome State Fault Refusal := s.event (State.writeCommand 0x07)

/-- COMMIT (R183). -/
def execCommit (s : State) : Host.Outcome State Fault Refusal := s.event (State.writeCommand 0x08)

/-- UNKNOWN_COMMAND: a write of COMMAND with a code (R181). -/
def execUnknownCommand (code : Byte) (s : State) : Host.Outcome State Fault Refusal :=
  s.event (State.writeCommand code)

/-- READ_CAPTURE (R178). -/
def execReadCapture (part : ReadPart) (s : State) : Host.Outcome State Fault Refusal := s.event (State.readPart part)

/-- IMAGE_BUFFER_WRITE: a write transaction whose pointer lies in the image buffer (R142). -/
def execImageBufferWrite (offset : Fin 640) (bytes : List Byte) (s : State) : Host.Outcome State Fault Refusal :=
  s.event (State.writeTransaction Config.portAddress
    (BitVec.ofNat 8 ((0x1000 + offset.val) / 256) :: BitVec.ofNat 8 (0x1000 + offset.val) :: bytes))

/-- REGISTER_WRITE (R177). -/
def execRegisterWrite (address : BitVec 7) (data : List Byte) (s : State) : Host.Outcome State Fault Refusal :=
  s.event (State.writeTransaction address data)

end Machine

end Sys2Proof
end

