-- ==== Sys2Proof/Machine/Dispatch.lean ====
section
/-!
DEFINITION. The meaning of every command: one arm per constructor of Instr, each a direct call of its meaning. What a
command does is its effect on everything but the queue of waiting commands.
-/

namespace Sys2Proof

namespace Machine

def exec (i : Instr) (s : State) : Host.Outcome State Fault Refusal :=
  match i with
  | .reset => Sys2Proof.Machine.execReset s
  | .leaveReset stn source => Sys2Proof.Machine.execLeaveReset stn source s
  | .memoryReadEnd part => Sys2Proof.Machine.execMemoryReadEnd part s
  | .imageCheckEnd => Sys2Proof.Machine.execImageCheckEnd s
  | .inputLevelChange line active => Sys2Proof.Machine.execInputLevelChange line active s
  | .debounceExpiry line => Sys2Proof.Machine.execDebounceExpiry line s
  | .pairTimerExpiry pair => Sys2Proof.Machine.execPairTimerExpiry pair s
  | .controlInputChange input active => Sys2Proof.Machine.execControlInputChange input active s
  | .controlDebounceExpiry input => Sys2Proof.Machine.execControlDebounceExpiry input s
  | .evaluation => Sys2Proof.Machine.execEvaluation s
  | .holdExpiry cond => Sys2Proof.Machine.execHoldExpiry cond s
  | .releaseExpiry cond => Sys2Proof.Machine.execReleaseExpiry cond s
  | .truthEdge cond => Sys2Proof.Machine.execTruthEdge cond s
  | .retryTimerExpiry entry => Sys2Proof.Machine.execRetryTimerExpiry entry s
  | .silenceLatchClear => Sys2Proof.Machine.execSilenceLatchClear s
  | .absenceTimerExpiry station => Sys2Proof.Machine.execAbsenceTimerExpiry station s
  | .refreshTimerExpiry => Sys2Proof.Machine.execRefreshTimerExpiry s
  | .listenTimerExpiry => Sys2Proof.Machine.execListenTimerExpiry s
  | .withdrawTimerExpiry => Sys2Proof.Machine.execWithdrawTimerExpiry s
  | .patternPhaseStep => Sys2Proof.Machine.execPatternPhaseStep s
  | .startupWaitEnd => Sys2Proof.Machine.execStartupWaitEnd s
  | .frameEnd levels => Sys2Proof.Machine.execFrameEnd levels s
  | .invalidReceptionEnd levels => Sys2Proof.Machine.execInvalidReceptionEnd levels s
  | .jamEnd levels => Sys2Proof.Machine.execJamEnd levels s
  | .slotStart slot => Sys2Proof.Machine.execSlotStart slot s
  | .windowEnd => Sys2Proof.Machine.execWindowEnd s
  | .transmissionComplete => Sys2Proof.Machine.execTransmissionComplete s
  | .ownFrameEnd => Sys2Proof.Machine.execOwnFrameEnd s
  | .collision bitTime => Sys2Proof.Machine.execCollision bitTime s
  | .lineStuck => Sys2Proof.Machine.execLineStuck s
  | .lineReleased => Sys2Proof.Machine.execLineReleased s
  | .take => Sys2Proof.Machine.execTake s
  | .ackAll => Sys2Proof.Machine.execAckAll s
  | .ackOne => Sys2Proof.Machine.execAckOne s
  | .silence => Sys2Proof.Machine.execSilence s
  | .lampTestOn => Sys2Proof.Machine.execLampTestOn s
  | .lampTestOff => Sys2Proof.Machine.execLampTestOff s
  | .countClear => Sys2Proof.Machine.execCountClear s
  | .commit => Sys2Proof.Machine.execCommit s
  | .unknownCommand code => Sys2Proof.Machine.execUnknownCommand code s
  | .readCapture part => Sys2Proof.Machine.execReadCapture part s
  | .imageBufferWrite offset bytes => Sys2Proof.Machine.execImageBufferWrite offset bytes s
  | .registerWrite address data => Sys2Proof.Machine.execRegisterWrite address data s
  | .reportLineEnd => Sys2Proof.Machine.execReportLineEnd s
  | .receptionStart => Sys2Proof.Machine.execReceptionStart s

end Machine

end Sys2Proof
end

