-- ==== Sys2Proof/WellFormed.lean ====
section
/-!
DEFINITION. Which commands are well formed: those whose operands spell an event their row can name. A command that is
not well formed still has a meaning, which leaves the station as it is where the event cannot occur.
-/

namespace Sys2Proof

open Sys2Proof.Machine

/-- The length of the longest own frame, a STATE, from its start to its last stop bit (Table 7-2). -/
def longestFrame : Nat := 194

/-- Whether a bit time of a frame is one at which a transmitter can read back: the fourth of the lead-in, or a data bit
or stop bit of a byte; a start bit is always sent dominant (R117, R130). -/
def readbackBit (bitTime : Nat) : Bool :=
  bitTime == 3 || (4 < bitTime && bitTime < longestFrame && (bitTime - 4) % 10 != 0)

/-- Whether a command's operands spell an event that its row names. -/
def Instr.wf : Instr → Bool
  | .reset => true
  | .leaveReset _ _ => true
  | .memoryReadEnd (.next sdi) => sdi.length ≤ longestRead
  | .memoryReadEnd (.rest sdi) => sdi.length ≤ longestRead
  | .imageCheckEnd => true
  | .inputLevelChange _ _ => true
  | .debounceExpiry _ => true
  | .pairTimerExpiry _ => true
  | .controlInputChange _ _ => true
  | .controlDebounceExpiry _ => true
  | .evaluation => true
  | .holdExpiry _ => true
  | .releaseExpiry _ => true
  | .truthEdge _ => true
  | .retryTimerExpiry _ => true
  | .silenceLatchClear => true
  | .absenceTimerExpiry _ => true
  | .refreshTimerExpiry => true
  | .listenTimerExpiry => true
  | .withdrawTimerExpiry => true
  | .patternPhaseStep => true
  | .startupWaitEnd => true
  | .frameEnd levels => match readReception levels with
    | .complete bytes => validOnLine bytes
    | .broken => false
    | .jammed => false
    | .unfinished => false
  | .invalidReceptionEnd levels => match readReception levels with
    | .complete bytes => !validOnLine bytes
    | .broken => true
    | .jammed => false
    | .unfinished => false
  | .jamEnd levels => levels.isEmpty || readReception levels == .jammed
  | .slotStart _ => true
  | .windowEnd => true
  | .transmissionComplete => true
  | .ownFrameEnd => true
  | .collision bitTime => readbackBit bitTime
  | .lineStuck => true
  | .lineReleased => true
  | .take => true
  | .ackAll => true
  | .ackOne => true
  | .silence => true
  | .lampTestOn => true
  | .lampTestOff => true
  | .countClear => true
  | .commit => true
  | .unknownCommand code => (commandOf code).isNone
  | .readCapture _ => true
  | .imageBufferWrite offset bytes => !bytes.isEmpty && offset.val + bytes.length ≤ bufferSize
  | .registerWrite _ _ => true
  | .reportLineEnd => true
  | .receptionStart => true

/-- Whether bytes written from a pointer on put the code of TAKE into COMMAND (R177, R181). -/
def takeWritten : BitVec 16 → List Byte → Bool
  | _, [] => false
  | pointer, b :: rest => (pointer == 0x12 && b == 0x01) || takeWritten (pointer + 1) rest

/-- Whether a write transaction writes TAKE: its first two data bytes are the pointer (R177). -/
def transactionTakes (address : BitVec 7) : List Byte → Bool
  | hi :: lo :: bytes => address == Config.portAddress && takeWritten (hi ++ lo) bytes
  | _ => false

/-- Whether a command writes TAKE to COMMAND: the command of that name, and a longer write whose bytes reach there. -/
def Instr.writesTake : Instr → Bool
  | .take => true
  | .unknownCommand code => code == 0x01
  | .imageBufferWrite offset bytes => takeWritten (BitVec.ofNat 16 (0x1000 + offset.val)) bytes
  | .registerWrite address data => transactionTakes address data
  | _ => false

/-- Whether a command resets the part. -/
def Instr.resets : Instr → Bool
  | .reset => true
  | .leaveReset _ _ => true
  | _ => false

end Sys2Proof
end

