-- ==== Sys2Proof/Safety.lean ====
section
/-!
DEFINITION. What the statements speak of: which blocks an event changes, and the laws the manual gives for every state
the station reaches.
-/

namespace Sys2Proof

namespace Machine

/-! ### What an event changes -/

/-- The parts of the state, by name. -/
inductive Block where
  | held
  | clock
  | pins
  | settings
  | life
  | loader
  | pic
  | input
  | cond
  | ann
  | frame
  | line
  | out
  | journal
  | port
  | report
  | pending
  deriving DecidableEq, Repr

/-- A part is the same in two states. -/
def Block.same (b : Block) (s t : State) : Prop :=
  match b with
  | .held => t.held = s.held
  | .clock => t.clock = s.clock
  | .pins => t.pins = s.pins
  | .settings => t.settings = s.settings
  | .life => t.life = s.life
  | .loader => t.loader = s.loader
  | .pic => t.pic = s.pic
  | .input => t.input = s.input
  | .cond => t.cond = s.cond
  | .ann => t.ann = s.ann
  | .frame => t.frame = s.frame
  | .line => t.line = s.line
  | .out => t.out = s.out
  | .journal => t.journal = s.journal
  | .port => t.port = s.port
  | .report => t.report = s.report
  | .pending => t.pending = s.pending

/-- Every part but those named is the same in two states. -/
def State.changesOnly (l : List Block) (s t : State) : Prop := ∀ b, b ∉ l → b.same s t

/-- The records an event hands to the Journal, in order: each appended or counted as lost (R171), and ATTN driven. -/
def State.hands (s t : State) (l : List RecordBody) : Prop :=
  t.journal = l.foldl (fun j b => (j.append ⟨b, t.clock⟩).driveAttn t.settings.attnEnabled) s.journal

/-- The report job a change of an own condition's annunciation state makes, if its field names a template (R70). -/
def State.jobOf (s : State) (c : CondIx) (new : AnnState) (g : Gen) : Option Job :=
  match new with
  | .alertUnack => (s.settings.conds.get c).onAlert.map (fun t => ⟨t, .alert, c, g, s.clock⟩)
  | .normal => (s.settings.conds.get c).onClear.map (fun t => ⟨t, .clear, c, g, s.clock⟩)
  | .alertAck => none
  | .returnUnack => none
  | .unused => none

/-- Whether a frame is one a station sends: a refresh code of 0–4, and 00h for each condition outside an ACKREQ's mask
(Tables 6-1 and 13-3). -/
def Frame.sendable (f : Frame) : Prop :=
  match f.payload with
  | .state p => p.refreshCode ≤ 4
  | .ackreq _ mask pairs => ∀ c : CondIx, mask.getLsbD c.val = false → pairs.get c = ⟨.alert, 0⟩
  | .silence _ => True

/-- A transmission starts between two states: the oldest urgent WAITING entry, or with none WAITING the ROUTINE STATE
entry, is ON_LINE in its place with its changed mark clear; its frame is captured from the state before, the line state
is TRANSMITTING, and an ACKREQ's request-table entry is ON_LINE (R84, R106, R107, R130). -/
def State.starts (s t : State) : Prop :=
  ∃ (before : List QEntry) (e : QEntry) (after : List QEntry), s.frame.queue = before ++ e :: after ∧ e.onLine = false ∧
    ((e.urgent = true ∧ ∀ x ∈ before, x.urgent = true → x.onLine = true) ∨
      (e.urgent = false ∧ (∀ x ∈ s.frame.queue, x.urgent = true → x.onLine = true) ∧ ∀ x ∈ before, x.onLine = true)) ∧
    t.frame = { s.frame with
      queue := before ++ { (e.setChanged false) with onLine := true } :: after } ∧
    t.line = { s.line with
      state := .transmitting
      slot := none
      rx := .none
      sending := some (Frame.mk s.own (s.payloadOf e.kind)).bytes } ∧
    (∀ i r, e.kind = .ackreq i → s.ann.requests.get i = some r →
      t.ann = { s.ann with requests := s.ann.requests.set i (some { r with pending := .onLine }) }) ∧
    ((∀ i, e.kind = .ackreq i → s.ann.requests.get i = none) → t.ann = s.ann) ∧
    s.changesOnly [.frame, .line, .ann] t

/-- The level a LAMP output shows for a condition entry: on under lamp test; WINK where the entry is not GOOD; else OFF,
FAST, STEADY, SLOW or OFF for NORMAL, ALERT_UNACK, ALERT_ACK, RETURN_UNACK or UNUSED, at a pattern phase (Tables 9-3 and
9-4, R159, R160). -/
def lampShows (testing : Bool) (e : CondEntry) (phase : Fin 8) : Prop :=
  testing = true ∨
    if e.quality ≠ .good then phase = 0
    else match e.state with
      | .normal => False
      | .alertUnack => phase = 0 ∨ phase = 2 ∨ phase = 4 ∨ phase = 6
      | .alertAck => True
      | .returnUnack => phase = 0 ∨ phase = 1 ∨ phase = 2 ∨ phase = 3
      | .unused => False

/-- What a matching acknowledgement makes of an own condition's entry, by its class and sequence truth (Tables 4-2 to
4-4, R61). One that does not match changes nothing. -/
def State.acknowledged (s : State) (c : CondIx) (a : AckPair) : CondEntry :=
  let e := s.ownCond c
  let truth := s.ann.seqTruth.get c
  if e.gen ≠ a.gen then e
  else match (s.settings.conds.get c).annClass, e.state, a.phase with
    | .lock, .alertUnack, .alert => { e with state := if truth then .alertAck else .normal }
    | .ring, .alertUnack, .alert => { e with state := if truth then .alertAck else .returnUnack }
    | .ring, .returnUnack, .returned => { e with state := .normal }
    | .follow, .alertUnack, .alert => { e with state := .alertAck }
    | _, _, _ => e

/-- Whether a press selects a condition: it stands in the attention set with quality GOOD in ALERT_UNACK or RETURN_UNACK
(R78). -/
abbrev State.pressSelects (s : State) (st : Station) (c : CondIx) : Prop :=
  (⟨st, c⟩ : CondRef) ∈ s.ann.attention ∧ (s.condEntry st c).quality = .good ∧
    ((s.condEntry st c).state = .alertUnack ∨ (s.condEntry st c).state = .returnUnack)

/-- The pair that answers a condition's entry: its phase, RETURN in RETURN_UNACK and ALERT otherwise, and its generation
(R62, R78). -/
def CondEntry.answer (e : CondEntry) : AckPair := ⟨if e.state = .returnUnack then .returned else .alert, e.gen⟩

/-- Everything a change of an own condition's annunciation state does: the entry with its generation, advanced at an
entry into ALERT_UNACK; its notice; a clear of the silence latch where the condition is in the horn set and enters
ALERT_UNACK with quality GOOD; one COND_CHANGE record; an urgent STATE; and its report job, which joins the queue,
starts at once in an idle unit, or with 6 jobs queued is dropped with REPORT_DROPPED (R18, R59, R68 to R70, R95, R104,
R186, R187). -/
structure State.changesTo (s : State) (c : CondIx) (new : AnnState) (u : State) : Prop where
  gen : (u.ownCond c).gen = if new = .alertUnack then (s.ownCond c).gen + 1 else (s.ownCond c).gen
  entry : ∀ x k, u.condEntry x k = if x = s.own ∧ k = c
    then { s.ownCond c with state := new, gen := (u.ownCond c).gen } else s.condEntry x k
  notice : u.cond = { s.cond with
    notices := s.cond.notices ++ [.cond s.own c (s.ownCond c) (u.ownCond c)] }
  clear : u.ann = { s.ann with
    clears := s.ann.clears ++ if new = .alertUnack ∧ (s.ownCond c).quality = .good ∧ ⟨s.own, c⟩ ∈ s.settings.horn
      then [⟨s.own, c⟩] else [] }
  urgent : u.frame = { s.frame with
    queue := if s.life.life.queues then urgentRequest s.frame.queue else s.frame.queue }
  noJob : s.jobOf c new (u.ownCond c).gen = none →
    s.hands u [.condChange s.own c new (u.ownCond c).gen] ∧ u.report = s.report
  job : ∀ j, s.jobOf c new (u.ownCond c).gen = some j → s.report.jobs.length < 6 →
    s.hands u [.condChange s.own c new (u.ownCond c).gen] ∧
    (s.report.line = none → s.report.jobs = [] → u.report = ⟨[], some (u.composeLine j), s.clock⟩) ∧
    (s.report.line ≠ none → u.report = { s.report with jobs := s.report.jobs ++ [j] })
  dropped : ∀ j, s.jobOf c new (u.ownCond c).gen = some j → 6 ≤ s.report.jobs.length →
    s.hands u [.condChange s.own c new (u.ownCond c).gen, .reportDropped s.own c j.trigger] ∧ u.report = s.report
  others : u.pic.roster = s.pic.roster ∧ u.pic.points = s.pic.points ∧
    s.changesOnly [.pic, .cond, .ann, .frame, .journal, .report] u

/-- The requests of a press asked for one after the other: handed to the request table in ACTIVE, and outside ACTIVE
refused with an ACK_REFUSED record each (R78, R79, R82). -/
def State.asksFor (requests : List (Station × BitVec 8 × Tab 8 AckPair)) (s : State) : State :=
  requests.foldl (fun t x => if t.life.life = .active then t.handRequest x.1 x.2.1 x.2.2
    else t.record (.ackRefused x.1 x.2.1)) s

/-- Acknowledgements applied one after the other. -/
def State.answersAll (acks : List (CondIx × AckPair)) (s : State) : State :=
  acks.foldl (fun t x => t.applyAck x.1 x.2) s

/-- The ACK_FAILED records of every entry of the request table, in ascending order of target (R88). -/
def State.ackFailures (s : State) : List RecordBody :=
  (indices 32).filterMap (fun st => (s.requestFor st).bind (fun i =>
    (s.ann.requests.get i).map (fun r => .ackFailed st r.mask)))

/-- A frame valid on the line ends in a station that is receiving it from a peer's or another station's transmission. -/
structure State.hears (s : State) (levels : List Level) (bytes : List Byte) : Prop where
  notHeld : s.held = false
  running : s.life.life.running = true
  state : s.line.state = .receiving
  rx : s.line.rx = .frame
  read : readReception levels = .complete bytes
  valid : validOnLine bytes = true

/-- Levels that end with ten recessive bit times in a row and hold no ten in a row before (R121, R123). -/
def endsOnce (levels : List Level) : Prop :=
  ∃ before, levels = before ++ tailLevels ∧ ∀ n, n < levels.length → ¬ tailLevels <:+ levels.take n

/-! ### The settings an image spells (Tables 8-5, 13-1 and 13-4) -/

/-- Text as its ASCII bytes. -/
def ascii (text : String) : List Byte := text.toList.map (fun c => BitVec.ofNat 8 c.toNat)

/-- The two decimal digits of a number below 100. -/
def twoDigits (n : Nat) : List Byte := [BitVec.ofNat 8 (48 + n / 10), BitVec.ofNat 8 (48 + n % 10)]

/-- How a template spells a piece (Table 12-2). -/
def Piece.text : Piece → List Byte
  | .literal b => [b]
  | .point st p => ascii "@P" ++ twoDigits st.val ++ ascii "." ++ twoDigits p.val
  | .alarm st c => ascii "@A" ++ twoDigits st.val ++ ascii "." ++ [BitVec.ofNat 8 (48 + c.val)]
  | .event => ascii "@E"
  | .cond => ascii "@C"
  | .gen => ascii "@G"
  | .time => ascii "@T"
  | .own => ascii "@S"
  | .at => ascii "@@"

/-- Whether a piece is one a template may hold: a reference, or a printable byte 20h–7Eh other than @, or a tab (R185).
-/
def Piece.legal : Piece → Prop
  | .literal b => b = 0x09 ∨ (0x20 ≤ b.toNat ∧ b.toNat ≤ 0x7E ∧ b ≠ 0x40)
  | _ => True

/-- Pieces that spell a template as R185 allows it. -/
def spells (pieces : List Piece) (bytes : List Byte) : Prop :=
  pieces.flatMap Piece.text = bytes ∧ ∀ p ∈ pieces, p.legal

/-- The code of an input mode (Table 13-1). -/
def LineMode.code : LineMode → Nat
  | .normal => 0
  | .inverted => 1
  | .pair => 2
  | .unused => 3

/-- The code of a class (Table 13-1). -/
def AnnClass.code : AnnClass → Nat
  | .lock => 0
  | .ring => 1
  | .follow => 2

/-- The code of a combine mode (Table 13-1). -/
def Combine.code : Combine → Nat
  | .all => 0
  | .any => 1
  | .atLeast => 2

/-- The code of a journal scope (Table 13-1). -/
def Scope.code : Scope → Nat
  | .own => 0
  | .attention => 1
  | .all => 2

/-- The code of a report field (Table 13-1). -/
def reportCode : Option TemplateIx → Nat
  | some t => t.val
  | none => 0xF

/-- Whether a 16-bit word spells a term: bits 15–13 kind, 12–7 station, 6–2 index, 1 expect, 0 doubt; what a kind does
not use is disregarded (Tables 3-3 and 13-4). -/
def Term.spelledBy (w : Nat) : Term → Prop
  | .point st p expect doubt => w / 8192 = 0 ∧ w / 128 % 64 = st.val ∧ w / 4 % 32 = p.val ∧
    w / 2 % 2 = flag expect ∧ w % 2 = flag doubt
  | .fault st p => w / 8192 = 1 ∧ w / 128 % 64 = st.val ∧ w / 4 % 32 = p.val
  | .alarm st c doubt => w / 8192 = 2 ∧ w / 128 % 64 = st.val ∧ w / 4 % 32 = c.val ∧ w % 2 = flag doubt
  | .present st => w / 8192 = 3 ∧ w / 128 % 64 = st.val

/-- Whether the bytes from an offset on spell a condition's settings, in range as R44 asks; an UNUSED condition's other
fields are disregarded. -/
def CondSetting.spelledAt (m : Memory) (a : Nat) (cs : CondSetting) : Prop :=
  let byte := fun k => (Memory.read m (a + k)).toNat
  byte 0 % 4 = flag cs.enabled ∧
  (cs.enabled = false → cs = ⟨false, .lock, .all, 0, 0, 0, none, none, []⟩) ∧
  (cs.enabled = true →
    byte 0 / 4 % 4 = cs.annClass.code ∧ byte 0 / 16 % 4 = cs.combine.code ∧
    byte 1 % 16 = cs.terms.length ∧ byte 1 / 16 = cs.k ∧ 1 ≤ cs.terms.length ∧ cs.terms.length ≤ 8 ∧
    (cs.combine = .atLeast → 1 ≤ cs.k ∧ cs.k ≤ cs.terms.length) ∧
    byte 2 = cs.hold ∧ byte 3 = cs.release ∧
    byte 4 % 16 = reportCode cs.onAlert ∧ byte 4 / 16 = reportCode cs.onClear ∧
    ∀ (n : Nat) (t : Term), cs.terms[n]? = some t → t.spelledBy (byte (5 + 2 * n) * 256 + byte (6 + 2 * n)))

/-- Whether the three bytes from an offset on spell an output's setting (Table 13-4, R156). -/
def OutSetting.spelledAt (m : Memory) (a : Nat) (o : OutSetting) : Prop :=
  let byte := fun k => (Memory.read m (a + k)).toNat
  match o with
  | .unused => byte 0 % 4 = 0
  | .lamp r => byte 0 % 4 = 1 ∧ byte 0 / 4 % 4 = 1 ∧ byte 1 = r.station.val ∧ byte 2 = r.cond.val
  | .directPoint st p invert doubt => byte 0 % 4 = 2 ∧ byte 0 / 4 % 4 = 0 ∧ byte 0 / 16 % 2 = flag invert ∧
    byte 0 / 32 % 2 = flag doubt ∧ byte 1 = st.val ∧ byte 2 = p.val
  | .directCond r invert doubt => byte 0 % 4 = 2 ∧ byte 0 / 4 % 4 = 1 ∧ byte 0 / 16 % 2 = flag invert ∧
    byte 0 / 32 % 2 = flag doubt ∧ byte 1 = r.station.val ∧ byte 2 = r.cond.val

/-- Whether the bytes from an offset on spell templates, each behind its length byte, all of them before another offset
(Table 13-4, R196). -/
def templatesSpelled (m : Memory) (stop : Nat) : Nat → List (List Byte) → Prop
  | _, [] => True
  | a, bytes :: rest => (Memory.read m a).toNat = bytes.length ∧ bytes.length ≤ 48 ∧ a + 1 + bytes.length ≤ stop ∧
    (∀ k b, bytes[k]? = some b → Memory.read m (a + 1 + k) = b) ∧ templatesSpelled m stop (a + 1 + bytes.length) rest

/-- An image of a length spells settings for a station number: every field lies at its offset and in its range, and the
sections end before the check (check 5 of Table 8-4, Tables 8-5, 13-1 and 13-4, R23, R44, R92, R156, R195, R196). -/
structure Settings.spelledBy (m : Memory) (length : Nat) (stn : Station) (set : Settings) : Prop where
  sections : 270 ≤ length - 2
  version : Memory.read m 2 = 1 ∧ set.version = 1
  bitRate : (Memory.read m 6).toNat = set.bitRate ∧ set.bitRate ≤ 2
  refreshCode : (Memory.read m 7).toNat = set.refreshCode ∧ set.refreshCode ≤ 4
  expected : ∀ k : Fin 32, set.expected.getLsbD k.val = (Memory.read m (8 + k.val / 8)).getLsbD (k.val % 8)
  ownExpected : set.expected.getLsbD stn.val = true
  zone : (Memory.read m 12).toNat = set.zone.val
  reach : ∀ k : Fin 4, set.reach.getLsbD k.val = (Memory.read m 13).getLsbD k.val
  ownZone : set.reach.getLsbD set.zone.val = true
  scope : (Memory.read m 14).toNat = set.scope.code
  attn : (Memory.read m 15).toNat = flag set.attnEnabled
  lines : ∀ n, (Memory.read m (16 + n.val)).toNat % 8 = (set.lines.get n).mode.code ∧
    (Memory.read m (16 + n.val)).toNat / 16 % 8 = (set.lines.get n).debounce ∧ (set.lines.get n).debounce ≤ 4 ∧
    ((set.lines.get n).mode = .pair → n.val % 2 = 0)
  conds : ∀ c, (set.conds.get c).spelledAt m (32 + 21 * c.val)
  outs : ∀ o, (set.outs.get o).spelledAt m (200 + 3 * o.val)
  horn : (Memory.read m 236).toNat = set.horn.length ∧ set.horn.length ≤ 16 ∧
    ∀ k r, set.horn[k]? = some r → (Memory.read m (237 + 2 * k)).toNat = r.station.val ∧
      (Memory.read m (238 + 2 * k)).toNat = r.cond.val
  uart : (Memory.read m 269).toNat = set.uart ∧ set.uart ≤ 3
  templates : templatesSpelled m (length - 2) 270 set.templates.list

/-! ### Laws of the life states -/

/-- In LOADING and CONFIG_FAULT the working blocks hold their reset values and drive nothing, and the RESET pin is held
only in LOADING (R6, R31, R54, R74, R114, R118, R155, R184, R140). -/
structure State.IdleLaw (s : State) : Prop where
  heldIsLoading : s.held = true → s.life.life = .loading
  settings : s.life.life.running = false → s.settings = .empty
  picture : s.life.life.running = false → s.pic = .reset
  input : s.life.life.running = false → s.input = .reset
  conditions : s.life.life.running = false → s.cond = .reset
  annunciation : s.life.life.running = false → s.ann = .reset
  frames : s.life.life.running = false → s.frame = .reset
  line : s.life.life.running = false → s.line = .reset
  report : s.life.life.running = false → s.report = .reset
  outputs : s.life.life.running = false → s.out = { OutputUnit.reset with phase := s.out.phase }
  stuck : s.life.life.running = false → s.life.lineStuck = false

/-- The timers of Life Control and the refresh timer run only in their life states, the collision count reads 16 in
WITHDRAWN and never more, and a fault code stands only before acceptance (R113, R132, R146, R151, R154). -/
structure State.LifeLaw (s : State) : Prop where
  listen : s.life.listen.isSome = true ↔ s.life.life = .listening
  withdraw : s.life.withdraw.isSome = true ↔ s.life.life = .withdrawn
  refresh : s.frame.refresh.isSome = true → s.life.life = .active
  collisions : s.line.collisions ≤ 16
  withdrawn : s.life.life = .withdrawn → s.line.collisions = 16
  fault : s.life.life.running = true → s.life.fault = .none
  configFault : s.life.life = .configFault → s.life.fault ≠ .none ∧ s.life.source = .memory

/-- Whether SFAULT is asserted, by life state and line (Table 8-7). -/
def sfaultOf : Life → Bool → Bool
  | .loading, stuck => stuck
  | .configFault, _ => true
  | .listening, stuck => stuck
  | .active, stuck => stuck
  | .withdrawn, _ => true
  | .duplicate, _ => true

/-! ### The picture -/

/-- Whether an entry of a row is UNKNOWN throughout (R4). -/
def State.rowUnknown (s : State) (st : Station) : Prop :=
  (∀ p, (s.pointEntry st p).quality = .unknown) ∧ (∀ c, (s.condEntry st c).quality = .unknown)

/-- Whether no entry of a row is UNKNOWN. -/
def State.rowKnown (s : State) (st : Station) : Prop :=
  (∀ p, (s.pointEntry st p).quality ≠ .unknown) ∧ (∀ c, (s.condEntry st c).quality = .good)

/-- The roster and the qualities of the picture while the station runs (R2 to R5, R11, R15). -/
structure State.PictureLaw (s : State) : Prop where
  self : s.life.life.running = true → ∀ st, (s.pic.roster.get st).presence = .self ↔ st = s.own
  timer : ∀ st, (s.pic.roster.get st).absence.isSome = true ↔ (s.pic.roster.get st).presence = .present
  present : ∀ st, (s.pic.roster.get st).presence = .present → s.rowKnown st
  notPresent : ∀ st, st ≠ s.own → (s.pic.roster.get st).presence ≠ .present → s.rowUnknown st
  own : s.life.life.running = true → s.rowKnown s.own
  held : ∀ st, (s.pic.roster.get st).presence = .present ∨ (s.pic.roster.get st).presence = .absent ↔
    (s.pic.roster.get st).lastSeq.isSome = true
  code : ∀ st, (s.pic.roster.get st).refreshCode.isSome = (s.pic.roster.get st).lastSeq.isSome ∧
    ∀ n, (s.pic.roster.get st).refreshCode = some n → n ≤ 4
  restart : ∀ st, (s.pic.roster.get st).restartSeen = true → (s.pic.roster.get st).presence = .present

/-! ### Points, conditions and annunciation -/

/-- While the station runs, a debounced line holds a candidate and a timer exactly while its present level differs from
its accepted level, a pair's timer runs exactly while its present relation differs from the accepted one, and the own
points follow the accepted levels and relations (R22, R24, R26, R28 to R30). -/
structure State.PointLaw (s : State) : Prop where
  candidate : s.life.life.running = true → ∀ n, s.settings.debounces n = true →
    (s.input.lines.get n).candidate =
      if s.pins.lines.get n = (s.input.lines.get n).accepted then none else some (s.pins.lines.get n)
  timer : ∀ n, (s.input.lines.get n).timer.isSome = (s.input.lines.get n).candidate.isSome
  notDebounced : ∀ n, s.settings.debounces n = false → (s.input.lines.get n).candidate = none
  pair : s.life.life.running = true → ∀ k, s.settings.isPair k = true →
    ((s.input.pairs.get k).timer.isSome = true ↔ s.relationNow k ≠ (s.input.pairs.get k).accepted)
  notPair : ∀ k, s.settings.isPair k = false → s.input.pairs.get k = ⟨.complement, none⟩
  value : s.life.life.running = true → ∀ p, (s.pointEntry s.own p).value =
    (s.settings.lines.get (s.settings.valueLine p)).mode.value
      (s.input.lines.get (s.settings.valueLine p)).accepted
  quality : s.life.life.running = true → ∀ p, (s.pointEntry s.own p).quality =
    (s.input.pairs.get (pairOf p)).accepted.quality

/-- While the station runs, a control input holds a candidate and a timer exactly while its present level differs from
its accepted level, and the TEST level is TEST's accepted level (R33, R35). -/
structure State.ControlLaw (s : State) : Prop where
  candidate : s.life.life.running = true → ∀ i, (s.input.control i).candidate =
    if s.pins.control i = (s.input.control i).accepted then none else some (s.pins.control i)
  timer : ∀ i, (s.input.control i).timer.isSome = (s.input.control i).candidate.isSome
  test : s.out.testLevel = s.input.test.accepted

/-- The raw result of an evaluation state (R49). -/
def EvalState.raw : EvalState → Bool
  | .isFalse => false
  | .qualifying => true
  | .isTrue => true
  | .releasing => false

/-- The truth of an evaluation state (R51). -/
def EvalState.truth : EvalState → Bool
  | .isFalse => false
  | .qualifying => false
  | .isTrue => true
  | .releasing => true

/-- Raw result, timers and truth follow the evaluation state of each condition, and an unused condition stays FALSE
(R37, R49, R51). -/
structure State.ConditionLaw (s : State) : Prop where
  raw : ∀ c, (s.cond.run.get c).raw = (s.cond.run.get c).eval.raw
  hold : ∀ c, (s.cond.run.get c).hold.isSome = true ↔ (s.cond.run.get c).eval = .qualifying
  release : ∀ c, (s.cond.run.get c).release.isSome = true ↔ (s.cond.run.get c).eval = .releasing
  truth : ∀ c, (s.ownCond c).truth = (s.cond.run.get c).eval.truth
  unused : ∀ c, (s.settings.conds.get c).enabled = false → (s.cond.run.get c).eval = .isFalse

/-- Whether a class allows a state with a sequence truth (Table 4-5). -/
def annAllowed : AnnClass → AnnState → Bool → Bool
  | .lock, .normal, truth => !truth
  | .lock, .alertUnack, _ => true
  | .lock, .alertAck, truth => truth
  | .lock, .returnUnack, _ => false
  | .ring, .normal, truth => !truth
  | .ring, .alertUnack, _ => true
  | .ring, .alertAck, truth => truth
  | .ring, .returnUnack, truth => !truth
  | .follow, .normal, truth => !truth
  | .follow, .alertUnack, truth => truth
  | .follow, .alertAck, truth => truth
  | .follow, .returnUnack, _ => false
  | _, .unused, _ => false

/-- The level after edges that alternate from a level; none where an edge repeats the level before it. -/
def followEdges : Bool → List Bool → Option Bool
  | level, [] => some level
  | level, e :: rest => if e = level then none else followEdges e rest

/-- The levels of the edges of a condition that wait, oldest first. -/
def State.edgesOf (s : State) (c : CondIx) : List Bool :=
  (s.ann.edges.filter (fun e => e.cond == c)).map Edge.rising

/-- The edges that wait alternate from the sequence truth to the own row's truth, and the state of an enabled condition
stands with its sequence truth as Table 4-5 allows; an unused one stays UNUSED (R60, R66, R75). -/
structure State.AnnunciationLaw (s : State) : Prop where
  edges : ∀ c, followEdges (s.ann.seqTruth.get c) (s.edgesOf c) = some (s.ownCond c).truth
  allowed : ∀ c, (s.settings.conds.get c).enabled = true →
    annAllowed (s.classOfCond c) (s.ownCond c).state (s.ann.seqTruth.get c) = true
  unused : s.life.life.running = true → ∀ c, (s.settings.conds.get c).enabled = false →
    (s.ownCond c).state = .unused ∧ (s.ownCond c).gen = 0 ∧ s.ann.seqTruth.get c = false ∧ s.edgesOf c = []

/-! ### Frames, the request table and the line -/

/-- The station drives the line only in ACTIVE: an own frame is being sent only while TRANSMITTING in ACTIVE, an own jam
only while JAMMING in ACTIVE, for 16 dominant bit times; the current slot stands only in WINDOW; and the line-stuck
field tells STUCK (R118, R124, R131, R133, R152). -/
structure State.LineLaw (s : State) : Prop where
  sending : s.line.sending.isSome = true → s.life.life = .active ∧ s.line.state = .transmitting
  jam : s.line.jam ≠ [] → s.life.life = .active ∧ s.line.state = .jamming
  jamLength : s.line.jam = [] ∨ s.line.jam = ownJam
  slot : s.line.slot.isSome = true ↔ s.line.state = .window
  stuck : s.life.lineStuck = true ↔ s.line.state = .stuck
  rx : s.line.rx = .none ↔ s.line.state ≠ .receiving

/-- In ACTIVE and QUIET no entry waits: a station that holds one has started (R128). -/
def State.QuietLaw (s : State) : Prop :=
  s.life.life = .active → s.line.state = .quiet → ∀ e ∈ s.frame.queue, e.onLine = true

/-- The law of the outgoing queue: at most one STATE entry, one SILENCE entry and one ACKREQ entry per request-table
entry, so at most 10 entries; at most one ON_LINE, and only while the own frame is being sent; ACKREQ and SILENCE
entries only in ACTIVE; nothing in DUPLICATE (R102, R110, R114). -/
structure State.QueueLaw (s : State) : Prop where
  state : s.frame.queue.countP QEntry.isState ≤ 1
  silence : s.frame.queue.countP QEntry.isSilence ≤ 1
  ackreq : ∀ i, s.frame.queue.countP (QEntry.isAckreq i) ≤ 1
  length : s.frame.queue.length ≤ 10
  onLine : s.frame.queue.countP QEntry.onLine ≤ 1
  sent : ∀ e ∈ s.frame.queue, e.onLine = true → s.line.sending.isSome = true
  active : ∀ e ∈ s.frame.queue, e.isState = false → s.life.life = .active
  duplicate : s.life.life = .duplicate → s.frame.queue = []

/-- The laws of the acknowledge request table: entries only in ACTIVE, at most one per target, none for the own station
and none with an empty mask, every target PRESENT; frame pending tells how the ACKREQ stands in the queue, and the retry
timer runs exactly while it is NONE (R81, R84, R110). -/
structure State.RequestLaw (s : State) : Prop where
  active : ∀ i r, s.ann.requests.get i = some r → s.life.life = .active
  distinct : ∀ i j r q, s.ann.requests.get i = some r → s.ann.requests.get j = some q → r.target = q.target → i = j
  target : ∀ i r, s.ann.requests.get i = some r → r.target ≠ s.own ∧
    (s.pic.roster.get r.target).presence = .present
  mask : ∀ i r, s.ann.requests.get i = some r → r.mask ≠ 0
  retries : ∀ i r, s.ann.requests.get i = some r → r.retries ≤ 3
  timer : ∀ i r, s.ann.requests.get i = some r → (r.timer.isSome = true ↔ r.pending = .none)
  queued : ∀ i r, s.ann.requests.get i = some r →
    (r.pending = .queued ↔ ∃ e ∈ s.frame.queue, e.isAckreq i = true ∧ e.onLine = false)
  onLine : ∀ i r, s.ann.requests.get i = some r →
    (r.pending = .onLine ↔ ∃ e ∈ s.frame.queue, e.isAckreq i = true ∧ e.onLine = true)
  entry : ∀ i e, e ∈ s.frame.queue → e.isAckreq i = true → (s.ann.requests.get i).isSome = true
  sendAgain : ∀ i r, s.ann.requests.get i = some r → r.sendAgain = true → r.pending = .onLine

/-! ### Outputs, journal, reports and the image buffer -/

/-- Each output line is off outside the running life states and otherwise at the level its setting gives, and the
pattern phase is the phase of the millisecond count (R156 to R161, R166). -/
structure State.OutputLaw (s : State) : Prop where
  phase : s.out.phase = phaseOf s.clock
  levels : ∀ i, s.out.levels.get i = (s.life.life.running && s.outLevel (s.settings.outs.get i))
  horn : s.out.horn = (s.life.life.running && s.hornLevel)

/-- HORN is on exactly when the silence latch is clear and a horn-set condition of quality GOOD stands in ALERT_UNACK
(R164). -/
def State.HornLaw (s : State) : Prop :=
  s.out.horn = true ↔ s.out.latch = false ∧
    ∃ r ∈ s.settings.horn, (s.condEntry r.station r.cond).quality = .good ∧
      (s.condEntry r.station r.cond).state = .alertUnack

/-- The journal holds at most 32 records; the overflow pending flag stands only while it is full, and exactly while the
lost count is above 0; ATTN is asserted exactly while it holds a record and the image has ATTN enabled (R171, R172,
R175). -/
structure State.JournalLaw (s : State) : Prop where
  size : s.journal.records.length ≤ 32
  full : s.journal.overflowPending = true → s.journal.records.length = 32
  flag : s.journal.overflowPending = true ↔ 0 < s.journal.lost
  lost : s.journal.lost ≤ 65535
  attn : s.journal.attn = (s.settings.attnEnabled && !s.journal.records.isEmpty)

/-- At most 6 jobs wait, none while the unit is IDLE, and a line has at most 96 characters before its CR LF (R186 to
R188). -/
structure State.ReportLaw (s : State) : Prop where
  jobs : s.report.jobs.length ≤ 6
  idle : s.report.line = none → s.report.jobs = []
  line : ∀ l, s.report.line = some l → l.length ≤ 98

/-- The image buffer keeps its canonical form. -/
def State.BufferLaw (s : State) : Prop := Memory.wf s.loader.buffer = true

/-- The Configuration Loader works only in LOADING. While the memory read runs its source is MEMORY, SCS selects the
memory, the read is short of its end, and every byte that has not arrived reads 00h; otherwise SCS is released, SCK is
low, and no level waits for SDO or has been sampled from SDI (R140 to R142). SDO shows the rest of the read command
before any byte of the image is sampled, and fewer than eight levels have been sampled of the byte that is arriving, or
eight while SCK is high after the last of them; that the byte stands in the buffer at the falling edge is log entry 13,
and the count of the bytes so far is the model's own field (log entry 9). -/
structure State.LoaderLaw (s : State) : Prop where
  loading : s.loader.phase ≠ .idle → s.life.life = .loading
  source : s.loader.phase = .reading → s.life.source = .memory
  short : s.loader.phase = .reading → 5 ≤ s.loader.got → s.loader.got < memoryReadLength s.loader.buffer
  absent : s.loader.phase = .reading → ∀ a, s.loader.got ≤ a → Memory.read s.loader.buffer a = 0
  select : s.loader.scs = true ↔ s.loader.phase = .reading
  released : s.loader.scs = false → s.loader.sck = false ∧ s.loader.sdo = [] ∧ s.loader.sdi = []
  command : s.loader.sdo <:+ memoryReadCommand.flatMap spiLevels
  first : s.loader.sdo ≠ [] → s.loader.got = 0 ∧ s.loader.sdi = []
  sampled : s.loader.sdi.length ≤ 8 ∧ (s.loader.sck = false → s.loader.sdi.length < 8)

/-- The discarded-frame count never exceeds 65535 (R98). -/
def State.CountLaw (s : State) : Prop := s.frame.discarded ≤ 65535

/-- SFAULT stands as Table 8-7 gives (R153). -/
def State.SfaultLaw (s : State) : Prop := s.life.sfault = sfaultOf s.life.life s.life.lineStuck

/-- All the laws together. -/
structure State.Lawful (s : State) : Prop where
  idle : s.IdleLaw
  life : s.LifeLaw
  sfault : s.SfaultLaw
  picture : s.PictureLaw
  points : s.PointLaw
  controls : s.ControlLaw
  conditions : s.ConditionLaw
  annunciation : s.AnnunciationLaw
  line : s.LineLaw
  quiet : s.QuietLaw
  queue : s.QueueLaw
  requests : s.RequestLaw
  outputs : s.OutputLaw
  journal : s.JournalLaw
  reports : s.ReportLaw
  buffer : s.BufferLaw
  loader : s.LoaderLaw
  count : s.CountLaw

end Machine

end Sys2Proof
end

