-- ==== Sys2Proof/Certificates/Slice0/Obligations.lean ====
section
/-!
DEFINITION. The statements for the provers: what each command does, the laws every step keeps, and the round trips of the
line. Where an event ends in a quiet start and the recomputing of the output lines, its statement names the state before
them, `u`, and says that the command answers `u.settle`; `SettleStartsAndDrives` says what that adds.
-/

open Sys2Proof Sys2Proof.Machine

/-! ### The block as a whole -/

/-- One step takes the command at the front of the queue, on the state with the queue's rest; it answers a next state,
in which the queue's rest is what waits. The manual's events are separate and no two meet at one instant (00_scope,
Events and their order). That they wait in a queue filled from outside, which no command and no reset touches, is the
model's form (log entries 4 and 14); that every command answers a next state is log entry 16. -/
def Obligations.StepTakesTheFrontCommand : Prop :=
  ∀ (c : Instr) (rest : List Instr) (s : State), s.pending = c :: rest →
    step s = exec c (s.withPending rest) ∧ ∃ t, step s = .next t ∧ t.pending = rest

/-- How time passes. With no command waiting one millisecond passes, unless the RESET pin is held (R140).
PATTERN_PHASE_STEP takes the count to the next multiple of 125 ms, or over the wrap to 0 (R158). A timer's expiry brings
the count to the count at which it is due; taken late, which is within 2^31 ms after it, it leaves the count. The ticks
and the meeting of expiries with the count are the model's choice (log entry 5). -/
def Obligations.TimePasses : Prop :=
  (∀ s : State, s.pending = [] →
    (s.held = true → step s = .next s) ∧
    (s.held = false → ∃ t, step s = .next t ∧ t.clock = s.clock + 1 ∧ t.out.phase = phaseOf t.clock ∧
      t.out.testLevel = s.out.testLevel ∧ t.out.lampTest = s.out.lampTest ∧ t.out.latch = s.out.latch ∧
      s.changesOnly [.clock, .out] t)) ∧
  (∀ s : State, s.held = false → ∃ t, exec .patternPhaseStep s = .next t ∧
    (s.clock.toNat < 4294967250 → t.clock.toNat % 125 = 0 ∧ s.clock.toNat < t.clock.toNat ∧
      t.clock.toNat ≤ s.clock.toNat + 125) ∧
    (4294967250 ≤ s.clock.toNat → t.clock = 0) ∧
    t.out.phase.val = t.clock.toNat % 1000 / 125 ∧ t.out.testLevel = s.out.testLevel ∧
    t.out.lampTest = s.out.lampTest ∧ t.out.latch = s.out.latch ∧ s.changesOnly [.clock, .out] t) ∧
  (∀ (due : Ms) (s : State),
    ((due - s.clock).toNat < 2147483648 → (s.reachTime due).clock = due) ∧
    (2147483648 ≤ (due - s.clock).toNat → (s.reachTime due).clock = s.clock) ∧
    (s.reachTime due).out = { s.out with phase := (s.reachTime due).out.phase } ∧
    s.changesOnly [.clock, .out] (s.reachTime due))

/-- What `settle` adds at the end of an event. In ACTIVE and QUIET a station that holds a WAITING entry starts at once,
and otherwise nothing of the queue, the table or the line moves (R128). Then the output lines and HORN stand as their
settings give, or off in LOADING and CONFIG_FAULT: each LAMP shows its pattern, each DIRECT output its value or doubt
value, inverted where the image says so, and HORN sounds exactly when the latch is clear and a horn-set condition of
quality GOOD stands in ALERT_UNACK (R157 to R166). That both come at the end of an event is the model's choice (log
entry 6). -/
def Obligations.SettleStartsAndDrives : Prop :=
  (∀ s : State,
    (s.life.life = .active → s.line.state = .quiet → (∃ e ∈ s.frame.queue, e.onLine = false) →
      s.starts s.quietStart) ∧
    (¬ (s.life.life = .active ∧ s.line.state = .quiet ∧ ∃ e ∈ s.frame.queue, e.onLine = false) → s.quietStart = s)) ∧
  (∀ s : State, s.settle = s.quietStart.driveOutputs) ∧
  (∀ s : State, s.changesOnly [.out] s.driveOutputs ∧ s.driveOutputs.out = { s.out with
      levels := s.driveOutputs.out.levels
      horn := s.driveOutputs.out.horn } ∧
    (s.life.life.running = false → s.driveOutputs.out.horn = false ∧ ∀ i, s.driveOutputs.out.levels.get i = false) ∧
    (s.life.life.running = true →
      (s.driveOutputs.out.horn = true ↔ s.out.latch = false ∧ ∃ r ∈ s.settings.horn,
        (s.condEntry r.station r.cond).quality = .good ∧ (s.condEntry r.station r.cond).state = .alertUnack) ∧
      ∀ i,
        (s.settings.outs.get i = .unused → s.driveOutputs.out.levels.get i = false) ∧
        (∀ r, s.settings.outs.get i = .lamp r → (s.driveOutputs.out.levels.get i = true ↔
          lampShows (s.out.testLevel || s.out.lampTest) (s.condEntry r.station r.cond) s.out.phase)) ∧
        (∀ st p invert doubt, s.settings.outs.get i = .directPoint st p invert doubt →
          s.driveOutputs.out.levels.get i =
            (invert ^^ if (s.pointEntry st p).quality = .good then (s.pointEntry st p).value else doubt)) ∧
        (∀ r invert doubt, s.settings.outs.get i = .directCond r invert doubt → s.driveOutputs.out.levels.get i =
          (invert ^^ if (s.condEntry r.station r.cond).quality = .good then (s.condEntry r.station r.cond).truth
            else doubt))))

/-- An event that cannot occur as the station stands changes nothing (R3, R139; log entry 2). While the RESET pin is
held no command but LEAVE_RESET and RESET changes anything but the levels at the pins (R140; that the contacts still
move is log entry 4). -/
def Obligations.EventsThatCannotOccurChangeNothing : Prop :=
  (∀ (c : Instr) (s t : State), s.held = true → c.resets = false → exec c s = .next t → s.changesOnly [.pins] t) ∧
  (∀ (stn : Station) (source : ImageSource) (s : State), s.held = false → exec (.leaveReset stn source) s = .next s) ∧
  ∀ s : State,
    (s.life.life ≠ .loading →
      (∀ l, exec (.memoryReadEnd l) s = .next s) ∧ exec .imageCheckEnd s = .next s) ∧
    (s.loader.phase ≠ .reading → ∀ l, exec (.memoryReadEnd l) s = .next s) ∧
    (s.loader.phase ≠ .checking → exec .imageCheckEnd s = .next s) ∧
    (s.life.life ≠ .listening → exec .listenTimerExpiry s = .next s) ∧
    (s.life.life ≠ .withdrawn → exec .withdrawTimerExpiry s = .next s) ∧
    (s.life.life ≠ .active → exec .refreshTimerExpiry s = .next s) ∧
    (s.frame.refresh = none → exec .refreshTimerExpiry s = .next s) ∧
    (∀ n, (s.input.lines.get n).timer = none → exec (.debounceExpiry n) s = .next s) ∧
    (∀ k, (s.input.pairs.get k).timer = none → exec (.pairTimerExpiry k) s = .next s) ∧
    (∀ i, (s.input.control i).timer = none → exec (.controlDebounceExpiry i) s = .next s) ∧
    (∀ n, exec (.inputLevelChange n (s.pins.lines.get n)) s = .next s) ∧
    (∀ i, exec (.controlInputChange i (s.pins.control i)) s = .next s) ∧
    (∀ c, (s.cond.run.get c).eval ≠ .qualifying → exec (.holdExpiry c) s = .next s) ∧
    (∀ c, (s.cond.run.get c).eval ≠ .releasing → exec (.releaseExpiry c) s = .next s) ∧
    (s.cond.notices = [] → exec .evaluation s = .next s) ∧
    (∀ c, (∀ e ∈ s.ann.edges, e.cond ≠ c) → exec (.truthEdge c) s = .next s) ∧
    (s.ann.clears = [] → exec .silenceLatchClear s = .next s) ∧
    (∀ i, (∀ r, s.ann.requests.get i = some r → r.timer = none) → exec (.retryTimerExpiry i) s = .next s) ∧
    (∀ st, (s.pic.roster.get st).presence ≠ .present → exec (.absenceTimerExpiry st) s = .next s) ∧
    (s.line.state ≠ .receiving → exec .startupWaitEnd s = .next s ∧ (∀ l, exec (.frameEnd l) s = .next s) ∧
      (∀ l, exec (.invalidReceptionEnd l) s = .next s) ∧
      (s.line.state ≠ .jamming → ∀ l, exec (.jamEnd l) s = .next s)) ∧
    (s.line.state ≠ .window → exec .windowEnd s = .next s ∧ ∀ k, exec (.slotStart k) s = .next s) ∧
    (∀ k : Fin 64, k.val < s.line.nextSlot → exec (.slotStart k) s = .next s) ∧
    (s.line.state ≠ .transmitting → exec .transmissionComplete s = .next s ∧ exec .ownFrameEnd s = .next s ∧
      ∀ n, exec (.collision n) s = .next s) ∧
    (s.line.state = .stuck → exec .lineStuck s = .next s ∧ exec .receptionStart s = .next s) ∧
    (s.line.state ≠ .stuck → exec .lineReleased s = .next s) ∧
    (s.report.line = none → exec .reportLineEnd s = .next s) ∧
    (s.life.life.running = false → exec .startupWaitEnd s = .next s ∧ exec .receptionStart s = .next s ∧
      exec .windowEnd s = .next s ∧ exec .ownFrameEnd s = .next s ∧ exec .lineStuck s = .next s ∧
      exec .lineReleased s = .next s ∧ (∀ l, exec (.frameEnd l) s = .next s) ∧
      (∀ l, exec (.invalidReceptionEnd l) s = .next s) ∧ (∀ l, exec (.jamEnd l) s = .next s) ∧
      (∀ k, exec (.slotStart k) s = .next s))

/-- The life state changes on the events of Table 8-3 and on no others (R139). -/
def Obligations.LifeStateMovesByItsTable : Prop :=
  ∀ (c : Instr) (s t : State), exec c s = .next t → t.life.life ≠ s.life.life →
    (c.resets = true ∧ t.life.life = .loading) ∨
    (c = .imageCheckEnd ∧ s.life.life = .loading ∧ (∃ set, checkImage s.loader.buffer s.own = .ok set) ∧
      t.life.life = .listening) ∨
    (c = .imageCheckEnd ∧ s.life.life = .loading ∧ s.life.source = .memory ∧
      (∃ code, checkImage s.loader.buffer s.own = .error code) ∧ t.life.life = .configFault) ∨
    (c = .listenTimerExpiry ∧ s.life.life = .listening ∧ t.life.life = .active) ∨
    ((∃ levels bytes, c = .frameEnd levels ∧ readReception levels = .complete bytes ∧ validOnLine bytes = true ∧
      frameOrigin bytes = s.own) ∧ (s.life.life = .listening ∨ s.life.life = .active) ∧ t.life.life = .duplicate) ∨
    ((∃ n, c = .collision n) ∧ s.life.life = .active ∧ 15 ≤ s.line.collisions ∧ t.line.collisions = 16 ∧
      t.life.life = .withdrawn) ∨
    (c = .withdrawTimerExpiry ∧ s.life.life = .withdrawn ∧ t.life.life = .listening)

/-- Presence changes on the events of Table 1-3 and on no others, and a change that is no reset yields a notice of the
presence item, with its value before and after (R3, R18). -/
def Obligations.PresenceMovesByItsTable : Prop :=
  ∀ (c : Instr) (s t : State) (st : Station), s.IdleLaw → exec c s = .next t →
    (t.pic.roster.get st).presence ≠ (s.pic.roster.get st).presence →
    (c.resets = true ∧ (t.pic.roster.get st).presence = .notExpected) ∨
    (.presence st (s.pic.roster.get st).presence (t.pic.roster.get st).presence ∈ t.cond.notices ∧
      ((c = .imageCheckEnd ∧ (s.pic.roster.get st).presence = .notExpected ∧ t.life.life = .listening ∧
          (t.pic.roster.get st).presence = (if st = s.own then .self else .unheard) ∧
          (st ≠ s.own → t.settings.expected.getLsbD st.val = true)) ∨
        ((∃ levels bytes f, c = .frameEnd levels ∧ readReception levels = .complete bytes ∧ validOnLine bytes = true ∧
          decodeFrame bytes = some ⟨st, .state f⟩) ∧
          ((s.pic.roster.get st).presence = .unheard ∨ (s.pic.roster.get st).presence = .absent) ∧
          (t.pic.roster.get st).presence = .present) ∨
        (c = .absenceTimerExpiry st ∧ (s.pic.roster.get st).presence = .present ∧
          (t.pic.roster.get st).presence = .absent)))

/-- The own next sequence and the FIRST flag change only at the completion of a STATE, which advances the one and clears
the other, and at reset (R112, R115). -/
def Obligations.SequenceAdvancesOnlyAtCompletion : Prop :=
  ∀ (c : Instr) (s t : State), exec c s = .next t → c.resets = false →
    (t.frame.nextSeq ≠ s.frame.nextSeq ∨ t.frame.first ≠ s.frame.first) →
    c = .transmissionComplete ∧ s.transmitting = true ∧ (∃ e, s.onLineEntry = some e ∧ e.isState = true) ∧
      t.frame.nextSeq = s.frame.nextSeq + 1 ∧ t.frame.first = false

/-- Records leave the journal only by TAKE and by reset: every other command keeps the records held, in their order, and
adds at the tail, and keeps the window. So do the supervisor's other commands, ACK_ALL, ACK_ONE, SILENCE, the lamp
tests, COUNT_CLEAR, COMMIT and an unknown code, and every write that does not put TAKE's code into COMMAND. A record
that the scope passes is appended with its timestamp: below 32 records it joins the tail; with 32 held it is discarded,
the lost count rises by one and stays at 65535, and the overflow pending flag is set. One that the scope does not pass
changes nothing. Scope OWN passes own points and own conditions, ATTENTION also the peer conditions of the attention
set, ALL every point and condition, and every scope passes the other kinds. ATTN follows (R170, R171, R173, R175). -/
def Obligations.RecordsLeaveOnlyByTake : Prop :=
  (∀ (c : Instr) (s t : State), exec c s = .next t → c.resets = false → c.writesTake = false →
    (∃ l, t.journal.records = s.journal.records ++ l) ∧ t.journal.window = s.journal.window) ∧
  (∀ (b : RecordBody) (s : State),
    (s.scopePasses b = false → s.record b = s) ∧
    (s.scopePasses b = true → s.changesOnly [.journal] (s.record b) ∧
      (s.record b).journal = (s.journal.append ⟨b, s.clock⟩).driveAttn s.settings.attnEnabled)) ∧
  (∀ (j : Journal) (r : Record),
    (j.records.length < 32 → j.append r = { j with records := j.records ++ [r] }) ∧
    (32 ≤ j.records.length → j.append r = { j with
      lost := if j.lost < 65535 then j.lost + 1 else 65535
      overflowPending := true }) ∧
    ∀ enabled : Bool, j.driveAttn enabled = { j with attn := (j.driveAttn enabled).attn } ∧
      ((j.driveAttn enabled).attn = true ↔ enabled = true ∧ j.records ≠ [])) ∧
  ∀ (s : State) (owner : Station) (p : PointIx) (c : CondIx) (value fault : Bool) (a : AnnState) (g : Gen),
    (s.scopePasses (.pointChange owner p value fault) = true ↔ s.settings.scope = .all ∨ owner = s.own) ∧
    (s.scopePasses (.condChange owner c a g) = true ↔ s.settings.scope = .all ∨ owner = s.own ∨
      s.settings.scope = .attention ∧ ⟨owner, c⟩ ∈ s.ann.attention) ∧
    ∀ b : RecordBody, (∀ x q v f, b ≠ .pointChange x q v f) → (∀ x k n h, b ≠ .condChange x k n h) →
      s.scopePasses b = true

/-- No received frame writes an own point or the truth of an own condition, and only an ACKREQ that names the own
station in ACTIVE changes an own condition (R5, R8, R90). -/
def Obligations.PeersDoNotWriteTheOwnRow : Prop :=
  ∀ (levels : List Level) (bytes : List Byte) (s t : State), readReception levels = .complete bytes →
    exec (.frameEnd levels) s = .next t →
    t.own = s.own ∧ (∀ p, t.pointEntry s.own p = s.pointEntry s.own p) ∧
    (∀ c, (t.ownCond c).truth = (s.ownCond c).truth ∧ (t.ownCond c).quality = (s.ownCond c).quality) ∧
    ((¬ ∃ origin mask pairs, decodeFrame bytes = some ⟨origin, .ackreq s.own mask pairs⟩) ∨ s.life.life ≠ .active →
      ∀ c, t.ownCond c = s.ownCond c)

/-! ### Reset -/

/-- Reset completes in every state and leaves every block at the reset values of its chapter, whatever it held, with the
RESET pin held: the settings discarded, the line released, the memory port idle, TXD idle (R6, R31, R54, R74, R81, R102,
R118, R138, R140, R155, R176, R177, R184). The pins' levels and the waiting commands are not the part's and stay (log
entry 4). Values the manual does not give, among them those of discarded settings, the Configuration Loader's check
result, the capture buffer and the model's own fields, are the model's choice (log entries 3 and 9). -/
def Obligations.ResetGivesTheResetValues : Prop :=
  ∀ s : State, ∃ t, exec .reset s = .next t ∧ t.held = true ∧ s.changesOnly [.held, .clock, .settings, .life, .loader,
      .pic, .input, .cond, .ann, .frame, .line, .out, .journal, .port, .report] t ∧
    t.life.life = .loading ∧ t.life.fault = .none ∧ t.life.listen = none ∧ t.life.withdraw = none ∧
    t.life.lineStuck = false ∧ t.life.sfault = false ∧ t.settings = .empty ∧
    (∀ c, (t.settings.conds.get c).enabled = false) ∧ (∀ o, t.settings.outs.get o = .unused) ∧ t.settings.horn = [] ∧
    t.settings.attnEnabled = false ∧ (∀ k, t.settings.templates.get k = []) ∧
    t.loader.phase = .idle ∧ t.loader.check = .none ∧ t.loader.got = 0 ∧ t.loader.scs = false ∧ t.loader.sck = false ∧
    t.loader.sdo = [] ∧ t.loader.sdi = [] ∧ (∀ st, t.pic.roster.get st = ⟨.notExpected, none, none, none, false, false⟩) ∧
    (∀ st p, t.pointEntry st p = ⟨false, .unknown⟩) ∧ (∀ st c, t.condEntry st c = ⟨.normal, false, 0, .unknown⟩) ∧
    (∀ n, t.input.lines.get n = ⟨false, none, none⟩) ∧ (∀ k, t.input.pairs.get k = ⟨.complement, none⟩) ∧
    (∀ i, t.input.control i = ⟨false, none, none⟩) ∧
    (∀ c, t.cond.run.get c = ⟨.isFalse, false, none, none⟩) ∧ t.cond.notices = [] ∧
    (∀ c, t.ann.seqTruth.get c = false) ∧ t.ann.edges = [] ∧ t.ann.clears = [] ∧
    (∀ i, t.ann.requests.get i = none) ∧ t.ann.attention = [] ∧
    t.frame.queue = [] ∧ t.frame.nextSeq = 0 ∧ t.frame.first = true ∧ t.frame.refresh = none ∧ t.frame.discarded = 0 ∧
    t.line.state = .quiet ∧ t.line.w = none ∧ t.line.blind = false ∧ t.line.slot = none ∧ t.line.collisions = 0 ∧
    t.line.rx = .none ∧ t.line.sending = none ∧ t.line.jam = [] ∧ (∀ k, t.line.drives k = .recessive) ∧
    t.line.nextSlot = 0 ∧ (∀ o, t.out.levels.get o = false) ∧ t.out.horn = false ∧ t.out.phase = 0 ∧ t.out.testLevel = false ∧
    t.out.lampTest = false ∧ t.out.latch = false ∧
    t.journal.records = [] ∧ t.journal.lost = 0 ∧ t.journal.overflowPending = false ∧ t.journal.window = none ∧
    t.journal.attn = false ∧
    t.port.pointer = 0 ∧ t.port.command = 0 ∧ t.port.arg0 = 0 ∧ t.port.arg1 = 0 ∧ t.port.result = .ok ∧
    t.port.reading = false ∧ t.port.unsent = [] ∧ t.port.sent = [] ∧ t.port.acks = [] ∧ t.port.capture = [] ∧
    t.txd = .idle ∧ t.report.jobs = [] ∧ t.report.line = none ∧ (∀ a, Memory.read t.loader.buffer a = 0)

/-- The part leaves reset with its count at 0 and the straps sampled, and with source MEMORY it selects the memory and
begins to send the read command 03h and the address 0000h on SDO, high byte and most significant bit first, with SCK low
until its first edge (R138, R140, R141). Some of it is the model's choice: the levels at the pins and the waiting
commands stay (log entry 4); discarded settings, the Configuration Loader's check result, the capture buffer of the port
and the start of a report line have the values named for them (log entry 3); and the count of the bytes read so far and
what waits for SDO and comes from SDI are the model's own fields (log entries 9 and 13). -/
def Obligations.LeavingResetSamplesTheStraps : Prop :=
  ∀ (stn : Station) (source : ImageSource) (s : State), s.held = true → ∃ t, exec (.leaveReset stn source) s = .next t ∧
    t.held = false ∧ t.clock = 0 ∧ t.own = stn ∧ t.life.source = source ∧ t.life.life = .loading ∧ t.life.fault = .none ∧
    t.pins = s.pins ∧ t.pending = s.pending ∧ t.settings = .empty ∧ t.pic = .reset ∧ t.input = .reset ∧
    t.cond = .reset ∧ t.ann = .reset ∧ t.frame = .reset ∧ t.line = .reset ∧ t.out = .reset ∧ t.journal = .reset ∧
    t.port = .reset ∧ t.report = .reset ∧ t.loader.buffer = [] ∧
    t.loader.got = 0 ∧ t.loader.sck = false ∧ t.loader.sdi = [] ∧ t.loader.check = .none ∧
    (source = .memory → t.loader.phase = .reading ∧ t.loader.scs = true ∧
      t.loader.sdo = List.replicate 6 false ++ [true, true] ++ List.replicate 16 false) ∧
    (source = .supervisor → t.loader.phase = .idle ∧ t.loader.scs = false ∧ t.loader.sdo = [])

/-! ### The configuration image -/

/-- The memory read, edge by edge and byte by byte. SDI is sampled at each rising edge of SCK, and SDO changes after each
falling edge; while the read command is on SDO no byte is received. Eight samples make a byte, most significant bit
first, which is placed at the next offset, from 0 on. Bytes that arrive short of the end of the read stand in the
buffer, where the supervisor reads them, and every later byte still reads 00h. With the last byte the memory is
deselected, SCK rests low and the check starts; the end is as many bytes as the length field declares where it lies
within 64–640, and the end of the length field otherwise; a memory that ends, or is absent, returns all ones (R141,
R179). How the read is cut into parts, and that a byte stands in the buffer and the read ends at the falling edge, is
the model's choice (log entry 13). -/
def Obligations.MemoryReadFillsTheBuffer : Prop :=
  (∀ (level : Bool) (s : State), s.held = false → s.loader.phase = .reading → s.life.life = .loading →
    (s.loader.sck = false → exec (.memoryReadEnd (.next [level])) s = .next (s.onLoader (fun l =>
      { l with sck := true, sdi := if l.sdo = [] then l.sdi ++ [level] else l.sdi }))) ∧
    (s.loader.sck = true → s.loader.sdi.length ≠ 8 → exec (.memoryReadEnd (.next [level])) s = .next (s.onLoader (fun l =>
      { l with sck := false, sdo := l.sdo.tail }))) ∧
    (s.loader.sck = true → s.loader.sdi.length = 8 → s.BufferLaw →
      ∃ t, exec (.memoryReadEnd (.next [level])) s = .next t ∧ s.changesOnly [.loader] t ∧
        let declared := t.loader.buffer.word 3
        let ended : Bool := decide (5 ≤ t.loader.got ∧ ¬ (64 ≤ declared ∧ declared ≤ 640 ∧ t.loader.got < declared))
        t.loader = { s.loader with
          buffer := t.loader.buffer
          phase := if ended then .checking else .reading
          got := s.loader.got + 1
          scs := if ended then false else s.loader.scs
          sck := false
          sdo := s.loader.sdo.tail
          sdi := [] } ∧
        (∀ k, k < 8 → s.loader.sdi[k]? = some ((Memory.read t.loader.buffer s.loader.got).getLsbD (7 - k))) ∧
        ∀ a, a ≠ s.loader.got → Memory.read t.loader.buffer a = Memory.read s.loader.buffer a)) ∧
  (∀ (a b : List Bool) (s : State), ∃ t, exec (.memoryReadEnd (.next a)) s = .next t ∧
    exec (.memoryReadEnd (.next (a ++ b))) s = exec (.memoryReadEnd (.next b)) t ∧
    exec (.memoryReadEnd (.rest (a ++ b))) s = exec (.memoryReadEnd (.rest b)) t) ∧
  ∀ (bytes : List Byte) (sdi : List Bool) (s : State), s.held = false → s.loader.phase = .reading →
    s.life.life = .loading → s.BufferLaw → s.LoaderLaw → s.loader.sck = false → s.loader.sdi = [] →
    let command := 2 * s.loader.sdo.length
    sdi.length = command + 16 * bytes.length →
    (∀ k j, k < bytes.length → j < 8 → sdi[command + 16 * k + 2 * j]? = some ((bytes.getD k 0).getLsbD (7 - j))) →
    let image := fun a => if a < s.loader.got then Memory.read s.loader.buffer a
      else bytes.getD (a - s.loader.got) 0xFF
    let declared := (image 3).toNat * 256 + (image 4).toNat
    let n := if 64 ≤ declared ∧ declared ≤ 640 then declared else 5
    let ends := fun c : Instr => ∃ t, exec c s = .next t ∧ s.changesOnly [.loader] t ∧
      t.loader = { s.loader with buffer := t.loader.buffer, phase := .checking, got := n, scs := false, sdo := [] } ∧
      ∀ a, Memory.read t.loader.buffer a = if a < n then image a else 0
    (n ≤ s.loader.got + bytes.length → ends (.memoryReadEnd (.next sdi))) ∧
    (s.loader.got + bytes.length < n → ∃ t, exec (.memoryReadEnd (.next sdi)) s = .next t ∧
      s.changesOnly [.loader] t ∧
      t.loader = { s.loader with buffer := t.loader.buffer, got := s.loader.got + bytes.length, sdo := [] } ∧
      ∀ a, Memory.read t.loader.buffer a = (if a < s.loader.got + bytes.length then image a else 0) ∧
        (a < 640 → t.register (0x1000 + a) = Memory.read t.loader.buffer a)) ∧
    ends (.memoryReadEnd (.rest sdi))

/-- The seven image checks in their order, the first that fails deciding: magic word, length, CRC-16, station number;
every field in range, where the image spells settings, and spells no others; no enabled condition with an ALARM term on
itself; every template spelt of literal characters and references, at most 8 of them. An image that passes gives the
settings it spells (R23, R44, R92, R143, R156, R185, R195, R196). -/
def Obligations.ImageChecksRunInOrder : Prop :=
  (∀ (m : Memory) (stn : Station),
    let length := m.word 3
    (m.word 0 ≠ 0x3216 → checkImage m stn = .error .badMagic) ∧
    (m.word 0 = 0x3216 →
      (¬ (64 ≤ length ∧ length ≤ 640) → checkImage m stn = .error .badLength) ∧
      (64 ≤ length → length ≤ 640 →
        (m.slice (length - 2) 2 ≠ crcBytes (m.slice 0 (length - 2)) → checkImage m stn = .error .badCrc) ∧
        (m.slice (length - 2) 2 = crcBytes (m.slice 0 (length - 2)) →
          ((Memory.read m 5).toNat ≠ stn.val → checkImage m stn = .error .stationMismatch) ∧
          ((Memory.read m 5).toNat = stn.val →
            ((∀ set : Settings, ¬ set.spelledBy m length stn) → checkImage m stn = .error .badField) ∧
            ∀ set : Settings, set.spelledBy m length stn →
              let onItself := ∃ c d, (set.conds.get c).enabled = true ∧ .alarm stn c d ∈ (set.conds.get c).terms
              let parse := ∀ k, ∃ pieces, spells pieces (set.templates.get k) ∧
                (pieces.filter Piece.isReference).length ≤ 8
              (onItself → checkImage m stn = .error .selfReference) ∧
              (¬ onItself → ¬ parse → checkImage m stn = .error .badTemplate) ∧
              (¬ onItself → parse → checkImage m stn = .ok set)))))) ∧
  (∀ (m : Memory) (a n : Nat), (m.slice a n).length = n ∧
    ∀ k, k < n → (m.slice a n)[k]? = some (Memory.read m (a + k))) ∧
  (∀ (a : Memory) (k : Nat), a.word k = (Memory.read a k).toNat * 256 + (Memory.read a (k + 1)).toNat) ∧
  ∀ p : Piece, p.isReference = true ↔ ∀ b, p ≠ .literal b

/-- An accepted image takes the station from LOADING to LISTENING: its settings are held, the roster and the own row
take their start values from the levels at that moment with their notices, the attention set is formed, STARTED is the
first record, each enabled condition is evaluated once and moves by Table 3-7 from FALSE, one that becomes true enters
ALERT_UNACK, an urgent STATE is then asked for, the listen timer starts with 2P, and the line is waited for with W
UNKNOWN (R7, R32, R47, R48, R64, R77, R119, R144, R146). Each entry into ALERT_UNACK has its COND_CHANGE record after
STARTED, C0 to C7, its report job, of which the first starts at once and the eighth, with 6 queued, is dropped with
REPORT_DROPPED, and a clear of the silence latch where the condition is in the horn set (R68 to R70, R95, R186, R187).
The order within the event, and so the order of the notices and the edges' place after the eight evaluations, is the
model's choice (log entry 7); the odd line of a pair keeps its accepted level (log entry 17); the loader's own check
result reads NONE (log entry 3), and the first line is composed where its job arrives (log entry 6). -/
def Obligations.AcceptedImageEntersListening : Prop :=
  ∀ (set : Settings) (s : State), s.IdleLaw → s.held = false → s.life.life = .loading → s.loader.phase = .checking →
    s.journal.records = [] → checkImage s.loader.buffer s.own = .ok set →
    let start := fun (st : Station) (c : CondIx) => (if st = s.own
      then ⟨if (set.conds.get c).enabled then .normal else .unused, false, 0, .good⟩
      else ⟨.normal, false, 0, .unknown⟩ : CondEntry)
    ∃ t, exec .imageCheckEnd s = .next t ∧ t.life.life = .listening ∧ t.life.fault = .none ∧ t.settings = set ∧
      let trues := (indices 8).filter (fun c => (t.cond.run.get c).eval == .isTrue)
      let jobs := trues.filterMap (fun c => t.jobOf c .alertUnack 1)
      t.life.sfault = false ∧ t.life.listen = some (s.after (2 * t.period)) ∧ t.own = s.own ∧
      (∀ st, t.pic.roster.get st = ⟨if st = s.own then .self
        else if set.expected.getLsbD st.val then .unheard else .notExpected, none, none, none, false, false⟩) ∧
      (∀ p, t.pointEntry s.own p = ⟨(set.lines.get (set.valueLine p)).mode.value (s.pins.lines.get (set.valueLine p)),
        .good⟩) ∧
      t.cond.notices = ((indices 32).filter (fun st => (t.pic.roster.get st).presence != .notExpected)).map
          (fun st => .presence st .notExpected (t.pic.roster.get st).presence) ++
        (indices 8).map (fun c => .cond s.own c ⟨.normal, false, 0, .unknown⟩ (start s.own c)) ++
        (indices 16).map (fun p => .point s.own p ⟨false, .unknown⟩ (t.pointEntry s.own p)) ++
        trues.map (fun c => .cond s.own c (start s.own c) { start s.own c with truth := true }) ++
        trues.map (fun c => .cond s.own c { start s.own c with truth := true } (t.ownCond c)) ∧
      (∀ st, st ≠ s.own → (∀ p, t.pointEntry st p = ⟨false, .unknown⟩) ∧
        (∀ c, t.condEntry st c = ⟨.normal, false, 0, .unknown⟩)) ∧
      (∀ n, t.input.lines.get n = ⟨set.debounces n && s.pins.lines.get n, none, none⟩) ∧
      (∀ i, t.input.control i = ⟨s.pins.control i, none, none⟩) ∧ t.out.testLevel = s.pins.test ∧
      (∀ k, set.isPair k = true → (t.input.pairs.get k).accepted = .complement ∧
        (t.input.pairs.get k).timer = if s.relationNow k = .agree
          then some (s.after (set.debounceTime (evenLine k))) else none) ∧
      (∀ c, (set.conds.get c).enabled = false →
        t.ownCond c = start s.own c ∧ t.cond.run.get c = ⟨.isFalse, false, none, none⟩) ∧
      (∀ c, (set.conds.get c).enabled = true → ∀ p : State, p.pic.roster = t.pic.roster → p.pic.points = t.pic.points →
        (∀ x k, p.condEntry x k = start x k) →
        let raw := p.rawResult (set.conds.get c)
        (raw = false → t.cond.run.get c = ⟨.isFalse, false, none, none⟩) ∧
        (raw = true → (set.conds.get c).hold = 0 → t.cond.run.get c = ⟨.isTrue, true, none, none⟩) ∧
        (raw = true → (set.conds.get c).hold ≠ 0 →
          t.cond.run.get c = ⟨.qualifying, true, some (s.after (100 * (set.conds.get c).hold)), none⟩)) ∧
      (∀ c, (t.ann.seqTruth.get c = true ↔ (t.cond.run.get c).eval = .isTrue) ∧
        ((t.cond.run.get c).eval = .isTrue → t.ownCond c = ⟨.alertUnack, true, 1, .good⟩) ∧
        ((t.cond.run.get c).eval ≠ .isTrue → t.ownCond c = start s.own c)) ∧ t.ann.edges = [] ∧
      t.ann.attention.Nodup ∧ (∀ r, r ∈ t.ann.attention ↔ r ∈ set.horn ∨ ∃ o, set.outs.get o = .lamp r) ∧
      t.frame = { s.frame with queue := t.frame.queue } ∧
      ((∀ c, (t.cond.run.get c).eval ≠ .isTrue) → t.frame.queue = []) ∧
      ((∃ c, (t.cond.run.get c).eval = .isTrue) → t.frame.queue = [⟨.state true false, false⟩]) ∧
      s.hands t (.started s.own set.version :: trues.flatMap (fun c => .condChange s.own c .alertUnack 1 ::
        ((jobs.drop 7).filter (fun j => j.cond == c)).map (fun j => .reportDropped s.own c j.trigger))) ∧
      (∃ l, t.journal.records = ⟨.started s.own set.version, s.clock⟩ :: l) ∧
      (jobs = [] → t.report = s.report) ∧
      (∀ j rest, jobs = j :: rest → t.report.jobs = rest.take 6 ∧ t.report.since = s.clock ∧
        ∀ m : State, m.settings = set → m.clock = s.clock → m.own = s.own → m.pic.points = t.pic.points →
          (∀ x k, m.condEntry x k = if x = s.own ∧ j.cond < k
            then { start s.own k with truth := (t.ownCond k).truth } else t.condEntry x k) →
          t.report.line = some (m.composeLine j)) ∧
      t.ann.clears = (trues.filter (fun c => set.horn.contains ⟨s.own, c⟩)).map (fun c => ⟨s.own, c⟩) ∧
      t.ann.requests = s.ann.requests ∧
      t.line = { s.line with state := .receiving, rx := .startupWait, w := none, slot := none } ∧
      t.port = { s.port with result := if s.life.source = .supervisor then .ok else s.port.result } ∧
      t.loader = { s.loader with phase := .idle, check := .none } ∧
      s.changesOnly [.settings, .life, .loader, .pic, .input, .cond, .ann, .frame, .line, .out, .journal, .port,
        .report] t

/-- An image that fails a check: from the memory it takes the station into CONFIG_FAULT with a CONFIG_FAULT record and
SFAULT asserted; from the supervisor RESULT and the fault code tell the code and the station stays in LOADING with its
buffer, and no record is made (R142, R145). The loader's own check result takes the code too (Table 0-1). -/
def Obligations.FailedImageStopsOrWaits : Prop :=
  ∀ (code : FaultCode) (s : State), s.held = false → s.life.life = .loading → s.loader.phase = .checking →
    checkImage s.loader.buffer s.own = .error code →
    ∃ t, exec .imageCheckEnd s = .next t ∧ t.life.fault = code ∧
      t.loader = { s.loader with phase := .idle, check := code } ∧
      (s.life.source = .memory → t.life.life = .configFault ∧ t.life.sfault = true ∧
        s.hands t [.configFault s.own code] ∧ s.changesOnly [.life, .loader, .journal] t) ∧
      (s.life.source = .supervisor → t.life.life = .loading ∧ t.port = { s.port with result := .fault code } ∧
        s.changesOnly [.life, .loader, .port] t)

/-- COMMIT: with source SUPERVISOR in LOADING it starts the image check and RESULT reads BUSY; in LOADING with source
MEMORY, and in the running life states, it is answered REFUSED and starts nothing (R142, R181, R183). -/
def Obligations.CommitStartsTheCheck : Prop :=
  ∀ s : State, s.held = false →
    ∃ t, exec .commit s = .next t ∧ t.port.command = 0x08 ∧ t.port.arg0 = s.port.arg0 ∧ t.port.arg1 = s.port.arg1 ∧
      (s.life.life = .loading → s.life.source = .supervisor →
        t.port.result = .busy ∧ t.loader = { s.loader with phase := .checking } ∧ s.changesOnly [.loader, .port] t) ∧
      ((s.life.life = .loading ∧ s.life.source = .memory) ∨ s.life.life ≠ .loading →
        t.port.result = .refused ∧ s.changesOnly [.port] t)

/-! ### Input lines and control inputs -/

/-- A change of level at a debounced line: a departure from the accepted level starts a candidate and a timer of the
line's full debounce time, a return drops both, and the point is not written (R24). A line that is not debounced, and
any line while sampling does not run, moves only its pin (R30, R31). In a pair, a change of either line compares the
present relation of the two levels with the accepted one: equal, the pair timer stands stopped; different, it starts
with the even line's debounce time, or runs on if it runs (R28). The debounce time is 5, 10, 20, 50 or 100 ms by code, a
pair's is its even line's, and sampling runs in LISTENING, ACTIVE, WITHDRAWN and DUPLICATE (R23, R27, R31). That the
level at the pin moves also while the RESET pin is held is the model's choice (log entry 4). -/
def Obligations.LevelChangeIsSensed : Prop :=
  (∀ (n : PointIx) (active : Bool) (s : State), s.pins.lines.get n ≠ active →
    ∃ t, exec (.inputLevelChange n active) s = .next t ∧ s.changesOnly [.pins, .input] t ∧
      t.pins = { s.pins with lines := s.pins.lines.set n active } ∧
      t.input = { s.input with lines := t.input.lines, pairs := t.input.pairs } ∧
      (∀ m, m ≠ n → t.input.lines.get m = s.input.lines.get m) ∧
      (∀ k, k ≠ pairOf n ∨ s.settings.isPair k = false → t.input.pairs.get k = s.input.pairs.get k) ∧
      (s.held = true ∨ s.life.life.running = false → t.input = s.input) ∧
      (s.settings.debounces n = false → t.input.lines = s.input.lines) ∧
      (s.held = false → s.life.life.running = true → s.settings.debounces n = true →
        ((s.input.lines.get n).candidate = none → active ≠ (s.input.lines.get n).accepted →
          t.input.lines.get n = ⟨(s.input.lines.get n).accepted, some active,
            some (s.after (debounceMs (s.settings.lines.get n).debounce))⟩) ∧
        ((s.input.lines.get n).candidate ≠ none → active = (s.input.lines.get n).accepted →
          t.input.lines.get n = ⟨(s.input.lines.get n).accepted, none, none⟩)) ∧
      (s.held = false → s.life.life.running = true → s.settings.isPair (pairOf n) = true →
        let p := s.input.pairs.get (pairOf n)
        let agree := t.pins.lines.get (evenLine (pairOf n)) = t.pins.lines.get (oddLine (pairOf n))
        (t.input.pairs.get (pairOf n)).accepted = p.accepted ∧
        ((agree ↔ p.accepted = .agree) → (t.input.pairs.get (pairOf n)).timer = none) ∧
        (¬ (agree ↔ p.accepted = .agree) → (t.input.pairs.get (pairOf n)).timer =
          if p.timer.isSome then p.timer
          else some (s.after (debounceMs (s.settings.lines.get (evenLine (pairOf n))).debounce))))) ∧
  [0, 1, 2, 3, 4].map debounceMs = [5, 10, 20, 50, 100] ∧
  (∀ l : Life, l.running = true ↔ l = .listening ∨ l = .active ∨ l = .withdrawn ∨ l = .duplicate) ∧
  ∀ (set : Settings) (n : PointIx) (k : PairIx),
    (evenLine k).val = 2 * k.val ∧ (oddLine k).val = 2 * k.val + 1 ∧ (pairOf n).val = n.val / 2 ∧
    (set.isPair k = true ↔ (set.lines.get (evenLine k)).mode = .pair) ∧
    (set.debounces n = false ↔ (set.lines.get n).mode = .unused ∨ n = oddLine (pairOf n) ∧ set.isPair (pairOf n) = true)

/-- A debounce timer's expiry: the candidate becomes the accepted level, the value of the line's point, or of both
points of its pair, is written with its quality kept, POINT_CHANGE is recorded for each written point, each changed
point yields its notice with its fields before and after, and an urgent STATE is asked for (R18, R24, R26). A mode's
value is the accepted level in NORMAL and PAIR, its inverse in INVERTED, and 0 in UNUSED; both points of a pair take the
even line's (R22). The count it leaves is the model's choice (log entry 5). -/
def Obligations.DebounceExpiryWritesTheValue : Prop :=
  (∀ (n : PointIx) (level : Bool) (due : Ms) (s : State), s.held = false →
    (s.input.lines.get n).candidate = some level → (s.input.lines.get n).timer = some due →
    let points := if s.settings.isPair (pairOf n) then [evenLine (pairOf n), oddLine (pairOf n)] else [n]
    let value := (s.settings.lines.get n).mode.value level
    ∃ u, exec (.debounceExpiry n) s = .next u.settle ∧ u.clock = (s.reachTime due).clock ∧
      u.input = { s.input with lines := s.input.lines.set n ⟨level, none, none⟩ } ∧
      (∀ st p, u.pointEntry st p =
        if st = s.own ∧ p ∈ points then ⟨value, (s.pointEntry st p).quality⟩ else s.pointEntry st p) ∧
      u.pic.roster = s.pic.roster ∧ u.pic.conds = s.pic.conds ∧ u.cond.run = s.cond.run ∧
      u.cond.notices = s.cond.notices ++
        ((points.filter (fun p => (s.pointEntry s.own p).value != value)).map
          (fun p => .point s.own p (s.pointEntry s.own p) (u.pointEntry s.own p))) ∧
      s.hands u (points.map (fun p =>
        .pointChange s.own p value ((s.pointEntry s.own p).quality == .fault))) ∧
      u.frame = { s.frame with queue := if s.life.life.queues then urgentRequest s.frame.queue else s.frame.queue } ∧
      s.changesOnly [.clock, .out, .input, .pic, .cond, .frame, .journal] u ∧
      u.out = (s.reachTime due).out) ∧
  (∀ active : Bool, LineMode.normal.value active = active ∧ LineMode.inverted.value active = !active ∧
    LineMode.pair.value active = active ∧ LineMode.unused.value active = false) ∧
  ∀ (set : Settings) (n : PointIx),
    set.valueLine n = if set.isPair (pairOf n) = true then evenLine (pairOf n) else n

/-- A pair timer's expiry: the accepted relation changes to the other one, the quality it gives, FAULT for AGREE and
GOOD for COMPLEMENT, is written to both points with their values kept, with the records, notices and urgent STATE
request of an accepted change (R28, R29). The count it leaves is the model's choice (log entry 5). -/
def Obligations.PairExpiryWritesTheQuality : Prop :=
  ∀ (k : PairIx) (due : Ms) (s : State), s.held = false → (s.input.pairs.get k).timer = some due →
    let quality : Quality := if (s.input.pairs.get k).accepted = .complement then .fault else .good
    ∃ u, exec (.pairTimerExpiry k) s = .next u.settle ∧ u.clock = (s.reachTime due).clock ∧
      (u.input.pairs.get k).accepted =
        (if (s.input.pairs.get k).accepted = .complement then .agree else .complement) ∧
      u.input = { s.input with pairs := s.input.pairs.set k ⟨(u.input.pairs.get k).accepted, none⟩ } ∧
      (∀ st p, u.pointEntry st p =
        if st = s.own ∧ (p = evenLine k ∨ p = oddLine k) then ⟨(s.pointEntry st p).value, quality⟩
        else s.pointEntry st p) ∧
      u.pic.roster = s.pic.roster ∧ u.pic.conds = s.pic.conds ∧ u.cond.run = s.cond.run ∧
      u.cond.notices = s.cond.notices ++ (([evenLine k, oddLine k].filter
        (fun p => (s.pointEntry s.own p).quality != quality)).map
          (fun p => .point s.own p (s.pointEntry s.own p) (u.pointEntry s.own p))) ∧
      s.hands u ([evenLine k, oddLine k].map (fun p =>
        .pointChange s.own p (s.pointEntry s.own p).value (quality == .fault))) ∧
      u.frame = { s.frame with queue := if s.life.life.queues then urgentRequest s.frame.queue else s.frame.queue } ∧
      s.changesOnly [.clock, .out, .input, .pic, .cond, .frame, .journal] u ∧
      u.out = (s.reachTime due).out

/-- A change of level at ACK, SILENCE or TEST starts a candidate and a timer of 20 ms, or drops them, while sampling
runs, and otherwise moves only its pin (R31, R33). That the level at the pin moves also while the RESET pin is held is
the model's choice (log entry 4). -/
def Obligations.ControlChangeStartsOrDropsACandidate : Prop :=
  ∀ (i : Control) (active : Bool) (s : State), s.pins.control i ≠ active →
    ∃ t, exec (.controlInputChange i active) s = .next t ∧ s.changesOnly [.pins, .input] t ∧
      t.pins.lines = s.pins.lines ∧ (∀ j, t.pins.control j = if j = i then active else s.pins.control j) ∧
      t.input.lines = s.input.lines ∧ t.input.pairs = s.input.pairs ∧
      (∀ j, j ≠ i → t.input.control j = s.input.control j) ∧
      (s.held = false → s.life.life.running = true →
        ((s.input.control i).candidate = none → active ≠ (s.input.control i).accepted →
          t.input.control i = ⟨(s.input.control i).accepted, some active, some (s.after 20)⟩) ∧
        ((s.input.control i).candidate ≠ none → active = (s.input.control i).accepted →
          t.input.control i = ⟨(s.input.control i).accepted, none, none⟩)) ∧
      (s.held = true ∨ s.life.life.running = false → t.input = s.input)

/-- A control input's debounce expiry: the candidate becomes the accepted level. A press of SILENCE sets the latch and
in ACTIVE asks for a SILENCE frame; a release of ACK or SILENCE is handed to no block; TEST's level is handed to the
Output Unit (R33 to R35, R93). A press of ACK is `PressAnswersTheAttentionSet`. The count it leaves is the model's
choice (log entry 5). -/
def Obligations.ControlExpiryHandsOnPressOrLevel : Prop :=
  ∀ (i : Control) (level : Bool) (due : Ms) (s : State), s.held = false →
    (s.input.control i).candidate = some level → (s.input.control i).timer = some due → ¬ (i = .ack ∧ level = true) →
    ∃ u, exec (.controlDebounceExpiry i) s = .next u.settle ∧ u.clock = (s.reachTime due).clock ∧
      u.input.control i = ⟨level, none, none⟩ ∧ (∀ j, j ≠ i → u.input.control j = s.input.control j) ∧
      u.input.lines = s.input.lines ∧ u.input.pairs = s.input.pairs ∧
      u.out = { (s.reachTime due).out with
        testLevel := if i = .test then level else s.out.testLevel
        latch := if i = .silence ∧ level = true then true else s.out.latch } ∧
      u.frame = { s.frame with
        queue := if i = .silence ∧ level = true ∧ s.life.life = .active
          then silenceRequest s.settings.reach s.frame.queue else s.frame.queue } ∧
      s.changesOnly [.clock, .out, .input, .frame] u

/-! ### Conditions -/

/-- EVALUATION takes the oldest notice and evaluates once each enabled condition with a term that reads its item. One
whose raw result differs from the stored one moves by Table 3-7; every other condition is left as it is. Each change of
truth is written to the own row with its notice, handed on as an edge in the order C0 to C7, and asks for an urgent
STATE (R18, R45, R48, R51, R52, R104). A raw result combines the values of its terms by Table 3-6, and each term has the
value Tables 3-4 and 3-5 give from the entry it names (R39 to R43). That the oldest notice is taken is the model's
reading (log entry 8). -/
def Obligations.EvaluationMovesEachReaderOnce : Prop :=
  (∀ (n : Notice) (rest : List Notice) (s : State), s.held = false → s.ConditionLaw → s.cond.notices = n :: rest →
    let item : Item := match n with
      | .presence st _ _ => .presence st
      | .point st p _ _ => .point st p
      | .cond st c _ _ => .cond st c
    let moves := fun c : CondIx => (s.settings.conds.get c).enabled = true ∧
      ((s.settings.conds.get c).terms.any (fun m => m.reads item)) = true ∧
      s.rawResult (s.settings.conds.get c) ≠ (s.cond.run.get c).raw
    ∃ u, exec .evaluation s = .next u.settle ∧
      (∀ c, ¬ moves c → u.cond.run.get c = s.cond.run.get c) ∧
      (∀ c, moves c →
        ((s.cond.run.get c).eval = .isFalse → u.cond.run.get c =
          if (s.settings.conds.get c).hold = 0 then ⟨.isTrue, true, none, none⟩
          else ⟨.qualifying, true, some (s.after (100 * (s.settings.conds.get c).hold)), none⟩) ∧
        ((s.cond.run.get c).eval = .qualifying → u.cond.run.get c = ⟨.isFalse, false, none, none⟩) ∧
        ((s.cond.run.get c).eval = .isTrue → u.cond.run.get c =
          if (s.settings.conds.get c).release = 0 then ⟨.isFalse, false, none, none⟩
          else ⟨.releasing, false, none, some (s.after (100 * (s.settings.conds.get c).release))⟩) ∧
        ((s.cond.run.get c).eval = .releasing → u.cond.run.get c = ⟨.isTrue, true, none, none⟩)) ∧
      (∀ c, u.ownCond c = { s.ownCond c with truth := (u.cond.run.get c).eval.truth }) ∧
      u.ann = { s.ann with edges := s.ann.edges ++ (indices 8).filterMap (fun c =>
        if (u.ownCond c).truth = (s.ownCond c).truth then none else some ⟨c, (u.ownCond c).truth⟩) } ∧
      u.cond.notices = rest ++ (indices 8).filterMap (fun c =>
        if (u.ownCond c).truth = (s.ownCond c).truth then none
          else some (.cond s.own c (s.ownCond c) (u.ownCond c))) ∧
      ((∀ c, (u.ownCond c).truth = (s.ownCond c).truth) → u.frame = s.frame) ∧
      ((∃ c, (u.ownCond c).truth ≠ (s.ownCond c).truth) → u.frame = { s.frame with
        queue := if s.life.life.queues then urgentRequest s.frame.queue else s.frame.queue }) ∧
      u.pic.roster = s.pic.roster ∧ u.pic.points = s.pic.points ∧
      (∀ st c, st ≠ s.own → u.condEntry st c = s.condEntry st c) ∧
      s.changesOnly [.pic, .cond, .ann, .frame] u) ∧
  (∀ (cs : CondSetting) (s : State), s.rawResult cs = true ↔ match cs.combine with
    | .all => ∀ m ∈ cs.terms, s.termValue m = true
    | .any => ∃ m ∈ cs.terms, s.termValue m = true
    | .atLeast => cs.k ≤ (cs.terms.filter s.termValue).length) ∧
  ∀ (s : State) (st : Station) (p : PointIx) (c : CondIx) (expect doubt : Bool),
    let point := s.pointEntry st p
    let cond := s.condEntry st c
    s.termValue (.point st p expect doubt) = (if point.quality = .good then decide (point.value = expect) else doubt) ∧
    (s.termValue (.fault st p) = true ↔ point.quality = .fault) ∧
    (s.termValue (.alarm st c doubt) = if cond.quality ≠ .good ∨ cond.state = .unused then doubt
      else decide (cond.state ≠ .normal)) ∧
    (s.termValue (.present st) = true ↔
      (s.pic.roster.get st).presence = .present ∨ (s.pic.roster.get st).presence = .self) ∧
    ∀ i, (Term.reads (.point st p expect doubt) i = true ↔ i = .point st p) ∧
      (Term.reads (.fault st p) i = true ↔ i = .point st p) ∧
      (Term.reads (.alarm st c doubt) i = true ↔ i = .cond st c) ∧
      (Term.reads (.present st) i = true ↔ i = .presence st)

/-- A hold timer's expiry in QUALIFYING makes the condition TRUE with a rising edge, and a release timer's expiry in
RELEASING makes it FALSE with a falling edge: the truth is written with its notice, the edge is handed to the
Annunciation Unit, and an urgent STATE is asked for (R48, R52). The count it leaves is the model's choice (log entry 5).
-/
def Obligations.HoldAndReleaseExpiryMoveTruth : Prop :=
  ∀ (c : CondIx) (due : Ms) (rising : Bool) (s : State), s.held = false → s.ConditionLaw →
    (rising = true → (s.cond.run.get c).eval = .qualifying ∧ (s.cond.run.get c).hold = some due) →
    (rising = false → (s.cond.run.get c).eval = .releasing ∧ (s.cond.run.get c).release = some due) →
    ∃ u, exec (if rising then .holdExpiry c else .releaseExpiry c) s = .next u.settle ∧
      u.clock = (s.reachTime due).clock ∧
      u.cond.run = s.cond.run.set c ⟨if rising then .isTrue else .isFalse, rising, none, none⟩ ∧
      (∀ st k, u.condEntry st k = if st = s.own ∧ k = c then { s.condEntry st k with truth := rising }
        else s.condEntry st k) ∧
      u.pic.roster = s.pic.roster ∧ u.pic.points = s.pic.points ∧
      u.cond.notices = s.cond.notices ++ [.cond s.own c (s.ownCond c) (u.ownCond c)] ∧
      u.ann.edges = s.ann.edges ++ [⟨c, rising⟩] ∧ u.ann.seqTruth = s.ann.seqTruth ∧
      u.ann.requests = s.ann.requests ∧ u.ann.attention = s.ann.attention ∧
      u.frame = { s.frame with queue := if s.life.life.queues then urgentRequest s.frame.queue else s.frame.queue } ∧
      s.changesOnly [.clock, .out, .pic, .cond, .ann, .frame] u ∧ u.out = (s.reachTime due).out

/-! ### Annunciation -/

/-- The state an edge leads to and whether it advances the generation, by class (Tables 4-2 to 4-4); none where the
state stays. An own condition of the horn set that enters ALERT_UNACK calls for a clear of the silence latch (R95).
An UNUSED condition is moved by nothing: no edge reaches it, no acknowledgement matches it, a press does not cover it,
and its generation and sequence truth stay 0 (R37, R75). -/
def Obligations.EdgesMoveByClass : Prop :=
  (∀ (c : CondIx) (e : Edge) (s : State), s.held = false → s.ann.edges.find? (fun x => x.cond == c) = some e →
    let enters := fun (new : AnnState) (g : Gen) => ∃ u, exec (.truthEdge c) s = .next u.settle ∧
      u.ann.seqTruth = s.ann.seqTruth.set c e.rising ∧ (∃ before after, s.ann.edges = before ++ e :: after ∧
        (∀ x ∈ before, x.cond ≠ c) ∧ u.ann.edges = before ++ after) ∧
      u.ann.requests = s.ann.requests ∧ u.ann.attention = s.ann.attention ∧
      (∀ st k, u.condEntry st k = if st = s.own ∧ k = c then { s.ownCond c with state := new, gen := g }
        else s.condEntry st k) ∧
      u.pic.roster = s.pic.roster ∧ u.pic.points = s.pic.points ∧ u.cond.run = s.cond.run ∧
      u.frame = { s.frame with
        queue := if new ≠ (s.ownCond c).state ∧ s.life.life.queues
          then urgentRequest s.frame.queue else s.frame.queue } ∧
      (new = (s.ownCond c).state → u.cond = s.cond ∧ u.journal = s.journal ∧ u.report = s.report) ∧
      (new ≠ (s.ownCond c).state → u.cond.notices = s.cond.notices ++ [.cond s.own c (s.ownCond c) (u.ownCond c)]) ∧
      u.ann.clears = s.ann.clears ++ (if new = .alertUnack ∧ new ≠ (s.ownCond c).state ∧
        (s.ownCond c).quality = .good ∧ ⟨s.own, c⟩ ∈ s.settings.horn then [⟨s.own, c⟩] else []) ∧
      s.changesOnly [.pic, .cond, .ann, .frame, .journal, .report] u
    let state := (s.ownCond c).state
    let gen := (s.ownCond c).gen
    ((s.settings.conds.get c).annClass = .lock →
      (state = .normal ∧ e.rising = true → enters .alertUnack (gen + 1)) ∧
      (state = .alertUnack → enters .alertUnack gen) ∧
      (state = .alertAck ∧ e.rising = false → enters .normal gen)) ∧
    ((s.settings.conds.get c).annClass = .ring →
      (state = .normal ∧ e.rising = true → enters .alertUnack (gen + 1)) ∧
      (state = .alertUnack → enters .alertUnack gen) ∧
      (state = .alertAck ∧ e.rising = false → enters .returnUnack gen) ∧
      (state = .returnUnack ∧ e.rising = true → enters .alertUnack (gen + 1))) ∧
    ((s.settings.conds.get c).annClass = .follow →
      (state = .normal ∧ e.rising = true → enters .alertUnack (gen + 1)) ∧
      (state = .alertUnack ∧ e.rising = false → enters .normal gen) ∧
      (state = .alertAck ∧ e.rising = false → enters .normal gen))) ∧
  ∀ (c : CondIx) (a : AckPair) (s : State), (s.ownCond c).state = .unused →
    s.applyAck c a = s ∧ ¬ s.pressSelects s.own c ∧
    (s.AnnunciationLaw → s.life.life.running = true → (s.ownCond c).gen = 0 ∧ s.ann.seqTruth.get c = false ∧
      (∀ e ∈ s.ann.edges, e.cond ≠ c) ∧ exec (.truthEdge c) s = .next s)

/-- A truth edge that changes the annunciation state hands the Journal one COND_CHANGE record with the new state and the
generation after the change, and the Report Unit a job where the change is an entry into ALERT_UNACK or NORMAL whose
field names a template. A job joins the queue, or starts at once in an idle unit, or with 6 jobs queued is dropped with
a REPORT_DROPPED record after the COND_CHANGE record (R68 to R70, R186, R187). An acknowledgement that changes the
state, by its class table, does all that a change does, its urgent STATE and its job included; one that does not match
changes nothing (R61, R68 to R70, R95). -/
def Obligations.StateChangeRecordsAndReports : Prop :=
  (∀ (c : CondIx) (s : State), s.held = false → s.ReportLaw → (∃ e ∈ s.ann.edges, e.cond = c) →
    ∃ u, exec (.truthEdge c) s = .next u.settle ∧ ((u.ownCond c).state ≠ (s.ownCond c).state →
      let change := RecordBody.condChange s.own c (u.ownCond c).state (u.ownCond c).gen
      (s.jobOf c (u.ownCond c).state (u.ownCond c).gen = none → s.hands u [change] ∧ u.report = s.report) ∧
      (∀ j, s.jobOf c (u.ownCond c).state (u.ownCond c).gen = some j →
        (s.report.jobs.length < 6 → s.hands u [change] ∧
          (s.report.line = none → u.report.line = some (u.composeLine j) ∧ u.report.jobs = []) ∧
          (s.report.line ≠ none → u.report = { s.report with jobs := s.report.jobs ++ [j] })) ∧
        (s.report.jobs.length = 6 → s.hands u [change, .reportDropped s.own c j.trigger] ∧
          u.report = s.report)))) ∧
  ∀ (c : CondIx) (a : AckPair) (s : State),
    (s.acknowledged c a = s.ownCond c → s.applyAck c a = s) ∧
    (s.acknowledged c a ≠ s.ownCond c → s.changesTo c (s.acknowledged c a).state (s.applyAck c a))

/-- A notice that calls for a clear of the silence latch is taken: the latch is clear, and HORN sounds if a horn-set
condition of quality GOOD stands in ALERT_UNACK (R95, R164, R165). That the oldest notice is taken is the model's
reading (log entry 8). -/
def Obligations.LatchClearLetsTheHornSound : Prop :=
  ∀ (r : CondRef) (rest : List CondRef) (s : State), s.held = false → s.life.life.running = true →
    s.ann.clears = r :: rest →
    ∃ t, exec .silenceLatchClear s = .next t ∧ t.out.latch = false ∧ t.ann = { s.ann with clears := rest } ∧
      (t.out.horn = true ↔ ∃ x ∈ s.settings.horn, s.condEntry x.station x.cond =
        ⟨.alertUnack, (s.condEntry x.station x.cond).truth, (s.condEntry x.station x.cond).gen, .good⟩) ∧
      t.out.phase = s.out.phase ∧ t.out.testLevel = s.out.testLevel ∧ t.out.lampTest = s.out.lampTest ∧
      s.changesOnly [.ann, .out] t

/-- A press answers the attention set: each own condition of it in ALERT_UNACK or RETURN_UNACK moves as its class table
gives for a matching acknowledgement, every other own condition stays, and no peer entry is written. Outside ACTIVE the
request table stays as it is. ACK_ALL does what a press of ACK does (R62, R78, R79). All that a press does, its records,
reports and requests among them, is what the acknowledgements of the selected own conditions do, C0 to C7, and then one
request per owner of selected peer conditions, in ascending order: handed to the table in ACTIVE, and outside it refused
with ACK_REFUSED (R68, R78, R79, R82; `StateChangeRecordsAndReports`, `PressFormsOneRequestPerOwner`). The count a press
leaves is the model's choice (log entry 5), and so is that ACK_ALL is one write transaction (log entry 12). -/
def Obligations.PressAnswersTheAttentionSet : Prop :=
  ∀ (due : Ms) (s : State), s.held = false → s.life.life.running = true →
    ∃ u v, ((s.input.ack.candidate = some true → s.input.ack.timer = some due →
        exec (.controlDebounceExpiry .ack) s = .next u.settle) ∧
      exec .ackAll s = .next v.settle) ∧
      v.port = { s.port with
        pointer := 0x13
        reading := false
        unsent := []
        acks := [true, true, true, true]
        command := 0x02
        result := .ok } ∧
      u.clock = (s.reachTime due).clock ∧ u.out = (s.reachTime due).out ∧
      u.input = { s.input with ack := ⟨true, none, none⟩ } ∧
      s.changesOnly [.clock, .out, .input, .pic, .cond, .ann, .frame, .journal, .report] u ∧
      s.changesOnly [.pic, .cond, .ann, .frame, .journal, .report, .port] v ∧
      ∀ w, w = u ∨ w = v →
        (∀ c, w.ownCond c =
          let e := s.ownCond c
          let truth := s.ann.seqTruth.get c
          if (⟨s.own, c⟩ : CondRef) ∈ s.ann.attention ∧ e.quality = .good then
            match (s.settings.conds.get c).annClass, e.state with
            | .lock, .alertUnack => { e with state := if truth then .alertAck else .normal }
            | .ring, .alertUnack => { e with state := if truth then .alertAck else .returnUnack }
            | .ring, .returnUnack => { e with state := .normal }
            | .follow, .alertUnack => { e with state := .alertAck }
            | _, _ => e
          else e) ∧
        (∀ st c, st ≠ s.own → w.condEntry st c = s.condEntry st c) ∧ w.pic.points = s.pic.points ∧
        w.pic.roster = s.pic.roster ∧ w.cond.run = s.cond.run ∧ w.ann.seqTruth = s.ann.seqTruth ∧
        w.ann.edges = s.ann.edges ∧ (s.life.life ≠ .active → w.ann.requests = s.ann.requests) ∧
        ∀ (requests : List (Station × BitVec 8 × Tab 8 AckPair)), (requests.map Prod.fst).Pairwise (· < ·) →
          (∀ st, st ∈ requests.map Prod.fst ↔ st ≠ s.own ∧ ∃ c, s.pressSelects st c) →
          (∀ x ∈ requests, (∀ c : CondIx, x.2.1.getLsbD c.val = true ↔ s.pressSelects x.1 c) ∧
            ∀ c, x.2.2.get c = (s.condEntry x.1 c).answer) →
          let acks := ((indices 8).filter (fun c => s.pressSelects s.own c)).map (fun c => (c, (s.ownCond c).answer))
          let before := s.onClock (fun _ => w.clock)
          let m := (before.answersAll acks).asksFor requests
          w.pic = m.pic ∧ w.cond = m.cond ∧ w.ann = m.ann ∧ w.frame = m.frame ∧ w.journal = m.journal ∧
            w.report = m.report ∧ (s.life.life ≠ .active → (before.answersAll acks).hands m
              (requests.map (fun x => .ackRefused x.1 x.2.1)))

/-- In ACTIVE, with a free entry for each owner it needs and no entry held before, a press forms one request per peer
that owns a selected condition of the attention set: an entry for that owner whose mask is its selected conditions and
whose pairs are the phase and generation of the mirror, with three retries and its ACKREQ queued; owners with none
selected get no entry (R78, R82). A request handed to the table is merged into the entry for its target, by how that
entry's ACKREQ stands; or it takes the lowest-numbered free entry; or, with none free, it is refused with ACK_REFUSED
(Table 5-3, R82, R83). -/
def Obligations.PressFormsOneRequestPerOwner : Prop :=
  (∀ s : State, s.held = false → s.life.life = .active → (∀ i, s.ann.requests.get i = none) →
    let selected := fun (st : Station) (c : CondIx) => (⟨st, c⟩ : CondRef) ∈ s.ann.attention ∧
      (s.condEntry st c).quality = .good ∧
      ((s.condEntry st c).state = .alertUnack ∨ (s.condEntry st c).state = .returnUnack)
    ∀ owners : List Station, owners.length ≤ 8 → owners.Pairwise (· < ·) →
      (∀ st, st ∈ owners ↔ st ≠ s.own ∧ ∃ c, selected st c) →
      ∃ v : State, exec .ackAll s = .next v.settle ∧ ∀ i : ReqIx,
        (owners[i.val]? = none → v.ann.requests.get i = none) ∧
        (∀ st, owners[i.val]? = some st → ∃ r : Request, v.ann.requests.get i = some r ∧ r.target = st ∧ r.retries = 3 ∧
          r.timer = none ∧ r.pending = .queued ∧ r.sendAgain = false ∧
          (∀ c : CondIx, r.mask.getLsbD c.val = true ↔ selected st c) ∧
          (∀ c, selected st c → r.pairs.get c =
            ⟨if (s.condEntry st c).state = .alertUnack then .alert else .returned, (s.condEntry st c).gen⟩) ∧
          ⟨.ackreq i, false⟩ ∈ v.frame.queue)) ∧
  (∀ (target : Station) (mask : BitVec 8) (pairs : Tab 8 AckPair) (s : State),
    let t := s.handRequest target mask pairs
    (∀ i r, s.requestFor target = some i → s.ann.requests.get i = some r → ∃ q : Request,
      t.ann = { s.ann with requests := s.ann.requests.set i (some q) } ∧ q.target = r.target ∧ q.retries = 3 ∧
      (∀ c : CondIx, q.mask.getLsbD c.val = (r.mask.getLsbD c.val || mask.getLsbD c.val)) ∧
      (∀ c : CondIx, q.pairs.get c = if mask.getLsbD c.val then pairs.get c else r.pairs.get c) ∧
      (r.pending = .none → q.pending = .queued ∧ q.timer = none ∧ q.sendAgain = r.sendAgain ∧
        t.frame = { s.frame with queue := s.frame.queue ++ [⟨.ackreq i, false⟩] }) ∧
      (r.pending = .queued → q.pending = .queued ∧ q.timer = r.timer ∧ q.sendAgain = r.sendAgain ∧
        t.frame = s.frame) ∧
      (r.pending = .onLine → q.pending = .onLine ∧ q.timer = r.timer ∧ q.sendAgain = true ∧ t.frame = s.frame) ∧
      s.changesOnly [.ann, .frame] t) ∧
    (∀ i, s.requestFor target = none → s.freePlace = some i →
      t.ann = { s.ann with requests := s.ann.requests.set i (some ⟨target, mask, pairs, 3, none, .queued, false⟩) } ∧
      t.frame = { s.frame with queue := s.frame.queue ++ [⟨.ackreq i, false⟩] } ∧ s.changesOnly [.ann, .frame] t) ∧
    (s.requestFor target = none → s.freePlace = none →
      s.hands t [.ackRefused target mask] ∧ s.changesOnly [.journal] t)) ∧
  ∀ (target : Station) (s : State),
    (∀ i, s.requestFor target = some i ↔ (∃ r, s.ann.requests.get i = some r ∧ r.target = target) ∧
      ∀ j < i, ∀ r, s.ann.requests.get j = some r → r.target ≠ target) ∧
    (∀ i, s.freePlace = some i ↔ s.ann.requests.get i = none ∧ ∀ j < i, s.ann.requests.get j ≠ none)

/-- A retry timer's expiry: with retries left above 0 they are reduced by one and the ACKREQ is queued again; with none
left the entry is freed and ACK_FAILED is recorded with its target and remaining mask (R85). The count it leaves is the
model's choice (log entry 5). -/
def Obligations.RetryExpiryResendsOrFails : Prop :=
  ∀ (i : ReqIx) (r : Request) (due : Ms) (s : State), s.held = false → s.ann.requests.get i = some r →
    r.timer = some due →
    ∃ u, exec (.retryTimerExpiry i) s = .next u.settle ∧ u.clock = (s.reachTime due).clock ∧
      (0 < r.retries → u.journal = s.journal ∧
        u.ann = { s.ann with
          requests := s.ann.requests.set i
            (some { r with retries := r.retries - 1, timer := none, pending := .queued }) } ∧
        u.frame = { s.frame with queue := s.frame.queue ++ [⟨.ackreq i, false⟩] }) ∧
      (r.retries = 0 → s.hands u [.ackFailed r.target r.mask] ∧
        u.ann = { s.ann with requests := s.ann.requests.set i none } ∧
        u.frame = { s.frame with queue := s.frame.queue.filter (fun e => !e.isAckreq i) }) ∧
      s.changesOnly [.clock, .out, .ann, .frame, .journal] u ∧ u.out = (s.reachTime due).out

/-! ### The timers of Life Control, of the refresh and of the peers -/

/-- The listen timer's expiry takes the station from LISTENING to ACTIVE: it asks for an urgent STATE, starts the
refresh timer with P and sets the blind flag (R147). The withdraw timer's expiry takes it from WITHDRAWN to LISTENING:
the listen timer starts with 2P, W becomes UNKNOWN, and SFAULT is released unless the line is stuck (R151). The refresh
timer's expiry in ACTIVE makes one routine STATE request, which finds a STATE entry and does nothing or joins the tail,
and the timer stays stopped (R104, R113). What an urgent and a routine STATE request make of the queue is Table 6-5, row
by row, in LISTENING, ACTIVE and WITHDRAWN (R103, R104). The period P is 100, 200, 500, 1000 or 2000 ms by refresh code,
for the own timers and a peer's absence timer alike (R13, R113). The counts the timers leave are the model's choice (log
entry 5). -/
def Obligations.StationTimersExpire : Prop :=
  (∀ (due : Ms) (s : State), s.held = false →
    (s.life.life = .listening → s.life.listen = some due →
      ∃ u, exec .listenTimerExpiry s = .next u.settle ∧ u.clock = (s.reachTime due).clock ∧
        u.life = { s.life with life := .active, listen := none, sfault := s.life.lineStuck } ∧
        u.frame = { s.frame with queue := urgentRequest s.frame.queue, refresh := some (u.after s.period) } ∧
        u.line = { s.line with blind := true } ∧ u.out = (s.reachTime due).out ∧
        s.changesOnly [.clock, .out, .life, .frame, .line] u) ∧
    (s.life.life = .withdrawn → s.life.withdraw = some due →
      ∃ u, exec .withdrawTimerExpiry s = .next u.driveOutputs ∧ u.clock = (s.reachTime due).clock ∧
        u.life = { s.life with
          life := .listening
          listen := some (u.after (2 * s.period))
          withdraw := none
          sfault := s.life.lineStuck } ∧
        u.line = { s.line with w := none } ∧ u.out = (s.reachTime due).out ∧
        s.changesOnly [.clock, .out, .life, .line] u) ∧
    (s.life.life = .active → s.frame.refresh = some due →
      ∃ u, exec .refreshTimerExpiry s = .next u.settle ∧ u.clock = (s.reachTime due).clock ∧
        u.frame = { s.frame with
          refresh := none
          queue := if s.frame.queue.any QEntry.isState then s.frame.queue
            else s.frame.queue ++ [⟨.state false false, false⟩] } ∧
        u.out = (s.reachTime due).out ∧ s.changesOnly [.clock, .out, .frame] u)) ∧
  [0, 1, 2, 3, 4].map periodMs = [100, 200, 500, 1000, 2000] ∧
  (∀ (s : State) (ms : Nat), s.period = periodMs s.settings.refreshCode ∧ s.after ms = s.clock + BitVec.ofNat 32 ms) ∧
  (∀ l : Life, l.queues = true ↔ l = .listening ∨ l = .active ∨ l = .withdrawn) ∧
  (∀ queue : List QEntry, (∀ e ∈ queue, e.isState = false) →
    urgentRequest queue = queue ++ [⟨.state true false, false⟩] ∧
    routineRequest queue = queue ++ [⟨.state false false, false⟩]) ∧
  ∀ (before after : List QEntry) (urgent changed onLine : Bool),
    (∀ e ∈ before, e.isState = false) → (∀ e ∈ after, e.isState = false) →
    let queue := before ++ ⟨.state urgent changed, onLine⟩ :: after
    routineRequest queue = queue ∧
    urgentRequest queue =
      if onLine then before ++ ⟨.state urgent true, true⟩ :: after
      else if urgent then queue
      else before ++ after ++ [⟨.state true false, false⟩]

/-- A PRESENT station's absence timer expires: it becomes ABSENT with its row UNKNOWN and every value kept, PEER_ABSENT
is recorded, a notice is given of its presence item and of each entry of its row that changed, and an acknowledge
request for it fails with ACK_FAILED (R16, R18, R87). The count it leaves is the model's choice (log entry 5). -/
def Obligations.AbsenceExpiryTurnsTheRowUnknown : Prop :=
  ∀ (st : Station) (due : Ms) (s : State), s.held = false → (s.pic.roster.get st).presence = .present →
    (s.pic.roster.get st).absence = some due →
    ∃ u, exec (.absenceTimerExpiry st) s = .next u.settle ∧ u.clock = (s.reachTime due).clock ∧
      u.pic.roster = s.pic.roster.set st { s.pic.roster.get st with
        presence := .absent
        absence := none
        restartSeen := false } ∧
      (∀ x p, u.pointEntry x p = if x = st then ⟨(s.pointEntry x p).value, .unknown⟩ else s.pointEntry x p) ∧
      (∀ x c, u.condEntry x c = if x = st then { s.condEntry x c with quality := .unknown } else s.condEntry x c) ∧
      u.cond.run = s.cond.run ∧ u.cond.notices = s.cond.notices ++ .presence st .present .absent ::
        (((indices 16).filter (fun p => (s.pointEntry st p).quality != .unknown)).map
            (fun p => .point st p (s.pointEntry st p) (u.pointEntry st p)) ++
          ((indices 8).filter (fun c => (s.condEntry st c).quality != .unknown)).map
            (fun c => .cond st c (s.condEntry st c) (u.condEntry st c))) ∧
      (s.requestFor st = none → s.hands u [.peerAbsent st] ∧ u.ann = s.ann ∧ u.frame = s.frame) ∧
      (∀ i r, s.requestFor st = some i → s.ann.requests.get i = some r →
        s.hands u [.peerAbsent st, .ackFailed st r.mask] ∧
        u.ann = { s.ann with requests := s.ann.requests.set i none } ∧
        u.frame = { s.frame with queue := s.frame.queue.filter (fun e => !e.isAckreq i) }) ∧
      u.out = (s.reachTime due).out ∧
      s.changesOnly [.clock, .out, .pic, .cond, .ann, .frame, .journal] u

/-! ### The peer line -/

/-- A window begins, at slot 0 with no slot's start taken, at the end of the start-up wait; at the frame end of the own
frame, which makes the own number W and clears the blind flag; at the release of a stuck line, which records
LINE_RELEASED, sets the blind flag and tells Life Control; and at the end of the own jam (R119, R124, R130, R131, R136).
A dominant level in QUIET, in WINDOW and in the tail of the own frame starts a reception (R120, R124, R130). Slot 63's
end reaches QUIET, with the blind flag clear and an UNKNOWN W become 31, where a station that holds a WAITING entry
starts (R124, R128). The slot whose start is not yet taken is the model's own field (log entry 9); that a JAM_END in
JAMMING acts whatever levels it carries is the model's reading (log entry 10). -/
def Obligations.WindowsBeginAndEnd : Prop :=
  ∀ s : State, s.held = false → s.life.life.running = true →
    (s.line.state = .receiving → s.line.rx = .startupWait → ∃ t, exec .startupWaitEnd s = .next t ∧
      t.line = { s.line with state := .window, slot := some 0, nextSlot := 0, rx := .none } ∧ s.changesOnly [.line] t) ∧
    (s.line.state = .transmitting → s.line.sending = none → ∃ t, exec .ownFrameEnd s = .next t ∧
      t.line = { s.line with
        state := .window
        slot := some 0
        nextSlot := 0
        rx := .none
        w := some s.own
        blind := false } ∧ s.changesOnly [.line] t) ∧
    (s.line.state = .stuck → ∃ t, exec .lineReleased s = .next t ∧
      t.line = { s.line with state := .window, slot := some 0, nextSlot := 0, rx := .none, blind := true } ∧
      t.life = { s.life with lineStuck := false, sfault := sfaultOf s.life.life false } ∧ s.hands t [.lineReleased] ∧
      s.changesOnly [.line, .life, .journal] t) ∧
    (s.line.state = .jamming → ∀ levels, ∃ t, exec (.jamEnd levels) s = .next t ∧
      t.line = { s.line with state := .window, slot := some 0, nextSlot := 0, rx := .none, jam := [] } ∧
      s.changesOnly [.line] t) ∧
    (s.line.state = .quiet ∨ s.line.state = .window ∨ (s.line.state = .transmitting ∧ s.line.sending = none) →
      ∃ t, exec .receptionStart s = .next t ∧
        t.line = { s.line with
          state := .receiving
          slot := none
          rx := if s.line.state = .transmitting then .ownFrame else .frame } ∧ s.changesOnly [.line] t) ∧
    (s.line.state = .window → ∃ u, exec .windowEnd s = .next u.quietStart ∧
      u.line = { s.line with state := .quiet, slot := none, blind := false, w := some (s.line.w.getD 31) } ∧
      s.changesOnly [.line] u)

/-- A frame valid on the line makes its origin W and clears the blind flag, and a window begins (R121, R124). One of no
kind, or of a length that is not its kind's, raises the discarded-frame count, which saturates at 65535, and changes
nothing else, unless it bears the own number (R98, R99). -/
def Obligations.FrameEndTakesW : Prop :=
  ∀ (levels : List Level) (bytes : List Byte) (s : State), s.hears levels bytes →
    ∃ u, exec (.frameEnd levels) s = .next u.driveOutputs ∧
      u.line = { s.line with
        state := .window
        slot := some 0
        nextSlot := 0
        rx := .none
        w := some (frameOrigin bytes)
        blind := false } ∧
      u.frame.discarded = (if decodeFrame bytes = none then min 65535 (s.frame.discarded + 1) else s.frame.discarded) ∧
      (decodeFrame bytes = none → frameOrigin bytes ≠ s.own →
        u.frame = { s.frame with discarded := u.frame.discarded } ∧ s.changesOnly [.line, .frame] u) ∧
      s.changesOnly [.life, .pic, .cond, .ann, .frame, .line, .out, .journal, .report] u

/-- A STATE of an expected peer rewrites its row and its roster entry in one event: presence PRESENT, the sequence and
refresh code of the frame, and the absence timer started for 3P of that code (R10 to R15). PEER_PRESENT, PEER_RESTART or
SEQ_GAP is recorded, then each changed point and condition within the journal's scope; a notice is given of the presence
item and of each changed entry; and the acknowledge request for the peer keeps only the conditions that still show what
it asked for, and is freed when none is left or the frame is a FIRST (R14, R18, R20, R86). -/
def Obligations.StateFromPeerRewritesItsRow : Prop :=
  ∀ (levels : List Level) (bytes : List Byte) (st : Station) (f : StateFrame) (s : State), s.hears levels bytes →
    decodeFrame bytes = some ⟨st, .state f⟩ → st ≠ s.own →
    let old := s.pic.roster.get st
    let point := fun p : PointIx => (⟨f.values.getLsbD p.val, if f.faults.getLsbD p.val then .fault else .good⟩ : PointEntry)
    let cond := fun c : CondIx => (⟨(f.conds.get c).state, (f.conds.get c).truth, (f.conds.get c).gen, .good⟩ : CondEntry)
    let first : List RecordBody :=
      if old.presence = .present then
        if f.first then (if old.restartSeen then [] else [.peerRestart st])
        else match old.lastSeq with
          | some last => if f.seq = last + 1 then [] else [.seqGap st (f.seq - last - 1)]
          | none => []
      else [.peerPresent st]
    let points : List RecordBody := ((indices 16).filter (fun p => (s.pointEntry st p).value != (point p).value ||
      ((s.pointEntry st p).quality == .fault) != ((point p).quality == .fault))).map
        (fun p => .pointChange st p (point p).value ((point p).quality == .fault))
    let conds : List RecordBody := ((indices 8).filter (fun c => (s.condEntry st c).state != (cond c).state ||
      (s.condEntry st c).gen != (cond c).gen)).map (fun c => .condChange st c (cond c).state (cond c).gen)
    (old.presence = .unheard ∨ old.presence = .present ∨ old.presence = .absent) →
    ∃ u, exec (.frameEnd levels) s = .next u.driveOutputs ∧
      u.pic.roster = s.pic.roster.set st
        { presence := .present
          lastSeq := some f.seq
          refreshCode := some f.refreshCode
          absence := some (s.after (3 * periodMs f.refreshCode))
          restartSeen := if old.presence = .present then f.first else old.restartSeen
          strangerLogged := old.strangerLogged } ∧
      (∀ x p, u.pointEntry x p = if x = st then point p else s.pointEntry x p) ∧
      (∀ x c, u.condEntry x c = if x = st then cond c else s.condEntry x c) ∧
      u.cond.run = s.cond.run ∧
      u.cond.notices = s.cond.notices ++
        (if old.presence = .present then [] else [.presence st old.presence .present]) ++
        ((indices 16).filter (fun p => s.pointEntry st p != point p)).map
          (fun p => .point st p (s.pointEntry st p) (point p)) ++
        ((indices 8).filter (fun c => s.condEntry st c != cond c)).map
          (fun c => .cond st c (s.condEntry st c) (cond c)) ∧
      s.hands u ((first ++ points ++ conds).filter s.scopePasses) ∧
      (s.requestFor st = none → u.ann.requests = s.ann.requests ∧ u.frame = s.frame) ∧
      (∀ i r, s.requestFor st = some i → s.ann.requests.get i = some r → ∃ m : BitVec 8,
        (∀ c : CondIx, m.getLsbD c.val = true ↔ f.first = false ∧ r.mask.getLsbD c.val = true ∧
          (r.pairs.get c).gen = (cond c).gen ∧
          (((r.pairs.get c).phase = .alert ∧ (cond c).state = .alertUnack) ∨
            ((r.pairs.get c).phase = .returned ∧ (cond c).state = .returnUnack))) ∧
        (m = 0 → u.ann.requests = s.ann.requests.set i none ∧
          u.frame = { s.frame with queue := s.frame.queue.filter (fun e => !e.isAckreq i) }) ∧
        (m ≠ 0 → u.ann.requests = s.ann.requests.set i (some { r with mask := m }) ∧ u.frame = s.frame)) ∧
      u.ann.clears = s.ann.clears ++ ((indices 8).filter (fun c => s.settings.horn.contains ⟨st, c⟩ &&
        (cond c).state == .alertUnack && ((s.condEntry st c).state != .alertUnack ||
          (s.condEntry st c).gen != (cond c).gen))).map (fun c => ⟨st, c⟩) ∧
      u.ann.seqTruth = s.ann.seqTruth ∧ u.ann.edges = s.ann.edges ∧ u.ann.attention = s.ann.attention ∧
      s.changesOnly [.pic, .cond, .ann, .frame, .line, .journal] u

/-- A STATE of a station that is not expected is not taken: the first one since reset makes a STRANGER record and sets
the entry's stranger-logged flag, and later ones change nothing of the picture or the journal (R9). -/
def Obligations.StrangerStateOnlySetsItsFlag : Prop :=
  ∀ (levels : List Level) (bytes : List Byte) (st : Station) (f : StateFrame) (s : State), s.hears levels bytes →
    decodeFrame bytes = some ⟨st, .state f⟩ → st ≠ s.own → (s.pic.roster.get st).presence = .notExpected →
    ∃ u, exec (.frameEnd levels) s = .next u.driveOutputs ∧ s.changesOnly [.pic, .line, .journal] u ∧
      ((s.pic.roster.get st).strangerLogged = false → s.hands u [.stranger st] ∧
        u.pic = { s.pic with
          roster := s.pic.roster.set st { s.pic.roster.get st with strangerLogged := true } }) ∧
      ((s.pic.roster.get st).strangerLogged = true → u.pic = s.pic ∧ u.journal = s.journal)

/-- A frame valid on the line that bears the own number takes the station from LISTENING or ACTIVE into DUPLICATE: the
listen and refresh timers stop, the queue empties, DUPLICATE is recorded and then ACK_FAILED for each request in
ascending order of target, and SFAULT is asserted. In WITHDRAWN and DUPLICATE it is dropped. It reaches neither the
picture nor the Annunciation Unit (R88, R101, R114, R148, R149). -/
def Obligations.DuplicateFrameHaltsTheStation : Prop :=
  ∀ (levels : List Level) (bytes : List Byte) (s : State), s.hears levels bytes → frameOrigin bytes = s.own →
    s.RequestLaw →
    ∃ u, exec (.frameEnd levels) s = .next u.driveOutputs ∧
      (s.life.life = .listening ∨ s.life.life = .active →
        u.life = { s.life with life := .duplicate, listen := none, sfault := true } ∧
        u.frame = { s.frame with queue := [], refresh := none, discarded := u.frame.discarded } ∧
        u.ann = { s.ann with requests := .fill 8 none } ∧ s.hands u (.duplicate s.own :: s.ackFailures) ∧
        s.changesOnly [.life, .frame, .line, .ann, .journal] u) ∧
      (s.life.life = .withdrawn ∨ s.life.life = .duplicate →
        u.frame = { s.frame with discarded := u.frame.discarded } ∧ s.changesOnly [.frame, .line] u)

/-- An ACKREQ from another station. In ACTIVE one that names the own station acknowledges each condition of its mask
with the phase and generation it carries for it: a match moves the condition by its class table, and no other own
condition moves; then an urgent STATE is asked for, whatever the outcome. Its records, notices, reports and clears are
those of the acknowledgements, applied C0 to C7 (`StateChangeRecordsAndReports`). One for another station, or taken
outside ACTIVE, changes no own condition and asks for nothing. Either way a PRESENT origin's absence timer restarts
(R15, R61, R63 to R65, R68, R90). -/
def Obligations.AckreqAppliedByItsOwner : Prop :=
  ∀ (levels : List Level) (bytes : List Byte) (st target : Station) (mask : BitVec 8) (pairs : Tab 8 AckPair) (s : State),
    s.hears levels bytes → decodeFrame bytes = some ⟨st, .ackreq target mask pairs⟩ → st ≠ s.own →
    ∃ u, exec (.frameEnd levels) s = .next u.driveOutputs ∧
      ((s.pic.roster.get st).presence ≠ .present → u.pic.roster = s.pic.roster) ∧
      ((s.pic.roster.get st).presence = .present → ∀ n, (s.pic.roster.get st).refreshCode = some n →
        u.pic.roster = s.pic.roster.set st { s.pic.roster.get st with
          absence := some (s.after (3 * periodMs n)) }) ∧
      u.pic.points = s.pic.points ∧
      (target ≠ s.own ∨ s.life.life ≠ .active → u.pic.conds = s.pic.conds ∧ s.changesOnly [.pic, .line] u) ∧
      (target = s.own → s.life.life = .active →
        (∀ x c, u.condEntry x c = if x = s.own ∧ mask.getLsbD c.val = true then s.acknowledged c (pairs.get c)
          else s.condEntry x c) ∧
        u.frame = { s.frame with queue := urgentRequest s.frame.queue } ∧ u.cond.run = s.cond.run ∧
        u.ann = { s.ann with clears := u.ann.clears } ∧
        (∃ m, m = s.answersAll (((indices 8).filter (fun c => mask.getLsbD c.val)).map (fun c => (c, pairs.get c))) ∧
          u.journal = m.journal ∧ u.report = m.report ∧ u.cond = m.cond ∧ u.ann = m.ann) ∧
        s.changesOnly [.pic, .cond, .ann, .frame, .line, .journal, .report] u)

/-- A SILENCE frame from any origin but the own number: the latch is set where its zone mask includes the own zone, and
otherwise the frame is ignored. It asks for no SILENCE frame and no STATE, and the origin's presence is not examined for
it (R94); a PRESENT origin's absence timer restarts (R15). -/
def Obligations.ReceivedSilenceSetsTheLatch : Prop :=
  ∀ (levels : List Level) (bytes : List Byte) (st : Station) (zones : BitVec 4) (s : State), s.hears levels bytes →
    decodeFrame bytes = some ⟨st, .silence zones⟩ → st ≠ s.own →
    ∃ u, exec (.frameEnd levels) s = .next u.driveOutputs ∧
      u.out = { s.out with latch := if zones.getLsbD s.settings.zone.val then true else s.out.latch } ∧
      u.frame = s.frame ∧ u.pic.points = s.pic.points ∧ u.pic.conds = s.pic.conds ∧
      ((s.pic.roster.get st).presence ≠ .present → u.pic.roster = s.pic.roster) ∧
      ((s.pic.roster.get st).presence = .present → ∀ n, (s.pic.roster.get st).refreshCode = some n →
        u.pic.roster = s.pic.roster.set st { s.pic.roster.get st with
          absence := some (s.after (3 * periodMs n)) }) ∧
      s.changesOnly [.pic, .line, .out] u

/-- The end of a reception that is not valid and holds no jam: W stands, the blind flag is set, a window begins, and the
discarded-frame count is raised once, but not for the own frame (R122, R130, R133). The end of a reception in which a
jam is recognised leaves W and the blind flag and raises the count in the same way (R98, R123). A reception is broken by
a recessive lead-in bit of the first three, by a dominant fourth one or a dominant stop bit, and by a dominant level 1
to 9 recessive bit times after a stop bit; the second and third are a jam where their dominant run reaches 8 bit times;
and it ends with its first 10 recessive bit times in a row (R120, R121, R123). That a jam in a reception of the own
frame is not counted is the model's reading (log entry 11). -/
def Obligations.UnusableReceptionsAreCounted : Prop :=
  (∀ (levels : List Level) (s : State), s.held = false → s.life.life.running = true → s.line.state = .receiving →
    (s.line.rx = .frame ∨ s.line.rx = .ownFrame) →
    let count := if s.line.rx = .frame then min 65535 (s.frame.discarded + 1) else s.frame.discarded
    let window : LineUnit := { s.line with state := .window, slot := some 0, nextSlot := 0, rx := .none }
    ((readReception levels = .broken ∨
        ∃ bytes, readReception levels = .complete bytes ∧ validOnLine bytes = false) →
      ∃ t, exec (.invalidReceptionEnd levels) s = .next t ∧ t.line = { window with blind := true } ∧
        t.frame = { s.frame with discarded := count } ∧ s.changesOnly [.line, .frame] t) ∧
    (readReception levels = .jammed →
      ∃ t, exec (.jamEnd levels) s = .next t ∧ t.line = window ∧ t.frame = { s.frame with discarded := count } ∧
        s.changesOnly [.line, .frame] t)) ∧
  (∀ rest : List Level, endsOnce (.recessive :: rest) →
    (∀ n, 1 ≤ n → n < 3 → readReception (List.replicate n .dominant ++ .recessive :: rest) = .broken) ∧
    (∀ n, 4 ≤ n → readReception (List.replicate n .dominant ++ .recessive :: rest) =
      if 8 ≤ n then .jammed else .broken) ∧
    ∀ (bytes : List Byte) (data : List Level) (n : Nat), data.length = 8 → 1 ≤ n →
      let run := ((.dominant :: data).reverse.takeWhile (fun l => l == .dominant)).length + n
      readReception (driveLevels bytes ++ .dominant :: data ++ List.replicate n .dominant ++ .recessive :: rest) =
        if 8 ≤ run then .jammed else .broken) ∧
  ∀ (rest : List Level) (bytes : List Byte) (n : Nat), endsOnce rest → bytes ≠ [] → 1 ≤ n → n ≤ 9 →
    readReception (driveLevels bytes ++ List.replicate n .recessive ++ .dominant :: rest) = .broken

/-- A slot starts in a window. The station's rank is (own number − W − 1) modulo 32. In ACTIVE, with the blind flag
clear and W known, it starts a transmission at its urgent slot, the slot of its rank, if an URGENT entry is WAITING, and
at its routine slot, 32 later, if any entry is WAITING; in every other slot and case the slot passes (R124 to R127).
That a slot starts once, and in rising order, is kept by the model's own field (log entry 9). -/
def Obligations.SlotStartSendsInItsOwnSlots : Prop :=
  ∀ (slot : Fin 64) (s : State), s.held = false → s.life.life.running = true → s.line.state = .window →
    s.line.nextSlot ≤ slot.val →
    let mine := s.life.life = .active ∧ s.line.blind = false ∧ ∃ w, s.line.w = some w ∧
      ((slot.val = (s.own.val + 31 - w.val) % 32 ∧ ∃ e ∈ s.frame.queue, e.onLine = false ∧ e.urgent = true) ∨
        (slot.val = 32 + (s.own.val + 31 - w.val) % 32 ∧ ∃ e ∈ s.frame.queue, e.onLine = false))
    let passed := s.onLine (fun l => { l with slot := some slot, nextSlot := slot.val + 1 })
    (¬ mine → exec (.slotStart slot) s = .next passed) ∧
    (mine → ∃ t, exec (.slotStart slot) s = .next t ∧ passed.starts t)

/-- The own frame completes: the collision count is 0 and the line state stays TRANSMITTING. A STATE advances the own
sequence, clears FIRST and restarts the refresh timer with P; its entry leaves the queue or, changed, joins the tail
URGENT and WAITING. An ACKREQ leaves the queue, and its request waits 200 ms for a retry or, asked for again, is queued
again. A SILENCE leaves the queue. A frame whose entry was freed touches nothing (R84, R108, R110, R112, R113, R115,
R130). -/
def Obligations.TransmissionCompletes : Prop :=
  ∀ s : State, s.held = false → s.transmitting = true →
    ∃ t, exec .transmissionComplete s = .next t ∧ t.line = { s.line with collisions := 0, sending := none } ∧
      s.changesOnly [.line, .frame, .ann] t ∧
      let others := s.frame.queue.filter (fun e => !e.onLine)
      (s.onLineEntry = none → t.frame = s.frame ∧ t.ann = s.ann) ∧
      (∀ urgent changed, s.onLineEntry = some ⟨.state urgent changed, true⟩ → t.ann = s.ann ∧
        t.frame = { s.frame with
          queue := others ++ (if changed then [⟨.state true false, false⟩] else [])
          nextSeq := s.frame.nextSeq + 1
          first := false
          refresh := some (s.after s.period) }) ∧
      (∀ zones, s.onLineEntry = some ⟨.silence zones, true⟩ → t.ann = s.ann ∧
        t.frame = { s.frame with queue := others }) ∧
      (∀ i r, s.onLineEntry = some ⟨.ackreq i, true⟩ → s.ann.requests.get i = some r →
        (r.sendAgain = false → t.frame = { s.frame with queue := others } ∧
          t.ann = { s.ann with
            requests := s.ann.requests.set i (some { r with pending := .none, timer := some (s.after 200) }) }) ∧
        (r.sendAgain = true → t.frame = { s.frame with queue := others ++ [⟨.ackreq i, false⟩] } ∧
          t.ann = { s.ann with
            requests := s.ann.requests.set i (some { r with pending := .queued, sendAgain := false }) }))

/-- A collision at a bit time the station sent recessive: the frame is broken off, its entry WAITING again in its place
with its changed mark clear and its request QUEUED again. Below 16 collisions in a row the station jams: it drives 16
dominant bit times and then nothing. The collision
that leaves the count at 16 withdraws it instead: it goes on as a receiver of the other frame, the SILENCE and ACKREQ
entries leave, a STATE entry becomes URGENT, the refresh timer stops, WITHDRAWN is recorded and then ACK_FAILED for each
request in ascending order of target, SFAULT is asserted, and the withdraw timer starts with 2P to 3P (R84, R88, R109,
R114, R131 to R133, R150, R151). The duration within 2P to 3P is a free value (log entry 1). -/
def Obligations.CollisionJamsOrWithdraws : Prop :=
  ∀ (bitTime : Nat) (bytes : List Byte) (s : State), s.held = false → s.life.life = .active →
    s.line.state = .transmitting → s.line.sending = some bytes → (driveLevels bytes)[bitTime]? = some .recessive →
    s.QueueLaw → s.RequestLaw → s.line.collisions ≤ 16 →
    let back := s.frame.queue.map (fun e => if e.onLine then { (e.setChanged false) with onLine := false } else e)
    (s.line.collisions < 15 → ∃ t, exec (.collision bitTime) s = .next t ∧
      t.line = { s.line with
        state := .jamming
        collisions := s.line.collisions + 1
        sending := none
        jam := t.line.jam } ∧ (∀ k, t.line.drives k = if k < 16 then .dominant else .recessive) ∧
      t.line.jam.length = 16 ∧
      t.frame = { s.frame with queue := back } ∧ s.changesOnly [.line, .frame, .ann] t ∧
      ∀ i, t.ann = { s.ann with requests := t.ann.requests } ∧ t.ann.requests.get i =
        (s.ann.requests.get i).map (fun r => if r.pending = .onLine
          then { r with pending := .queued, sendAgain := false } else r)) ∧
    (15 ≤ s.line.collisions → ∃ u, exec (.collision bitTime) s = .next u.driveOutputs ∧
      u.line = { s.line with state := .receiving, collisions := 16, sending := none, rx := .frame } ∧
      u.frame = { s.frame with
        refresh := none
        queue := (back.filter QEntry.isState).map (fun e => match e.kind with
          | .state _ changed => { e with kind := .state true changed }
          | .ackreq _ => e
          | .silence _ => e) } ∧
      u.ann = { s.ann with requests := .fill 8 none } ∧ s.hands u (.withdrawn s.own :: s.ackFailures) ∧
      (∃ n, 2 * s.period ≤ n ∧ n ≤ 3 * s.period ∧ u.life = { s.life with
        life := .withdrawn
        withdraw := some (s.after n)
        withdrawFor := n
        draws := s.life.draws + 1
        sfault := true }) ∧
      s.changesOnly [.line, .frame, .ann, .life, .journal] u)

/-- A line dominant for 40 bit times is STUCK, in whatever line state: an own frame still under way is broken off, its
entry WAITING again in its place and its request QUEUED again; an own jam stops, a reception under way raises the discarded-frame count once, LINE_STUCK is recorded and SFAULT is
asserted (R84, R109, R134, R152, R153). That a reception of the own frame is not counted is the model's reading (log entry
11). -/
def Obligations.DominantLineIsStuck : Prop :=
  ∀ s : State, s.held = false → s.life.life.running = true → s.line.state ≠ .stuck → s.QueueLaw →
    ∃ t, exec .lineStuck s = .next t ∧
      t.line = { s.line with state := .stuck, slot := none, rx := .none, sending := none, jam := [] } ∧
      t.life = { s.life with lineStuck := true, sfault := true } ∧ s.hands t [.lineStuck] ∧
      t.frame = { s.frame with
        discarded := if s.line.state = .receiving ∧ s.line.rx = .frame then min 65535 (s.frame.discarded + 1)
          else s.frame.discarded
        queue := s.frame.queue.map (fun e => if e.onLine
          then { (e.setChanged false) with onLine := false } else e) } ∧
      t.ann = { s.ann with requests := t.ann.requests } ∧
      (s.line.sending = none → t.ann = s.ann) ∧
      (s.line.sending ≠ none →
        (∀ i r, s.onLineEntry = some ⟨.ackreq i, true⟩ → s.ann.requests.get i = some r → t.ann.requests =
          s.ann.requests.set i (some { r with pending := .queued, sendAgain := false })) ∧
        ((∀ i, s.onLineEntry ≠ some ⟨.ackreq i, true⟩) → t.ann = s.ann) ∧
        (s.RequestLaw → ∀ i, t.ann.requests.get i = (s.ann.requests.get i).map (fun r => if r.pending = .onLine
          then { r with pending := .queued, sendAgain := false } else r))) ∧
      s.changesOnly [.line, .life, .journal, .frame, .ann] t

/-! ### The supervisor's commands -/

/-- TAKE: on an empty journal RESULT is EMPTY and nothing else changes; otherwise the oldest record goes to the window
and RESULT is OK. Where it leaves 31 records with the overflow pending flag set, an OVERFLOW record with the lost count
and the time of the take joins the tail and count and flag are cleared (R172, R173). ATTN stands while a record is held
and the image has it enabled (R175). The window then reads as Table 13-5 lays out each of the seventeen kinds, and 00h
in every byte when it holds none (R192, R197). That the command is one write transaction is the model's choice (log
entry 12). -/
def Obligations.TakeMovesTheOldestRecord : Prop :=
  (∀ s : State, s.held = false → s.committing = false →
    ∃ t, exec .take s = .next t ∧ s.changesOnly [.journal, .port] t ∧
      t.port = { s.port with
        pointer := 0x13
        reading := false
        unsent := []
        acks := [true, true, true, true]
        command := 0x01
        result := if s.journal.records = [] then .empty else .ok } ∧
      (s.journal.records = [] → t.journal = s.journal) ∧
      (∀ head rest, s.journal.records = head :: rest → t.journal.window = some head ∧
        t.journal.attn = (s.settings.attnEnabled && !t.journal.records.isEmpty) ∧
        (rest.length = 31 ∧ s.journal.overflowPending = true →
          t.journal.records = rest ++ [⟨.overflow s.journal.lost, s.clock⟩] ∧ t.journal.lost = 0 ∧
          t.journal.overflowPending = false) ∧
        (¬ (rest.length = 31 ∧ s.journal.overflowPending = true) → t.journal.records = rest ∧
          t.journal.lost = s.journal.lost ∧ t.journal.overflowPending = s.journal.overflowPending))) ∧
  (∀ s : State, (s.journal.window = none → s.unitBytes 0x20 = [0, 0, 0, 0, 0, 0, 0, 0]) ∧
    ∀ r, s.journal.window = some r → s.unitBytes 0x20 = r.bytes) ∧
  ∀ (st : Station) (p : PointIx) (c : CondIx) (g : Gen) (v m : Byte) (n : Nat) (value fault : Bool) (a : AnnState)
      (x : Trigger) (f : FaultCode) (time : Ms),
    let reads := fun (body : RecordBody) (kind station index value : Byte) => (⟨body, time⟩ : Record).bytes =
      [kind, station, index, value, time.extractLsb' 24 8, time.extractLsb' 16 8, time.extractLsb' 8 8,
        time.extractLsb' 0 8]
    let number := BitVec.ofNat 8
    reads (.started st v) 0x01 (number st.val) 0 v ∧
    reads (.pointChange st p value fault) 0x02 (number st.val) (number p.val)
      (number ((if value then 1 else 0) + if fault then 2 else 0)) ∧
    reads (.condChange st c a g) 0x03 (number st.val) (number (16 * g.val + c.val)) (number a.code) ∧
    reads (.peerPresent st) 0x04 (number st.val) 0 0 ∧ reads (.peerAbsent st) 0x05 (number st.val) 0 0 ∧
    reads (.peerRestart st) 0x06 (number st.val) 0 0 ∧ reads (.seqGap st m) 0x07 (number st.val) 0 m ∧
    reads (.stranger st) 0x08 (number st.val) 0 0 ∧ reads (.ackFailed st m) 0x09 (number st.val) 0 m ∧
    reads (.ackRefused st m) 0x0A (number st.val) 0 m ∧
    reads (.reportDropped st c x) 0x0B (number st.val) (number c.val) (number (if x = .alert then 0 else 1)) ∧
    reads (.withdrawn st) 0x0C (number st.val) 0 0 ∧ reads (.duplicate st) 0x0D (number st.val) 0 0 ∧
    reads .lineStuck 0x0E 0xFF 0 0 ∧ reads .lineReleased 0x0F 0xFF 0 0 ∧
    reads (.configFault st f) 0x10 (number st.val) 0 (number f.code) ∧
    (n < 65536 → reads (.overflow n) 0x11 0xFF (number (n / 256)) (number (n % 256)))

/-- ACK_ONE in the running life states, by the checks of Table 5-1 in the order of its eleven rows: bad arguments; an
own condition, which an acknowledgement of its present state and generation moves by its class, with all that such a
change does (`StateChangeRecordsAndReports`); and a peer's condition, whose request is handed to the request table as
`PressFormsOneRequestPerOwner` says, merged or new, or refused with ACK_REFUSED when the table has no entry free (R80,
R82, R83). -/
def Obligations.AckOneFollowsItsChecks : Prop :=
  ∀ s : State, s.held = false → s.life.life.running = true →
    let answers := fun (r : Result) => ∃ t, exec .ackOne s = .next t ∧ t.port.result = r ∧ s.changesOnly [.port] t
    ((32 ≤ s.port.arg0.toNat ∨ 8 ≤ s.port.arg1.toNat) → answers .badArg) ∧
    (∀ (st : Station) (c : CondIx), s.port.arg0.toNat = st.val → s.port.arg1.toNat = c.val →
      let e := s.condEntry st c
      let unanswered := e.state = .alertUnack ∨ e.state = .returnUnack
      (st = s.own →
        (e.state = .unused → answers .badArg) ∧
        (e.state = .normal ∨ e.state = .alertAck → answers .ok) ∧
        (unanswered → ∃ u, exec .ackOne s = .next u.settle ∧ u.port.result = .ok ∧
          u.ownCond c = s.acknowledged c ⟨if e.state = .alertUnack then .alert else .returned, e.gen⟩ ∧
          (∀ x k, ¬ (x = st ∧ k = c) → u.condEntry x k = s.condEntry x k) ∧ u.pic.points = s.pic.points ∧
          u.pic.roster = s.pic.roster ∧ u.ann.requests = s.ann.requests ∧ u.ann.seqTruth = s.ann.seqTruth ∧
          { u with port := s.port } = s.applyAck c e.answer ∧
          s.changesOnly [.pic, .cond, .ann, .frame, .journal, .report, .port] u)) ∧
      (st ≠ s.own →
        ((s.pic.roster.get st).presence = .notExpected → answers .badArg) ∧
        ((s.pic.roster.get st).presence ≠ .notExpected →
          (e.quality ≠ .good → answers .refused) ∧
          (e.quality = .good →
            (e.state = .unused → answers .badArg) ∧
            (e.state ≠ .unused →
              (s.life.life ≠ .active → answers .refused) ∧
              (s.life.life = .active →
                (¬ unanswered → answers .ok) ∧
                (unanswered → s.requestFor st = none → s.freePlace = none →
                  ∃ u, exec .ackOne s = .next u.settle ∧ u.port.result = .refused ∧ u.ann = s.ann ∧
                    (∃ m : BitVec 8, (∀ k : CondIx, m.getLsbD k.val = true ↔ k = c) ∧
                      s.hands u [.ackRefused st m]) ∧ s.changesOnly [.journal, .port] u) ∧
                (unanswered → s.requestFor st ≠ none ∨ s.freePlace ≠ none →
                  ∃ (u : State) (i : ReqIx) (r : Request), exec .ackOne s = .next u.settle ∧ u.port.result = .ok ∧
                    u.journal = s.journal ∧
                    u.ann = { s.ann with requests := s.ann.requests.set i (some r) } ∧ r.target = st ∧
                    r.retries = 3 ∧ (s.requestFor st = some i ∨ s.requestFor st = none ∧ s.freePlace = some i) ∧
                    r.pairs.get c = ⟨if e.state = .alertUnack then .alert else .returned, e.gen⟩ ∧
                    (∀ k : CondIx, r.mask.getLsbD k.val = true ↔ k = c ∨
                      ∃ q, s.requestFor st = some i ∧ s.ann.requests.get i = some q ∧
                        q.mask.getLsbD k.val = true) ∧
                    (∃ (m : BitVec 8) (pairs : Tab 8 AckPair), (∀ k : CondIx, m.getLsbD k.val = true ↔ k = c) ∧
                      pairs.get c = e.answer ∧ { u with port := s.port } = s.handRequest st m pairs) ∧
                    s.changesOnly [.ann, .frame, .port] u)))))))

/-- SILENCE, LAMP_TEST_ON, LAMP_TEST_OFF and COUNT_CLEAR in the running life states, each answered OK: SILENCE sets the
latch and in ACTIVE asks for a SILENCE frame with the reach mask, merged into one already held (R93, R111); the lamp
test commands set the supervisor lamp test (R163); COUNT_CLEAR clears the discarded-frame count (R98). That each is one
write transaction is the model's choice (log entry 12). -/
def Obligations.SimpleCommandsActAndAnswerOk : Prop :=
  ∀ s : State, s.held = false → s.life.life.running = true →
    let answered := fun (code : Byte) => ({ s.port with
      pointer := 0x13
      reading := false
      unsent := []
      acks := [true, true, true, true]
      command := code
      result := .ok } : Port)
    (∃ u, exec .silence s = .next u.settle ∧ u.port = answered 0x04 ∧ u.out = { s.out with latch := true } ∧
      (s.life.life ≠ .active → u.frame = s.frame) ∧
      (s.life.life = .active → u.frame = { s.frame with queue := u.frame.queue } ∧
        ((∀ e ∈ s.frame.queue, e.isSilence = false) →
          u.frame.queue = s.frame.queue ++ [⟨.silence s.settings.reach, false⟩]) ∧
        (∀ before after zones line, s.frame.queue = before ++ ⟨.silence zones, line⟩ :: after →
          (∀ e ∈ before, e.isSilence = false) →
          u.frame.queue = before ++ ⟨.silence (zones ||| s.settings.reach), line⟩ :: after)) ∧
      s.changesOnly [.out, .frame, .port] u) ∧
    (∃ u, exec .lampTestOn s = .next u.driveOutputs ∧ u.port = answered 0x05 ∧
      u.out = { s.out with lampTest := true } ∧ s.changesOnly [.out, .port] u) ∧
    (∃ u, exec .lampTestOff s = .next u.driveOutputs ∧ u.port = answered 0x06 ∧
      u.out = { s.out with lampTest := false } ∧ s.changesOnly [.out, .port] u) ∧
    (∃ t, exec .countClear s = .next t ∧ t.port = answered 0x07 ∧ t.frame = { s.frame with discarded := 0 } ∧
      s.changesOnly [.frame, .port] t)

/-- Commands that the port turns away change the port alone. During a COMMIT check every command is answered BUSY; a
code of no command is answered BAD_ARG; in LOADING every command but TAKE and COMMIT is answered NOT_CONFIGURED; in
CONFIG_FAULT every command but TAKE is answered REFUSED (R142, R181). That each is one write transaction is the model's
choice (log entry 12). -/
def Obligations.RefusedCommandsChangeThePortAlone : Prop :=
  ∀ (c : Instr) (code : Byte) (s : State), s.held = false →
    ((c, code) ∈ [(.take, 0x01), (.ackAll, 0x02), (.ackOne, 0x03), (.silence, 0x04), (.lampTestOn, 0x05),
      (.lampTestOff, 0x06), (.countClear, 0x07), (.commit, 0x08)] ∨ c = .unknownCommand code ∧ c.wf = true) →
    let answers := fun (r : Result) => ∃ t, exec c s = .next t ∧ s.changesOnly [.port] t ∧
      t.port = { s.port with
        pointer := 0x13
        reading := false
        unsent := []
        acks := [true, true, true, true]
        command := code
        result := r }
    (s.committing = true ↔ s.life.life = .loading ∧ s.life.source = .supervisor ∧ s.loader.phase = .checking) ∧
    (s.committing = true → answers .busy) ∧
    (s.committing = false →
      (c = .unknownCommand code → answers .badArg) ∧
      (c ≠ .unknownCommand code →
        (s.life.life = .loading → c ≠ .take → c ≠ .commit → answers .notConfigured) ∧
        (s.life.life = .configFault → c ≠ .take → answers .refused)))

/-- A read that begins on the first byte of a record unit captures the whole unit and sends from it, whatever changes
while it runs; past the unit, and for a read that begins elsewhere, each byte is the register's live value. The pointer
advances by one for each byte. After a byte that the controller does not acknowledge, or the stop, the port sends no
more; a transaction to another address is not acknowledged and ends the read (R177, R178). The registers and record
units lie as Table 13-6 gives, by the codes of Table 13-1; the capture buffer is not read (R192, R198). That the fault
mark of a point of quality UNKNOWN reads 0 is the model's choice (log entry 20), and so is how a read is cut into parts
(log entry 12). -/
def Obligations.ReadsCaptureTheirUnit : Prop :=
  (∀ (count : Nat) (acked : Bool) (s : State), s.held = false →
    let live := fun n : Nat => (List.range n).map (fun k => s.register (s.port.pointer + BitVec.ofNat 16 k).toNat)
    let goesOn := acked = true ∨ count = 0
    (∀ size, unitOf s.port.pointer.toNat = some (s.port.pointer.toNat, size) → count ≤ size →
      ∃ t, exec (.readCapture (.start 0x5A count acked)) s = .next t ∧ s.changesOnly [.port] t ∧
        t.port = { s.port with
          reading := decide goesOn
          capture := s.unitBytes s.port.pointer.toNat
          unsent := if goesOn then (s.unitBytes s.port.pointer.toNat).drop count else []
          sent := (s.unitBytes s.port.pointer.toNat).take count
          acks := [true]
          pointer := s.port.pointer + BitVec.ofNat 16 count } ∧ t.port.sent.length = count) ∧
    ((∀ size, unitOf s.port.pointer.toNat ≠ some (s.port.pointer.toNat, size)) →
      ∃ t, exec (.readCapture (.start 0x5A count acked)) s = .next t ∧ s.changesOnly [.port] t ∧
        t.port = { s.port with
          reading := decide goesOn
          unsent := []
          sent := live count
          acks := [true]
          pointer := s.port.pointer + BitVec.ofNat 16 count }) ∧
    (s.port.reading = true → count ≤ s.port.unsent.length →
      ∃ t, exec (.readCapture (.more count acked)) s = .next t ∧ s.changesOnly [.port] t ∧
        t.port = { s.port with
          reading := decide goesOn
          unsent := if goesOn then s.port.unsent.drop count else []
          sent := s.port.unsent.take count
          pointer := s.port.pointer + BitVec.ofNat 16 count }) ∧
    (s.port.reading = true → s.port.unsent = [] →
      ∃ t, exec (.readCapture (.more count acked)) s = .next t ∧ s.changesOnly [.port] t ∧
        t.port = { s.port with
          reading := decide goesOn
          sent := live count
          pointer := s.port.pointer + BitVec.ofNat 16 count }) ∧
    (s.port.reading = false → ∃ t, exec (.readCapture (.more count acked)) s = .next t ∧ s.changesOnly [.port] t ∧
      t.port = { s.port with sent := [] }) ∧
    (∃ t, exec (.readCapture .stop) s = .next t ∧ s.changesOnly [.port] t ∧
      t.port = { s.port with reading := false, unsent := [], sent := [] }) ∧
    (∀ address : BitVec 7, address ≠ 0x5A →
      ∃ t, exec (.readCapture (.start address count acked)) s = .next t ∧ s.changesOnly [.port] t ∧
        t.port = { s.port with reading := false, unsent := [], sent := [], acks := [false] })) ∧
  (∀ (s : State) (st : Station) (c : CondIx) (k : Nat),
    let number := BitVec.ofNat 8
    let bits := fun (f : PointIx → Bool) (b : Byte) (low : Nat) =>
      ∀ (p : PointIx), p.val / 8 = low → b.getLsbD (p.val % 8) = f p
    let r := s.pic.roster.get st
    s.unitBytes 0 = [number s.life.life.code, number s.life.fault.code, number s.own.val,
      number s.journal.records.length, number (s.journal.lost / 256), number (s.journal.lost % 256),
      number (s.frame.discarded / 256), number (s.frame.discarded % 256), number s.line.collisions,
      number s.line.state.code, if s.out.latch then 1 else 0] ∧
    s.unitBytes (0x100 + 4 * st.val) = [number r.presence.code, number ((if r.lastSeq.isSome then 1 else 0) +
      (if r.refreshCode.isSome then 2 else 0) + (if r.restartSeen then 4 else 0) + if r.strangerLogged then 8 else 0),
      r.lastSeq.getD 0, number (r.refreshCode.getD 0)] ∧
    (∃ b0 b1 b2 b3, s.unitBytes (0x200 + 4 * st.val) = [b0, b1, b2, b3] ∧
      bits (fun p => (s.pointEntry st p).value) b0 0 ∧ bits (fun p => (s.pointEntry st p).value) b1 1 ∧
      bits (fun p => (s.pointEntry st p).quality == .fault) b2 0 ∧
      bits (fun p => (s.pointEntry st p).quality == .fault) b3 1) ∧
    s.unitBytes (0x300 + 8 * st.val + c.val) = [number ((s.condEntry st c).state.code +
      (if (s.condEntry st c).truth then 8 else 0) + 16 * (s.condEntry st c).gen.val)] ∧
    unitOf 0 = some (0, 11) ∧ unitOf 0x20 = some (0x20, 8) ∧ unitOf (0x100 + 4 * st.val) = some (0x100 + 4 * st.val, 4) ∧
    unitOf (0x200 + 4 * st.val) = some (0x200 + 4 * st.val, 4) ∧
    unitOf (0x300 + 8 * st.val + c.val) = some (0x300 + 8 * st.val + c.val, 1) ∧
    s.register 0x10 = s.port.arg0 ∧ s.register 0x11 = s.port.arg1 ∧ s.register 0x12 = s.port.command ∧
    s.register 0x13 = number s.port.result.code ∧
    (k < 640 → s.register (0x1000 + k) = Memory.read s.loader.buffer k) ∧
    (∀ base size, unitOf k = some (base, size) → base ≤ k ∧ k < base + size ∧ (s.unitBytes base).length = size ∧
      (s.unitBytes base)[k - base]? = some (s.register k)) ∧
    (unitOf k = none → ¬ (0x10 ≤ k ∧ k ≤ 0x13) → ¬ (0x1000 ≤ k ∧ k < 0x1280) → s.register k = 0)) ∧
  [Life.loading, .listening, .active, .withdrawn, .duplicate, .configFault].map Life.code = [0, 1, 2, 3, 4, 5] ∧
  [LineState.quiet, .window, .receiving, .transmitting, .jamming, .stuck].map LineState.code = [0, 1, 2, 3, 4, 5] ∧
  [Presence.notExpected, .unheard, .present, .absent, .self].map Presence.code = [0, 1, 2, 3, 4] ∧
  [AnnState.normal, .alertUnack, .alertAck, .returnUnack, .unused].map AnnState.code = [0, 1, 2, 3, 4] ∧
  [FaultCode.none, .badMagic, .badLength, .badCrc, .stationMismatch, .badField, .selfReference, .badTemplate].map
    FaultCode.code = [0, 1, 2, 3, 4, 5, 6, 7] ∧
  [Result.ok, .empty, .busy, .refused, .badArg, .notConfigured, .fault .badMagic, .fault .badTemplate].map Result.code =
    [0x00, 0x01, 0x02, 0x03, 0x04, 0x05, 0x11, 0x17]

/-- Writes of the image buffer and of the port's registers. While the buffer is writable the bytes stand at their
offsets and no other byte of it changes; at all other times it keeps every byte; the pointer advances either way. A
write of two bytes places the pointer, of one byte nothing; ARG0 and ARG1 take their byte; a write to RESULT, to the
status block, to the journal window or to the picture is ignored. The data bytes of one transaction act one after the
other, each on the register at the pointer, so that one transaction can set both arguments and issue a command or end an
image with its COMMIT: a byte on COMMAND runs the command of its code, as the command does alone, and a byte behind it
finds what the command has left. The port acknowledges its address and every byte, taken or ignored; another address it
does not acknowledge (R142, R177, R179, R181, R183). That a write is one event is the model's choice (log entry 12). -/
def Obligations.WritesReachTheWritableRegisters : Prop :=
  ∀ s : State, s.held = false → s.BufferLaw →
    (∀ (offset : Fin 640) (bytes : List Byte), offset.val + bytes.length ≤ 640 →
      ∃ t, exec (.imageBufferWrite offset bytes) s = .next t ∧ s.changesOnly [.loader, .port] t ∧
        t.loader = { s.loader with buffer := t.loader.buffer } ∧
        t.port = { s.port with
          reading := false
          unsent := []
          acks := List.replicate (bytes.length + 3) true
          pointer := BitVec.ofNat 16 (0x1000 + offset.val + bytes.length) } ∧
        ∀ a, Memory.read t.loader.buffer a =
          if s.life.life = .loading ∧ s.life.source = .supervisor ∧ s.loader.phase ≠ .checking ∧ offset.val ≤ a then
            bytes.getD (a - offset.val) (Memory.read s.loader.buffer a)
          else Memory.read s.loader.buffer a) ∧
    (∀ (hi lo b : Byte),
      let p := fun n : Nat => ({ s.port with reading := false, unsent := [], acks := List.replicate n true } : Port)
      exec (.registerWrite 0x5A []) s = .next { s with port := p 1 } ∧
      exec (.registerWrite 0x5A [hi]) s = .next { s with port := p 2 } ∧
      exec (.registerWrite 0x5A [hi, lo]) s = .next { s with port := { p 3 with pointer := hi ++ lo } } ∧
      exec (.registerWrite 0x5A [0x00, 0x10, b]) s = .next { s with port := { p 4 with pointer := 0x11, arg0 := b } } ∧
      exec (.registerWrite 0x5A [0x00, 0x11, b]) s = .next { s with port := { p 4 with pointer := 0x12, arg1 := b } } ∧
      ((hi ++ lo).toNat < 0x10 ∨ 0x13 ≤ (hi ++ lo).toNat ∧ (hi ++ lo).toNat < 0x1000 ∨ 0x1280 ≤ (hi ++ lo).toNat →
        exec (.registerWrite 0x5A [hi, lo, b]) s = .next { s with port := { p 4 with pointer := (hi ++ lo) + 1 } })) ∧
    (∀ (address : BitVec 7) (data : List Byte), address ≠ 0x5A →
      exec (.registerWrite address data) s = .next { s with
        port := { s.port with reading := false, unsent := [], acks := [false] } }) ∧
    (∀ (hi lo b : Byte) (data : List Byte),
      ∃ t, exec (.registerWrite 0x5A (hi :: lo :: data)) s = .next t ∧
        t.port.pointer = (hi ++ lo) + BitVec.ofNat 16 data.length ∧
        t.port.acks = List.replicate (data.length + 3) true ∧
        let off := t.port.pointer.toNat
        let next := fun r : State => exec (.registerWrite 0x5A (hi :: lo :: (data ++ [b]))) s = .next r
        let port : Port := { t.port with pointer := t.port.pointer + 1, acks := t.port.acks ++ [true] }
        (off = 0x10 → next { t with port := { port with arg0 := b } }) ∧
        (off = 0x11 → next { t with port := { port with arg1 := b } }) ∧
        (∀ c : Instr, off = 0x12 → ((c, b) ∈ [(.take, 0x01), (.ackAll, 0x02), (.ackOne, 0x03), (.silence, 0x04),
            (.lampTestOn, 0x05), (.lampTestOff, 0x06), (.countClear, 0x07), (.commit, 0x08)] ∨
            c = .unknownCommand b ∧ c.wf = true) →
          ∃ v, exec c t = .next v ∧ next { v with port := { v.port with acks := t.port.acks ++ [true] } }) ∧
        (0x1000 ≤ off → off < 0x1280 → ∃ r, next r ∧ t.changesOnly [.loader, .port] r ∧ r.port = port ∧
          r.loader = { t.loader with buffer := r.loader.buffer } ∧
          ∀ a, Memory.read r.loader.buffer a =
            if t.life.life = .loading ∧ t.life.source = .supervisor ∧ t.loader.phase ≠ .checking ∧ a = off - 0x1000
            then b else Memory.read t.loader.buffer a) ∧
        (off < 0x10 ∨ 0x13 ≤ off ∧ off < 0x1000 ∨ 0x1280 ≤ off → next { t with port := port }))

/-! ### Reports -/

/-- The end of a line: the unit is IDLE, or composes and sends the line of the oldest job that waits (R187, R189). A
line of more than 96 characters keeps its first 95 and ends in ~; CR LF follows every line and is not counted; an empty
template sends CR LF alone (R188). Each piece of a template renders as Table 12-2 gives from the picture at that moment,
and a tab becomes one to eight spaces (R185, R187). TXD rests at its idle level with no line in sending, and otherwise
shows each character in turn, without gap, as a start bit at the active level, eight data bits from the least
significant on, and a stop bit at the idle level (R189, R190). That a data bit of 1 is the idle level is the model's
choice (log entry 19). -/
def Obligations.ReportLineEndStartsTheNextJob : Prop :=
  (∀ (line : List Byte) (s : State), s.held = false → s.report.line = some line →
    ∃ t, exec .reportLineEnd s = .next t ∧ s.changesOnly [.report] t ∧
      (s.report.jobs = [] → t.report = { s.report with line := none }) ∧
      (∀ j rest, s.report.jobs = j :: rest → t.report = ⟨rest, some (s.composeLine j), s.clock⟩)) ∧
  (∀ (s : State) (j : Job) (pieces : List Piece), parseTemplate (s.settings.templates.get j.template) = some pieces →
    let full := pieces.foldl (s.addPiece j) []
    (full.length ≤ 96 → s.composeLine j = full ++ [0x0D, 0x0A]) ∧
    (96 < full.length → s.composeLine j = full.take 95 ++ [0x7E, 0x0D, 0x0A]) ∧
    (s.settings.templates.get j.template = [] → s.composeLine j = [0x0D, 0x0A])) ∧
  (∀ (bytes : List Byte) (pieces : List Piece), parseTemplate bytes = some pieces ↔ spells pieces bytes) ∧
  (∀ (s : State) (j : Job) (line : List Byte) (st : Station) (p : PointIx) (c : CondIx) (b : Byte),
    let renders := fun (piece : Piece) (bytes : List Byte) => s.addPiece j line piece = line ++ bytes
    let point := s.pointEntry st p
    let cond := s.condEntry st c
    (b ≠ 0x09 → renders (.literal b) [b]) ∧
    (∃ n, 1 ≤ n ∧ n ≤ 8 ∧ (line.length + n) % 8 = 0 ∧ renders (.literal 0x09) (List.replicate n 0x20)) ∧
    renders (.point st p) (ascii (if point.quality = .unknown then "?" else if point.quality = .fault then "F"
      else if point.value then "1" else "0")) ∧
    renders (.alarm st c) (ascii (if cond.quality ≠ .good then "????" else match cond.state with
      | .normal => "NORM"
      | .alertUnack => "ALRT"
      | .alertAck => "ACKD"
      | .returnUnack => "RTRN"
      | .unused => "UNUS")) ∧
    renders .event (ascii (if j.trigger = .alert then "ALRT" else "CLR")) ∧
    renders .cond [BitVec.ofNat 8 (48 + j.cond.val)] ∧
    renders .gen [BitVec.ofNat 8 (if j.gen.val < 10 then 48 + j.gen.val else 55 + j.gen.val)] ∧
    renders .own (twoDigits s.own.val) ∧ renders .at (ascii "@") ∧
    (∃ digits, renders .time digits ∧ digits ≠ [] ∧ (∀ d ∈ digits, 48 ≤ d.toNat ∧ d.toNat ≤ 57) ∧
      digits.foldl (fun n d => 10 * n + (d.toNat - 48)) 0 = j.time.toNat / 1000 ∧
      (1 < digits.length → digits.head? ≠ some 48))) ∧
  (∀ (r : ReportUnit) (n : Nat), (r.line = none → r.txdAt n = .idle) ∧
    ∀ (before after : List Byte) (b : Byte), r.line = some (before ++ b :: after) →
      r.txdAt (10 * before.length) = .active ∧ r.txdAt (10 * before.length + 9) = .idle ∧
      (∀ k, k < 8 → r.txdAt (10 * before.length + 1 + k) = if b.getLsbD k then .idle else .active) ∧
      (10 * (before ++ b :: after).length ≤ n → r.txdAt n = .idle)) ∧
  ∀ s : State, s.txd = s.report.txdAt ((s.clock - s.report.since).toNat * (match s.settings.uart with
    | 0 => 9600
    | 1 => 19200
    | 2 => 38400
    | _ => 57600) / 1000)

/-! ### The laws every step keeps -/

/-- The state right after reset meets every law. -/
def Obligations.ResetIsLawful : Prop := State.reset.Lawful

/-- From a lawful state, a step leaves the working blocks at rest outside the running life states, the timers of Life
Control and the refresh timer in their life states, the collision count within 16 and SFAULT as Table 8-7 gives (R113,
R132, R146, R151, R153, R154). -/
def Obligations.StepsKeepTheLifeLaws : Prop :=
  ∀ s t : State, s.Lawful → step s = .next t → t.IdleLaw ∧ t.LifeLaw ∧ t.SfaultLaw

/-- From a lawful state, a step keeps the laws of the picture: the own station is SELF and no other, an absence timer
runs exactly while PRESENT, a PRESENT row is known and any other peer's row UNKNOWN, and the sequence and refresh code
are held exactly by PRESENT and ABSENT stations (R2 to R5, R11, R15, R16). -/
def Obligations.StepsKeepThePictureLaw : Prop :=
  ∀ s t : State, s.Lawful → step s = .next t → t.PictureLaw

/-- From a lawful state, a step keeps the laws of the inputs: a candidate and its timer exactly while the level at a
debounced input differs from its accepted level, a pair timer exactly while the relation differs, and the own points at
the accepted levels and relations (R22, R24, R26, R28 to R30, R33, R35). -/
def Obligations.StepsKeepTheInputLaws : Prop :=
  ∀ s t : State, s.Lawful → step s = .next t → t.PointLaw ∧ t.ControlLaw

/-- From a lawful state, a step keeps the laws of the conditions: raw result, timers and truth follow the evaluation
state; an unused condition stays as it is; the edges that wait lead from the sequence truth to the truth; and each state
is one its class allows with its sequence truth (R37, R49, R51, R60, R66, R75). -/
def Obligations.StepsKeepTheConditionLaws : Prop :=
  ∀ s t : State, s.Lawful → step s = .next t → t.ConditionLaw ∧ t.AnnunciationLaw

/-- From a lawful state, a step keeps the laws of the line and the queue: the station drives the line only in ACTIVE, a
waiting entry in ACTIVE and QUIET starts, the queue holds at most one STATE, one SILENCE and one ACKREQ per request, and
the request table agrees with the queue (R81, R84, R102, R110, R114, R118, R124, R128, R133). -/
def Obligations.StepsKeepTheLineAndQueueLaws : Prop :=
  ∀ s t : State, s.Lawful → step s = .next t → t.LineLaw ∧ t.QuietLaw ∧ t.QueueLaw ∧ t.RequestLaw

/-- From a lawful state, a step leaves every output line and HORN as their settings give from the picture, the lamp
test, the pattern phase and the silence latch (R156 to R166). -/
def Obligations.StepsKeepTheOutputLaws : Prop :=
  ∀ s t : State, s.Lawful → step s = .next t → t.OutputLaw ∧ t.HornLaw

/-- From a lawful state, a step keeps the laws of the journal, the report unit, the image buffer, the memory read and
the discarded-frame count (R98, R141, R171, R172, R175, R186 to R188). In the memory read, the count of the bytes so far
and the fields that hold what SDO and SDI carry are the model's own (log entry 9), and that a byte stands in the buffer
and the read ends at a falling edge of SCK is its choice (log entry 13). -/
def Obligations.StepsKeepTheRecordLaws : Prop :=
  ∀ s t : State, s.Lawful → step s = .next t → t.JournalLaw ∧ t.ReportLaw ∧ t.BufferLaw ∧ t.LoaderLaw ∧ t.CountLaw

/-! ### The coding of the line -/

/-- What one station sends another reads: the levels of any bytes, driven and followed by the recessive tail, are
received as those bytes in 4 + 10n bit times and the tail; and the bytes of every frame a station can send are valid on
the line, name their origin and decode to that frame (R97, R117, R120, R121, R193, R194). That a lead-in with no byte
behind it ends as a reception of no bytes is the model's choice (log entry 18). A frame's bytes are those of Tables 13-2
and 13-3 and the CRC-16 over them, high byte first: register FFFFh, each byte into its high 8 bits, eight steps with
1021h. A reception is valid when its bytes are such a sequence of 4 to 20 bytes and its check; unused bits are
disregarded, a refresh code of 5–7 is taken as 4 and a state code of 5–7 as UNUSED, and a kind of no name or a length
not the kind's is discarded (R13, R14, R99, R196). A frame's content is captured from the station as it stands: a STATE
takes the own next sequence, FIRST, the refresh code of the image and the own row of points and conditions; an ACKREQ
its request's target, mask and pairs; a SILENCE its entry's zones (R107, R112, R115). -/
def Obligations.FramesAreReadAsSent : Prop :=
  (∀ bytes : List Byte, readReception (driveLevels bytes ++ tailLevels) = .complete bytes ∧
    (driveLevels bytes).length = 4 + 10 * bytes.length) ∧
  (∀ f : Frame, f.sendable → validOnLine f.bytes = true ∧ frameOrigin f.bytes = f.origin ∧
    decodeFrame f.bytes = some f ∧ f.bytes.length = (match f.payload with
      | .state _ => 19
      | .ackreq _ _ _ => 16
      | .silence _ => 7)) ∧
  (∀ (bytes : List Byte) (b : Byte), crc16 [] = 0xFFFF ∧
    crc16 (bytes ++ [b]) = Nat.iterate (fun r : BitVec 16 =>
      if r.getLsbD 15 then (r <<< 1) ^^^ 0x1021 else r <<< 1) 8 (crc16 bytes ^^^ (b.setWidth 16 <<< 8)) ∧
    crcBytes bytes = [(crc16 bytes).extractLsb' 8 8, (crc16 bytes).extractLsb' 0 8]) ∧
  (∀ bytes : List Byte, (validOnLine bytes = true ↔ ∃ body : List Byte, 4 ≤ body.length ∧
      (body.getD 3 0).toNat ≤ 16 ∧ body.length = 4 + (body.getD 3 0).toNat ∧ bytes = body ++ crcBytes body) ∧
    (frameOrigin bytes).val = (bytes.getD 1 0).toNat % 32 ∧
    driveLevels bytes = [.dominant, .dominant, .dominant, .recessive] ++ bytes.flatMap (fun b =>
      .dominant :: ((List.range 8).map (fun k => if b.getLsbD k then .recessive else .dominant) ++ [.recessive])) ∧
    tailLevels = List.replicate 10 .recessive) ∧
  (∀ (st target : Station) (p : StateFrame) (mask : BitVec 8) (pairs : Tab 8 AckPair) (zones : BitVec 4),
    let number := BitVec.ofNat 8
    let sent := fun (payload : Payload) (body : List Byte) =>
      (⟨st, payload⟩ : Frame).bytes = body ++ crcBytes body
    (p.refreshCode ≤ 4 → sent (.state p) ([0x01, number st.val, p.seq, 13,
      number (p.refreshCode + if p.first then 128 else 0), p.values.extractLsb' 0 8, p.values.extractLsb' 8 8,
      p.faults.extractLsb' 0 8, p.faults.extractLsb' 8 8] ++ (indices 8).map (fun c =>
        number ((p.conds.get c).state.code + (if (p.conds.get c).truth then 8 else 0) + 16 * (p.conds.get c).gen.val)))) ∧
    sent (.ackreq target mask pairs) ([0x02, number st.val, 0, 10, number target.val, mask] ++
      (indices 8).map (fun c => if mask.getLsbD c.val
        then number ((pairs.get c).gen.val + if (pairs.get c).phase = .returned then 16 else 0) else 0)) ∧
    sent (.silence zones) [0x03, number st.val, 0, 1, zones.setWidth 8]) ∧
  (∀ (origin seq p0 v0 v1 f0 f1 target mask zones x y : Byte) (entries : List Byte), entries.length = 8 →
    let st := frameOrigin [0, origin]
    (∃ f : StateFrame,
      decodeFrame ([0x01, origin, seq, 13, p0, v0, v1, f0, f1] ++ entries ++ [x, y]) = some ⟨st, .state f⟩ ∧
      f.seq = seq ∧ f.first = p0.getLsbD 7 ∧ f.refreshCode = min 4 (p0.toNat % 8) ∧
      (∀ k, k < 8 → f.values.getLsbD k = v0.getLsbD k ∧ f.values.getLsbD (8 + k) = v1.getLsbD k ∧
        f.faults.getLsbD k = f0.getLsbD k ∧ f.faults.getLsbD (8 + k) = f1.getLsbD k) ∧
      ∀ (c : CondIx) (b : Byte), entries[c.val]? = some b →
        (f.conds.get c).state.code = min 4 (b.toNat % 8) ∧ (f.conds.get c).truth = b.getLsbD 3 ∧
        (f.conds.get c).gen.val = b.toNat / 16) ∧
    (∃ (t : Station) (pairs : Tab 8 AckPair),
      decodeFrame ([0x02, origin, seq, 10, target, mask] ++ entries ++ [x, y]) = some ⟨st, .ackreq t mask pairs⟩ ∧
      t.val = target.toNat % 32 ∧ ∀ (c : CondIx) (b : Byte), entries[c.val]? = some b →
        (pairs.get c).gen.val = b.toNat % 16 ∧ ((pairs.get c).phase = .returned ↔ b.getLsbD 4 = true)) ∧
    decodeFrame [0x03, origin, seq, 1, zones, x, y] = some ⟨st, .silence (zones.extractLsb' 0 4)⟩) ∧
  (∀ bytes : List Byte, (∀ k ∈ [((0x01 : Byte), (13 : Byte)), (0x02, 10), (0x03, 1)],
    ¬ (bytes.getD 0 0 = k.1 ∧ bytes.getD 3 0 = k.2)) → decodeFrame bytes = none) ∧
  [AnnState.normal, .alertUnack, .alertAck, .returnUnack, .unused].map AnnState.code = [0, 1, 2, 3, 4] ∧
  ∀ s : State,
    (∀ urgent changed, ∃ f : StateFrame, s.payloadOf (.state urgent changed) = .state f ∧ f.seq = s.frame.nextSeq ∧
      f.first = s.frame.first ∧ f.refreshCode = s.settings.refreshCode ∧
      (∀ p : PointIx, f.values.getLsbD p.val = (s.pointEntry s.own p).value ∧
        (f.faults.getLsbD p.val = true ↔ (s.pointEntry s.own p).quality = .fault)) ∧
      ∀ c, f.conds.get c = ⟨(s.ownCond c).state, (s.ownCond c).truth, (s.ownCond c).gen⟩) ∧
    (∀ i r, s.ann.requests.get i = some r → s.payloadOf (.ackreq i) = .ackreq r.target r.mask r.pairs) ∧
    (∀ zones, s.payloadOf (.silence zones) = .silence zones)

/-- A jam is always recognised: wherever a frame is broken off, before its first bit time or after any of them, 16 or
more dominant bit times and the jam end that follows are received as a jam, never as a frame or as another framing error
(R120, R123, R131). -/
def Obligations.JamIsAlwaysRecognised : Prop :=
  ∀ (bytes : List Byte) (n k : Nat), n ≤ (driveLevels bytes).length → 16 ≤ k →
    readReception ((driveLevels bytes).take n ++ List.replicate k .dominant ++ tailLevels) = .jammed
end

