-- ==== Sys2Proof/Laws/State.lean ====
section
/-!
SUPPORT. One lemma per block per update: what an update of one block of the state leaves of every other, and what it
makes of its own.
-/

namespace Sys2Proof

namespace Machine

variable (s : State)

@[simp] theorem State.onHeld_held (f : Bool → Bool) : (s.onHeld f).held = f s.held := rfl
@[simp] theorem State.onHeld_clock (f : Bool → Bool) : (s.onHeld f).clock = s.clock := rfl
@[simp] theorem State.onHeld_pins (f : Bool → Bool) : (s.onHeld f).pins = s.pins := rfl
@[simp] theorem State.onHeld_settings (f : Bool → Bool) : (s.onHeld f).settings = s.settings := rfl
@[simp] theorem State.onHeld_life (f : Bool → Bool) : (s.onHeld f).life = s.life := rfl
@[simp] theorem State.onHeld_loader (f : Bool → Bool) : (s.onHeld f).loader = s.loader := rfl
@[simp] theorem State.onHeld_pic (f : Bool → Bool) : (s.onHeld f).pic = s.pic := rfl
@[simp] theorem State.onHeld_input (f : Bool → Bool) : (s.onHeld f).input = s.input := rfl
@[simp] theorem State.onHeld_cond (f : Bool → Bool) : (s.onHeld f).cond = s.cond := rfl
@[simp] theorem State.onHeld_ann (f : Bool → Bool) : (s.onHeld f).ann = s.ann := rfl
@[simp] theorem State.onHeld_frame (f : Bool → Bool) : (s.onHeld f).frame = s.frame := rfl
@[simp] theorem State.onHeld_line (f : Bool → Bool) : (s.onHeld f).line = s.line := rfl
@[simp] theorem State.onHeld_out (f : Bool → Bool) : (s.onHeld f).out = s.out := rfl
@[simp] theorem State.onHeld_journal (f : Bool → Bool) : (s.onHeld f).journal = s.journal := rfl
@[simp] theorem State.onHeld_port (f : Bool → Bool) : (s.onHeld f).port = s.port := rfl
@[simp] theorem State.onHeld_report (f : Bool → Bool) : (s.onHeld f).report = s.report := rfl
@[simp] theorem State.onHeld_pending (f : Bool → Bool) : (s.onHeld f).pending = s.pending := rfl

@[simp] theorem State.onClock_held (f : Ms → Ms) : (s.onClock f).held = s.held := rfl
@[simp] theorem State.onClock_clock (f : Ms → Ms) : (s.onClock f).clock = f s.clock := rfl
@[simp] theorem State.onClock_pins (f : Ms → Ms) : (s.onClock f).pins = s.pins := rfl
@[simp] theorem State.onClock_settings (f : Ms → Ms) : (s.onClock f).settings = s.settings := rfl
@[simp] theorem State.onClock_life (f : Ms → Ms) : (s.onClock f).life = s.life := rfl
@[simp] theorem State.onClock_loader (f : Ms → Ms) : (s.onClock f).loader = s.loader := rfl
@[simp] theorem State.onClock_pic (f : Ms → Ms) : (s.onClock f).pic = s.pic := rfl
@[simp] theorem State.onClock_input (f : Ms → Ms) : (s.onClock f).input = s.input := rfl
@[simp] theorem State.onClock_cond (f : Ms → Ms) : (s.onClock f).cond = s.cond := rfl
@[simp] theorem State.onClock_ann (f : Ms → Ms) : (s.onClock f).ann = s.ann := rfl
@[simp] theorem State.onClock_frame (f : Ms → Ms) : (s.onClock f).frame = s.frame := rfl
@[simp] theorem State.onClock_line (f : Ms → Ms) : (s.onClock f).line = s.line := rfl
@[simp] theorem State.onClock_out (f : Ms → Ms) : (s.onClock f).out = s.out := rfl
@[simp] theorem State.onClock_journal (f : Ms → Ms) : (s.onClock f).journal = s.journal := rfl
@[simp] theorem State.onClock_port (f : Ms → Ms) : (s.onClock f).port = s.port := rfl
@[simp] theorem State.onClock_report (f : Ms → Ms) : (s.onClock f).report = s.report := rfl
@[simp] theorem State.onClock_pending (f : Ms → Ms) : (s.onClock f).pending = s.pending := rfl

@[simp] theorem State.onPins_held (f : Pins → Pins) : (s.onPins f).held = s.held := rfl
@[simp] theorem State.onPins_clock (f : Pins → Pins) : (s.onPins f).clock = s.clock := rfl
@[simp] theorem State.onPins_pins (f : Pins → Pins) : (s.onPins f).pins = f s.pins := rfl
@[simp] theorem State.onPins_settings (f : Pins → Pins) : (s.onPins f).settings = s.settings := rfl
@[simp] theorem State.onPins_life (f : Pins → Pins) : (s.onPins f).life = s.life := rfl
@[simp] theorem State.onPins_loader (f : Pins → Pins) : (s.onPins f).loader = s.loader := rfl
@[simp] theorem State.onPins_pic (f : Pins → Pins) : (s.onPins f).pic = s.pic := rfl
@[simp] theorem State.onPins_input (f : Pins → Pins) : (s.onPins f).input = s.input := rfl
@[simp] theorem State.onPins_cond (f : Pins → Pins) : (s.onPins f).cond = s.cond := rfl
@[simp] theorem State.onPins_ann (f : Pins → Pins) : (s.onPins f).ann = s.ann := rfl
@[simp] theorem State.onPins_frame (f : Pins → Pins) : (s.onPins f).frame = s.frame := rfl
@[simp] theorem State.onPins_line (f : Pins → Pins) : (s.onPins f).line = s.line := rfl
@[simp] theorem State.onPins_out (f : Pins → Pins) : (s.onPins f).out = s.out := rfl
@[simp] theorem State.onPins_journal (f : Pins → Pins) : (s.onPins f).journal = s.journal := rfl
@[simp] theorem State.onPins_port (f : Pins → Pins) : (s.onPins f).port = s.port := rfl
@[simp] theorem State.onPins_report (f : Pins → Pins) : (s.onPins f).report = s.report := rfl
@[simp] theorem State.onPins_pending (f : Pins → Pins) : (s.onPins f).pending = s.pending := rfl

@[simp] theorem State.onSettings_held (f : Settings → Settings) : (s.onSettings f).held = s.held := rfl
@[simp] theorem State.onSettings_clock (f : Settings → Settings) : (s.onSettings f).clock = s.clock := rfl
@[simp] theorem State.onSettings_pins (f : Settings → Settings) : (s.onSettings f).pins = s.pins := rfl
@[simp] theorem State.onSettings_settings (f : Settings → Settings) : (s.onSettings f).settings = f s.settings := rfl
@[simp] theorem State.onSettings_life (f : Settings → Settings) : (s.onSettings f).life = s.life := rfl
@[simp] theorem State.onSettings_loader (f : Settings → Settings) : (s.onSettings f).loader = s.loader := rfl
@[simp] theorem State.onSettings_pic (f : Settings → Settings) : (s.onSettings f).pic = s.pic := rfl
@[simp] theorem State.onSettings_input (f : Settings → Settings) : (s.onSettings f).input = s.input := rfl
@[simp] theorem State.onSettings_cond (f : Settings → Settings) : (s.onSettings f).cond = s.cond := rfl
@[simp] theorem State.onSettings_ann (f : Settings → Settings) : (s.onSettings f).ann = s.ann := rfl
@[simp] theorem State.onSettings_frame (f : Settings → Settings) : (s.onSettings f).frame = s.frame := rfl
@[simp] theorem State.onSettings_line (f : Settings → Settings) : (s.onSettings f).line = s.line := rfl
@[simp] theorem State.onSettings_out (f : Settings → Settings) : (s.onSettings f).out = s.out := rfl
@[simp] theorem State.onSettings_journal (f : Settings → Settings) : (s.onSettings f).journal = s.journal := rfl
@[simp] theorem State.onSettings_port (f : Settings → Settings) : (s.onSettings f).port = s.port := rfl
@[simp] theorem State.onSettings_report (f : Settings → Settings) : (s.onSettings f).report = s.report := rfl
@[simp] theorem State.onSettings_pending (f : Settings → Settings) : (s.onSettings f).pending = s.pending := rfl

@[simp] theorem State.onLife_held (f : LifeControl → LifeControl) : (s.onLife f).held = s.held := rfl
@[simp] theorem State.onLife_clock (f : LifeControl → LifeControl) : (s.onLife f).clock = s.clock := rfl
@[simp] theorem State.onLife_pins (f : LifeControl → LifeControl) : (s.onLife f).pins = s.pins := rfl
@[simp] theorem State.onLife_settings (f : LifeControl → LifeControl) : (s.onLife f).settings = s.settings := rfl
@[simp] theorem State.onLife_life (f : LifeControl → LifeControl) : (s.onLife f).life = f s.life := rfl
@[simp] theorem State.onLife_loader (f : LifeControl → LifeControl) : (s.onLife f).loader = s.loader := rfl
@[simp] theorem State.onLife_pic (f : LifeControl → LifeControl) : (s.onLife f).pic = s.pic := rfl
@[simp] theorem State.onLife_input (f : LifeControl → LifeControl) : (s.onLife f).input = s.input := rfl
@[simp] theorem State.onLife_cond (f : LifeControl → LifeControl) : (s.onLife f).cond = s.cond := rfl
@[simp] theorem State.onLife_ann (f : LifeControl → LifeControl) : (s.onLife f).ann = s.ann := rfl
@[simp] theorem State.onLife_frame (f : LifeControl → LifeControl) : (s.onLife f).frame = s.frame := rfl
@[simp] theorem State.onLife_line (f : LifeControl → LifeControl) : (s.onLife f).line = s.line := rfl
@[simp] theorem State.onLife_out (f : LifeControl → LifeControl) : (s.onLife f).out = s.out := rfl
@[simp] theorem State.onLife_journal (f : LifeControl → LifeControl) : (s.onLife f).journal = s.journal := rfl
@[simp] theorem State.onLife_port (f : LifeControl → LifeControl) : (s.onLife f).port = s.port := rfl
@[simp] theorem State.onLife_report (f : LifeControl → LifeControl) : (s.onLife f).report = s.report := rfl
@[simp] theorem State.onLife_pending (f : LifeControl → LifeControl) : (s.onLife f).pending = s.pending := rfl

@[simp] theorem State.onLoader_held (f : Loader → Loader) : (s.onLoader f).held = s.held := rfl
@[simp] theorem State.onLoader_clock (f : Loader → Loader) : (s.onLoader f).clock = s.clock := rfl
@[simp] theorem State.onLoader_pins (f : Loader → Loader) : (s.onLoader f).pins = s.pins := rfl
@[simp] theorem State.onLoader_settings (f : Loader → Loader) : (s.onLoader f).settings = s.settings := rfl
@[simp] theorem State.onLoader_life (f : Loader → Loader) : (s.onLoader f).life = s.life := rfl
@[simp] theorem State.onLoader_loader (f : Loader → Loader) : (s.onLoader f).loader = f s.loader := rfl
@[simp] theorem State.onLoader_pic (f : Loader → Loader) : (s.onLoader f).pic = s.pic := rfl
@[simp] theorem State.onLoader_input (f : Loader → Loader) : (s.onLoader f).input = s.input := rfl
@[simp] theorem State.onLoader_cond (f : Loader → Loader) : (s.onLoader f).cond = s.cond := rfl
@[simp] theorem State.onLoader_ann (f : Loader → Loader) : (s.onLoader f).ann = s.ann := rfl
@[simp] theorem State.onLoader_frame (f : Loader → Loader) : (s.onLoader f).frame = s.frame := rfl
@[simp] theorem State.onLoader_line (f : Loader → Loader) : (s.onLoader f).line = s.line := rfl
@[simp] theorem State.onLoader_out (f : Loader → Loader) : (s.onLoader f).out = s.out := rfl
@[simp] theorem State.onLoader_journal (f : Loader → Loader) : (s.onLoader f).journal = s.journal := rfl
@[simp] theorem State.onLoader_port (f : Loader → Loader) : (s.onLoader f).port = s.port := rfl
@[simp] theorem State.onLoader_report (f : Loader → Loader) : (s.onLoader f).report = s.report := rfl
@[simp] theorem State.onLoader_pending (f : Loader → Loader) : (s.onLoader f).pending = s.pending := rfl

@[simp] theorem State.onPic_held (f : Picture → Picture) : (s.onPic f).held = s.held := rfl
@[simp] theorem State.onPic_clock (f : Picture → Picture) : (s.onPic f).clock = s.clock := rfl
@[simp] theorem State.onPic_pins (f : Picture → Picture) : (s.onPic f).pins = s.pins := rfl
@[simp] theorem State.onPic_settings (f : Picture → Picture) : (s.onPic f).settings = s.settings := rfl
@[simp] theorem State.onPic_life (f : Picture → Picture) : (s.onPic f).life = s.life := rfl
@[simp] theorem State.onPic_loader (f : Picture → Picture) : (s.onPic f).loader = s.loader := rfl
@[simp] theorem State.onPic_pic (f : Picture → Picture) : (s.onPic f).pic = f s.pic := rfl
@[simp] theorem State.onPic_input (f : Picture → Picture) : (s.onPic f).input = s.input := rfl
@[simp] theorem State.onPic_cond (f : Picture → Picture) : (s.onPic f).cond = s.cond := rfl
@[simp] theorem State.onPic_ann (f : Picture → Picture) : (s.onPic f).ann = s.ann := rfl
@[simp] theorem State.onPic_frame (f : Picture → Picture) : (s.onPic f).frame = s.frame := rfl
@[simp] theorem State.onPic_line (f : Picture → Picture) : (s.onPic f).line = s.line := rfl
@[simp] theorem State.onPic_out (f : Picture → Picture) : (s.onPic f).out = s.out := rfl
@[simp] theorem State.onPic_journal (f : Picture → Picture) : (s.onPic f).journal = s.journal := rfl
@[simp] theorem State.onPic_port (f : Picture → Picture) : (s.onPic f).port = s.port := rfl
@[simp] theorem State.onPic_report (f : Picture → Picture) : (s.onPic f).report = s.report := rfl
@[simp] theorem State.onPic_pending (f : Picture → Picture) : (s.onPic f).pending = s.pending := rfl

@[simp] theorem State.onInput_held (f : PointUnit → PointUnit) : (s.onInput f).held = s.held := rfl
@[simp] theorem State.onInput_clock (f : PointUnit → PointUnit) : (s.onInput f).clock = s.clock := rfl
@[simp] theorem State.onInput_pins (f : PointUnit → PointUnit) : (s.onInput f).pins = s.pins := rfl
@[simp] theorem State.onInput_settings (f : PointUnit → PointUnit) : (s.onInput f).settings = s.settings := rfl
@[simp] theorem State.onInput_life (f : PointUnit → PointUnit) : (s.onInput f).life = s.life := rfl
@[simp] theorem State.onInput_loader (f : PointUnit → PointUnit) : (s.onInput f).loader = s.loader := rfl
@[simp] theorem State.onInput_pic (f : PointUnit → PointUnit) : (s.onInput f).pic = s.pic := rfl
@[simp] theorem State.onInput_input (f : PointUnit → PointUnit) : (s.onInput f).input = f s.input := rfl
@[simp] theorem State.onInput_cond (f : PointUnit → PointUnit) : (s.onInput f).cond = s.cond := rfl
@[simp] theorem State.onInput_ann (f : PointUnit → PointUnit) : (s.onInput f).ann = s.ann := rfl
@[simp] theorem State.onInput_frame (f : PointUnit → PointUnit) : (s.onInput f).frame = s.frame := rfl
@[simp] theorem State.onInput_line (f : PointUnit → PointUnit) : (s.onInput f).line = s.line := rfl
@[simp] theorem State.onInput_out (f : PointUnit → PointUnit) : (s.onInput f).out = s.out := rfl
@[simp] theorem State.onInput_journal (f : PointUnit → PointUnit) : (s.onInput f).journal = s.journal := rfl
@[simp] theorem State.onInput_port (f : PointUnit → PointUnit) : (s.onInput f).port = s.port := rfl
@[simp] theorem State.onInput_report (f : PointUnit → PointUnit) : (s.onInput f).report = s.report := rfl
@[simp] theorem State.onInput_pending (f : PointUnit → PointUnit) : (s.onInput f).pending = s.pending := rfl

@[simp] theorem State.onCond_held (f : CondUnit → CondUnit) : (s.onCond f).held = s.held := rfl
@[simp] theorem State.onCond_clock (f : CondUnit → CondUnit) : (s.onCond f).clock = s.clock := rfl
@[simp] theorem State.onCond_pins (f : CondUnit → CondUnit) : (s.onCond f).pins = s.pins := rfl
@[simp] theorem State.onCond_settings (f : CondUnit → CondUnit) : (s.onCond f).settings = s.settings := rfl
@[simp] theorem State.onCond_life (f : CondUnit → CondUnit) : (s.onCond f).life = s.life := rfl
@[simp] theorem State.onCond_loader (f : CondUnit → CondUnit) : (s.onCond f).loader = s.loader := rfl
@[simp] theorem State.onCond_pic (f : CondUnit → CondUnit) : (s.onCond f).pic = s.pic := rfl
@[simp] theorem State.onCond_input (f : CondUnit → CondUnit) : (s.onCond f).input = s.input := rfl
@[simp] theorem State.onCond_cond (f : CondUnit → CondUnit) : (s.onCond f).cond = f s.cond := rfl
@[simp] theorem State.onCond_ann (f : CondUnit → CondUnit) : (s.onCond f).ann = s.ann := rfl
@[simp] theorem State.onCond_frame (f : CondUnit → CondUnit) : (s.onCond f).frame = s.frame := rfl
@[simp] theorem State.onCond_line (f : CondUnit → CondUnit) : (s.onCond f).line = s.line := rfl
@[simp] theorem State.onCond_out (f : CondUnit → CondUnit) : (s.onCond f).out = s.out := rfl
@[simp] theorem State.onCond_journal (f : CondUnit → CondUnit) : (s.onCond f).journal = s.journal := rfl
@[simp] theorem State.onCond_port (f : CondUnit → CondUnit) : (s.onCond f).port = s.port := rfl
@[simp] theorem State.onCond_report (f : CondUnit → CondUnit) : (s.onCond f).report = s.report := rfl
@[simp] theorem State.onCond_pending (f : CondUnit → CondUnit) : (s.onCond f).pending = s.pending := rfl

@[simp] theorem State.onAnn_held (f : AnnUnit → AnnUnit) : (s.onAnn f).held = s.held := rfl
@[simp] theorem State.onAnn_clock (f : AnnUnit → AnnUnit) : (s.onAnn f).clock = s.clock := rfl
@[simp] theorem State.onAnn_pins (f : AnnUnit → AnnUnit) : (s.onAnn f).pins = s.pins := rfl
@[simp] theorem State.onAnn_settings (f : AnnUnit → AnnUnit) : (s.onAnn f).settings = s.settings := rfl
@[simp] theorem State.onAnn_life (f : AnnUnit → AnnUnit) : (s.onAnn f).life = s.life := rfl
@[simp] theorem State.onAnn_loader (f : AnnUnit → AnnUnit) : (s.onAnn f).loader = s.loader := rfl
@[simp] theorem State.onAnn_pic (f : AnnUnit → AnnUnit) : (s.onAnn f).pic = s.pic := rfl
@[simp] theorem State.onAnn_input (f : AnnUnit → AnnUnit) : (s.onAnn f).input = s.input := rfl
@[simp] theorem State.onAnn_cond (f : AnnUnit → AnnUnit) : (s.onAnn f).cond = s.cond := rfl
@[simp] theorem State.onAnn_ann (f : AnnUnit → AnnUnit) : (s.onAnn f).ann = f s.ann := rfl
@[simp] theorem State.onAnn_frame (f : AnnUnit → AnnUnit) : (s.onAnn f).frame = s.frame := rfl
@[simp] theorem State.onAnn_line (f : AnnUnit → AnnUnit) : (s.onAnn f).line = s.line := rfl
@[simp] theorem State.onAnn_out (f : AnnUnit → AnnUnit) : (s.onAnn f).out = s.out := rfl
@[simp] theorem State.onAnn_journal (f : AnnUnit → AnnUnit) : (s.onAnn f).journal = s.journal := rfl
@[simp] theorem State.onAnn_port (f : AnnUnit → AnnUnit) : (s.onAnn f).port = s.port := rfl
@[simp] theorem State.onAnn_report (f : AnnUnit → AnnUnit) : (s.onAnn f).report = s.report := rfl
@[simp] theorem State.onAnn_pending (f : AnnUnit → AnnUnit) : (s.onAnn f).pending = s.pending := rfl

@[simp] theorem State.onFrame_held (f : FrameUnit → FrameUnit) : (s.onFrame f).held = s.held := rfl
@[simp] theorem State.onFrame_clock (f : FrameUnit → FrameUnit) : (s.onFrame f).clock = s.clock := rfl
@[simp] theorem State.onFrame_pins (f : FrameUnit → FrameUnit) : (s.onFrame f).pins = s.pins := rfl
@[simp] theorem State.onFrame_settings (f : FrameUnit → FrameUnit) : (s.onFrame f).settings = s.settings := rfl
@[simp] theorem State.onFrame_life (f : FrameUnit → FrameUnit) : (s.onFrame f).life = s.life := rfl
@[simp] theorem State.onFrame_loader (f : FrameUnit → FrameUnit) : (s.onFrame f).loader = s.loader := rfl
@[simp] theorem State.onFrame_pic (f : FrameUnit → FrameUnit) : (s.onFrame f).pic = s.pic := rfl
@[simp] theorem State.onFrame_input (f : FrameUnit → FrameUnit) : (s.onFrame f).input = s.input := rfl
@[simp] theorem State.onFrame_cond (f : FrameUnit → FrameUnit) : (s.onFrame f).cond = s.cond := rfl
@[simp] theorem State.onFrame_ann (f : FrameUnit → FrameUnit) : (s.onFrame f).ann = s.ann := rfl
@[simp] theorem State.onFrame_frame (f : FrameUnit → FrameUnit) : (s.onFrame f).frame = f s.frame := rfl
@[simp] theorem State.onFrame_line (f : FrameUnit → FrameUnit) : (s.onFrame f).line = s.line := rfl
@[simp] theorem State.onFrame_out (f : FrameUnit → FrameUnit) : (s.onFrame f).out = s.out := rfl
@[simp] theorem State.onFrame_journal (f : FrameUnit → FrameUnit) : (s.onFrame f).journal = s.journal := rfl
@[simp] theorem State.onFrame_port (f : FrameUnit → FrameUnit) : (s.onFrame f).port = s.port := rfl
@[simp] theorem State.onFrame_report (f : FrameUnit → FrameUnit) : (s.onFrame f).report = s.report := rfl
@[simp] theorem State.onFrame_pending (f : FrameUnit → FrameUnit) : (s.onFrame f).pending = s.pending := rfl

@[simp] theorem State.onLine_held (f : LineUnit → LineUnit) : (s.onLine f).held = s.held := rfl
@[simp] theorem State.onLine_clock (f : LineUnit → LineUnit) : (s.onLine f).clock = s.clock := rfl
@[simp] theorem State.onLine_pins (f : LineUnit → LineUnit) : (s.onLine f).pins = s.pins := rfl
@[simp] theorem State.onLine_settings (f : LineUnit → LineUnit) : (s.onLine f).settings = s.settings := rfl
@[simp] theorem State.onLine_life (f : LineUnit → LineUnit) : (s.onLine f).life = s.life := rfl
@[simp] theorem State.onLine_loader (f : LineUnit → LineUnit) : (s.onLine f).loader = s.loader := rfl
@[simp] theorem State.onLine_pic (f : LineUnit → LineUnit) : (s.onLine f).pic = s.pic := rfl
@[simp] theorem State.onLine_input (f : LineUnit → LineUnit) : (s.onLine f).input = s.input := rfl
@[simp] theorem State.onLine_cond (f : LineUnit → LineUnit) : (s.onLine f).cond = s.cond := rfl
@[simp] theorem State.onLine_ann (f : LineUnit → LineUnit) : (s.onLine f).ann = s.ann := rfl
@[simp] theorem State.onLine_frame (f : LineUnit → LineUnit) : (s.onLine f).frame = s.frame := rfl
@[simp] theorem State.onLine_line (f : LineUnit → LineUnit) : (s.onLine f).line = f s.line := rfl
@[simp] theorem State.onLine_out (f : LineUnit → LineUnit) : (s.onLine f).out = s.out := rfl
@[simp] theorem State.onLine_journal (f : LineUnit → LineUnit) : (s.onLine f).journal = s.journal := rfl
@[simp] theorem State.onLine_port (f : LineUnit → LineUnit) : (s.onLine f).port = s.port := rfl
@[simp] theorem State.onLine_report (f : LineUnit → LineUnit) : (s.onLine f).report = s.report := rfl
@[simp] theorem State.onLine_pending (f : LineUnit → LineUnit) : (s.onLine f).pending = s.pending := rfl

@[simp] theorem State.onOut_held (f : OutputUnit → OutputUnit) : (s.onOut f).held = s.held := rfl
@[simp] theorem State.onOut_clock (f : OutputUnit → OutputUnit) : (s.onOut f).clock = s.clock := rfl
@[simp] theorem State.onOut_pins (f : OutputUnit → OutputUnit) : (s.onOut f).pins = s.pins := rfl
@[simp] theorem State.onOut_settings (f : OutputUnit → OutputUnit) : (s.onOut f).settings = s.settings := rfl
@[simp] theorem State.onOut_life (f : OutputUnit → OutputUnit) : (s.onOut f).life = s.life := rfl
@[simp] theorem State.onOut_loader (f : OutputUnit → OutputUnit) : (s.onOut f).loader = s.loader := rfl
@[simp] theorem State.onOut_pic (f : OutputUnit → OutputUnit) : (s.onOut f).pic = s.pic := rfl
@[simp] theorem State.onOut_input (f : OutputUnit → OutputUnit) : (s.onOut f).input = s.input := rfl
@[simp] theorem State.onOut_cond (f : OutputUnit → OutputUnit) : (s.onOut f).cond = s.cond := rfl
@[simp] theorem State.onOut_ann (f : OutputUnit → OutputUnit) : (s.onOut f).ann = s.ann := rfl
@[simp] theorem State.onOut_frame (f : OutputUnit → OutputUnit) : (s.onOut f).frame = s.frame := rfl
@[simp] theorem State.onOut_line (f : OutputUnit → OutputUnit) : (s.onOut f).line = s.line := rfl
@[simp] theorem State.onOut_out (f : OutputUnit → OutputUnit) : (s.onOut f).out = f s.out := rfl
@[simp] theorem State.onOut_journal (f : OutputUnit → OutputUnit) : (s.onOut f).journal = s.journal := rfl
@[simp] theorem State.onOut_port (f : OutputUnit → OutputUnit) : (s.onOut f).port = s.port := rfl
@[simp] theorem State.onOut_report (f : OutputUnit → OutputUnit) : (s.onOut f).report = s.report := rfl
@[simp] theorem State.onOut_pending (f : OutputUnit → OutputUnit) : (s.onOut f).pending = s.pending := rfl

@[simp] theorem State.onJournal_held (f : Journal → Journal) : (s.onJournal f).held = s.held := rfl
@[simp] theorem State.onJournal_clock (f : Journal → Journal) : (s.onJournal f).clock = s.clock := rfl
@[simp] theorem State.onJournal_pins (f : Journal → Journal) : (s.onJournal f).pins = s.pins := rfl
@[simp] theorem State.onJournal_settings (f : Journal → Journal) : (s.onJournal f).settings = s.settings := rfl
@[simp] theorem State.onJournal_life (f : Journal → Journal) : (s.onJournal f).life = s.life := rfl
@[simp] theorem State.onJournal_loader (f : Journal → Journal) : (s.onJournal f).loader = s.loader := rfl
@[simp] theorem State.onJournal_pic (f : Journal → Journal) : (s.onJournal f).pic = s.pic := rfl
@[simp] theorem State.onJournal_input (f : Journal → Journal) : (s.onJournal f).input = s.input := rfl
@[simp] theorem State.onJournal_cond (f : Journal → Journal) : (s.onJournal f).cond = s.cond := rfl
@[simp] theorem State.onJournal_ann (f : Journal → Journal) : (s.onJournal f).ann = s.ann := rfl
@[simp] theorem State.onJournal_frame (f : Journal → Journal) : (s.onJournal f).frame = s.frame := rfl
@[simp] theorem State.onJournal_line (f : Journal → Journal) : (s.onJournal f).line = s.line := rfl
@[simp] theorem State.onJournal_out (f : Journal → Journal) : (s.onJournal f).out = s.out := rfl
@[simp] theorem State.onJournal_journal (f : Journal → Journal) : (s.onJournal f).journal = f s.journal := rfl
@[simp] theorem State.onJournal_port (f : Journal → Journal) : (s.onJournal f).port = s.port := rfl
@[simp] theorem State.onJournal_report (f : Journal → Journal) : (s.onJournal f).report = s.report := rfl
@[simp] theorem State.onJournal_pending (f : Journal → Journal) : (s.onJournal f).pending = s.pending := rfl

@[simp] theorem State.onPort_held (f : Port → Port) : (s.onPort f).held = s.held := rfl
@[simp] theorem State.onPort_clock (f : Port → Port) : (s.onPort f).clock = s.clock := rfl
@[simp] theorem State.onPort_pins (f : Port → Port) : (s.onPort f).pins = s.pins := rfl
@[simp] theorem State.onPort_settings (f : Port → Port) : (s.onPort f).settings = s.settings := rfl
@[simp] theorem State.onPort_life (f : Port → Port) : (s.onPort f).life = s.life := rfl
@[simp] theorem State.onPort_loader (f : Port → Port) : (s.onPort f).loader = s.loader := rfl
@[simp] theorem State.onPort_pic (f : Port → Port) : (s.onPort f).pic = s.pic := rfl
@[simp] theorem State.onPort_input (f : Port → Port) : (s.onPort f).input = s.input := rfl
@[simp] theorem State.onPort_cond (f : Port → Port) : (s.onPort f).cond = s.cond := rfl
@[simp] theorem State.onPort_ann (f : Port → Port) : (s.onPort f).ann = s.ann := rfl
@[simp] theorem State.onPort_frame (f : Port → Port) : (s.onPort f).frame = s.frame := rfl
@[simp] theorem State.onPort_line (f : Port → Port) : (s.onPort f).line = s.line := rfl
@[simp] theorem State.onPort_out (f : Port → Port) : (s.onPort f).out = s.out := rfl
@[simp] theorem State.onPort_journal (f : Port → Port) : (s.onPort f).journal = s.journal := rfl
@[simp] theorem State.onPort_port (f : Port → Port) : (s.onPort f).port = f s.port := rfl
@[simp] theorem State.onPort_report (f : Port → Port) : (s.onPort f).report = s.report := rfl
@[simp] theorem State.onPort_pending (f : Port → Port) : (s.onPort f).pending = s.pending := rfl

@[simp] theorem State.onReport_held (f : ReportUnit → ReportUnit) : (s.onReport f).held = s.held := rfl
@[simp] theorem State.onReport_clock (f : ReportUnit → ReportUnit) : (s.onReport f).clock = s.clock := rfl
@[simp] theorem State.onReport_pins (f : ReportUnit → ReportUnit) : (s.onReport f).pins = s.pins := rfl
@[simp] theorem State.onReport_settings (f : ReportUnit → ReportUnit) : (s.onReport f).settings = s.settings := rfl
@[simp] theorem State.onReport_life (f : ReportUnit → ReportUnit) : (s.onReport f).life = s.life := rfl
@[simp] theorem State.onReport_loader (f : ReportUnit → ReportUnit) : (s.onReport f).loader = s.loader := rfl
@[simp] theorem State.onReport_pic (f : ReportUnit → ReportUnit) : (s.onReport f).pic = s.pic := rfl
@[simp] theorem State.onReport_input (f : ReportUnit → ReportUnit) : (s.onReport f).input = s.input := rfl
@[simp] theorem State.onReport_cond (f : ReportUnit → ReportUnit) : (s.onReport f).cond = s.cond := rfl
@[simp] theorem State.onReport_ann (f : ReportUnit → ReportUnit) : (s.onReport f).ann = s.ann := rfl
@[simp] theorem State.onReport_frame (f : ReportUnit → ReportUnit) : (s.onReport f).frame = s.frame := rfl
@[simp] theorem State.onReport_line (f : ReportUnit → ReportUnit) : (s.onReport f).line = s.line := rfl
@[simp] theorem State.onReport_out (f : ReportUnit → ReportUnit) : (s.onReport f).out = s.out := rfl
@[simp] theorem State.onReport_journal (f : ReportUnit → ReportUnit) : (s.onReport f).journal = s.journal := rfl
@[simp] theorem State.onReport_port (f : ReportUnit → ReportUnit) : (s.onReport f).port = s.port := rfl
@[simp] theorem State.onReport_report (f : ReportUnit → ReportUnit) : (s.onReport f).report = f s.report := rfl
@[simp] theorem State.onReport_pending (f : ReportUnit → ReportUnit) : (s.onReport f).pending = s.pending := rfl

end Machine

end Sys2Proof
end

