-- ==== Sys2Proof/Laws/Keeps.lean ====
section
/-!
SUPPORT. What each shared operation leaves as it was.
-/

namespace Sys2Proof

namespace Machine

variable (s : State)

/-- A fold whose every step keeps a part of the state keeps it. -/
theorem foldl_keeps {α β γ : Type} {f : α → β → α} (g : α → γ) (h : ∀ a b, g (f a b) = g a) (l : List β) (a : α) :
    g (l.foldl f a) = g a := by
  induction l generalizing a with
  | nil => rfl
  | cons b l ih => rw [List.foldl_cons, ih, h]

@[simp] theorem Journal.append_window (j : Journal) (r : Record) : (j.append r).window = j.window := by
  unfold Journal.append; split <;> rfl

@[simp] theorem Journal.driveAttn_keeps (j : Journal) (e : Bool) :
    (j.driveAttn e).records = j.records ∧ (j.driveAttn e).lost = j.lost ∧
    (j.driveAttn e).overflowPending = j.overflowPending ∧ (j.driveAttn e).window = j.window :=
  ⟨rfl, rfl, rfl, rfl⟩

@[simp] theorem LifeControl.driveSfault_keeps (l : LifeControl) :
    l.driveSfault.life = l.life ∧ l.driveSfault.fault = l.fault ∧ l.driveSfault.stn = l.stn ∧
    l.driveSfault.source = l.source ∧ l.driveSfault.listen = l.listen ∧ l.driveSfault.withdraw = l.withdraw ∧
    l.driveSfault.withdrawFor = l.withdrawFor ∧ l.driveSfault.lineStuck = l.lineStuck ∧
    l.driveSfault.draws = l.draws :=
  ⟨rfl, rfl, rfl, rfl, rfl, rfl, rfl, rfl, rfl⟩

@[simp] theorem Picture.setPoint_keeps (pic : Picture) (st : Station) (p : PointIx) (e : PointEntry) :
    (pic.setPoint st p e).roster = pic.roster ∧ (pic.setPoint st p e).conds = pic.conds := ⟨rfl, rfl⟩

@[simp] theorem Picture.setCond_keeps (pic : Picture) (st : Station) (c : CondIx) (e : CondEntry) :
    (pic.setCond st c e).roster = pic.roster ∧ (pic.setCond st c e).points = pic.points := ⟨rfl, rfl⟩

@[simp] theorem Picture.setRoster_keeps (pic : Picture) (st : Station) (r : RosterEntry) :
    (pic.setRoster st r).points = pic.points ∧ (pic.setRoster st r).conds = pic.conds := ⟨rfl, rfl⟩

@[simp] theorem State.setLife_life (f : LifeControl → LifeControl) :
    (s.setLife f).life = (f s.life).driveSfault := rfl

@[simp] theorem State.setLife_keeps (f : LifeControl → LifeControl) :
    (s.setLife f).held = s.held ∧ (s.setLife f).clock = s.clock ∧ (s.setLife f).pins = s.pins ∧
    (s.setLife f).settings = s.settings ∧ (s.setLife f).loader = s.loader ∧ (s.setLife f).pic = s.pic ∧
    (s.setLife f).input = s.input ∧ (s.setLife f).cond = s.cond ∧ (s.setLife f).ann = s.ann ∧
    (s.setLife f).frame = s.frame ∧ (s.setLife f).line = s.line ∧ (s.setLife f).out = s.out ∧
    (s.setLife f).journal = s.journal ∧ (s.setLife f).port = s.port ∧ (s.setLife f).report = s.report ∧
    (s.setLife f).pending = s.pending := by
  simp [State.setLife]

@[simp] theorem State.setClock_keeps (t : Ms) :
    (s.setClock t).held = s.held ∧ (s.setClock t).pins = s.pins ∧ (s.setClock t).settings = s.settings ∧
    (s.setClock t).life = s.life ∧ (s.setClock t).loader = s.loader ∧ (s.setClock t).pic = s.pic ∧
    (s.setClock t).input = s.input ∧ (s.setClock t).cond = s.cond ∧ (s.setClock t).ann = s.ann ∧
    (s.setClock t).frame = s.frame ∧ (s.setClock t).line = s.line ∧ (s.setClock t).out.levels = s.out.levels ∧
    (s.setClock t).out.horn = s.out.horn ∧ (s.setClock t).out.testLevel = s.out.testLevel ∧
    (s.setClock t).out.lampTest = s.out.lampTest ∧ (s.setClock t).out.latch = s.out.latch ∧
    (s.setClock t).journal = s.journal ∧ (s.setClock t).port = s.port ∧ (s.setClock t).report = s.report ∧
    (s.setClock t).pending = s.pending := by
  simp [State.setClock]

@[simp] theorem State.reachTime_keeps (due : Ms) :
    (s.reachTime due).held = s.held ∧ (s.reachTime due).pins = s.pins ∧ (s.reachTime due).settings = s.settings ∧
    (s.reachTime due).life = s.life ∧ (s.reachTime due).loader = s.loader ∧ (s.reachTime due).pic = s.pic ∧
    (s.reachTime due).input = s.input ∧ (s.reachTime due).cond = s.cond ∧ (s.reachTime due).ann = s.ann ∧
    (s.reachTime due).frame = s.frame ∧ (s.reachTime due).line = s.line ∧
    (s.reachTime due).out.levels = s.out.levels ∧ (s.reachTime due).out.horn = s.out.horn ∧
    (s.reachTime due).out.testLevel = s.out.testLevel ∧ (s.reachTime due).out.lampTest = s.out.lampTest ∧
    (s.reachTime due).out.latch = s.out.latch ∧ (s.reachTime due).journal = s.journal ∧
    (s.reachTime due).port = s.port ∧ (s.reachTime due).report = s.report ∧ (s.reachTime due).pending = s.pending := by
  simp only [State.reachTime]
  (repeat' split); all_goals simp

@[simp] theorem State.driveOutputs_keeps :
    (s.driveOutputs).held = s.held ∧ (s.driveOutputs).clock = s.clock ∧ (s.driveOutputs).pins = s.pins ∧
    (s.driveOutputs).settings = s.settings ∧ (s.driveOutputs).life = s.life ∧ (s.driveOutputs).loader = s.loader ∧
    (s.driveOutputs).pic = s.pic ∧ (s.driveOutputs).input = s.input ∧ (s.driveOutputs).cond = s.cond ∧
    (s.driveOutputs).ann = s.ann ∧ (s.driveOutputs).frame = s.frame ∧ (s.driveOutputs).line = s.line ∧
    (s.driveOutputs).out.phase = s.out.phase ∧ (s.driveOutputs).out.testLevel = s.out.testLevel ∧
    (s.driveOutputs).out.lampTest = s.out.lampTest ∧ (s.driveOutputs).out.latch = s.out.latch ∧
    (s.driveOutputs).journal = s.journal ∧ (s.driveOutputs).port = s.port ∧ (s.driveOutputs).report = s.report ∧
    (s.driveOutputs).pending = s.pending := by
  simp [State.driveOutputs]

@[simp] theorem State.tick_keeps :
    (s.tick).held = s.held ∧ (s.tick).pins = s.pins ∧ (s.tick).settings = s.settings ∧ (s.tick).life = s.life ∧
    (s.tick).loader = s.loader ∧ (s.tick).pic = s.pic ∧ (s.tick).input = s.input ∧ (s.tick).cond = s.cond ∧
    (s.tick).ann = s.ann ∧ (s.tick).frame = s.frame ∧ (s.tick).line = s.line ∧
    (s.tick).out.testLevel = s.out.testLevel ∧ (s.tick).out.lampTest = s.out.lampTest ∧
    (s.tick).out.latch = s.out.latch ∧ (s.tick).journal = s.journal ∧ (s.tick).port = s.port ∧
    (s.tick).report = s.report ∧ (s.tick).pending = s.pending := by
  simp only [State.tick]
  (repeat' split); all_goals simp

@[simp] theorem State.record_keeps (b : RecordBody) :
    (s.record b).held = s.held ∧ (s.record b).clock = s.clock ∧ (s.record b).pins = s.pins ∧
    (s.record b).settings = s.settings ∧ (s.record b).life = s.life ∧ (s.record b).loader = s.loader ∧
    (s.record b).pic = s.pic ∧ (s.record b).input = s.input ∧ (s.record b).cond = s.cond ∧ (s.record b).ann = s.ann ∧
    (s.record b).frame = s.frame ∧ (s.record b).line = s.line ∧ (s.record b).out = s.out ∧
    (s.record b).journal.window = s.journal.window ∧ (s.record b).port = s.port ∧ (s.record b).report = s.report ∧
    (s.record b).pending = s.pending := by
  simp only [State.record]
  (repeat' split); all_goals simp

@[simp] theorem State.notice_keeps (i : Notice) :
    (s.notice i).held = s.held ∧ (s.notice i).clock = s.clock ∧ (s.notice i).pins = s.pins ∧
    (s.notice i).settings = s.settings ∧ (s.notice i).life = s.life ∧ (s.notice i).loader = s.loader ∧
    (s.notice i).pic = s.pic ∧ (s.notice i).input = s.input ∧ (s.notice i).cond.run = s.cond.run ∧
    (s.notice i).ann = s.ann ∧ (s.notice i).frame = s.frame ∧ (s.notice i).line = s.line ∧ (s.notice i).out = s.out ∧
    (s.notice i).journal = s.journal ∧ (s.notice i).port = s.port ∧ (s.notice i).report = s.report ∧
    (s.notice i).pending = s.pending := by
  simp [State.notice]

@[simp] theorem State.noticeCond_keeps (st : Station) (c : CondIx) (before after : CondEntry) :
    (s.noticeCond st c before after).held = s.held ∧ (s.noticeCond st c before after).clock = s.clock ∧
    (s.noticeCond st c before after).pins = s.pins ∧ (s.noticeCond st c before after).settings = s.settings ∧
    (s.noticeCond st c before after).life = s.life ∧ (s.noticeCond st c before after).loader = s.loader ∧
    (s.noticeCond st c before after).pic = s.pic ∧ (s.noticeCond st c before after).input = s.input ∧
    (s.noticeCond st c before after).cond.run = s.cond.run ∧
    (s.noticeCond st c before after).ann.seqTruth = s.ann.seqTruth ∧
    (s.noticeCond st c before after).ann.edges = s.ann.edges ∧
    (s.noticeCond st c before after).ann.requests = s.ann.requests ∧
    (s.noticeCond st c before after).ann.attention = s.ann.attention ∧
    (s.noticeCond st c before after).frame = s.frame ∧ (s.noticeCond st c before after).line = s.line ∧
    (s.noticeCond st c before after).out = s.out ∧ (s.noticeCond st c before after).journal = s.journal ∧
    (s.noticeCond st c before after).port = s.port ∧ (s.noticeCond st c before after).report = s.report ∧
    (s.noticeCond st c before after).pending = s.pending := by
  simp only [State.noticeCond]
  (repeat' split); all_goals simp

@[simp] theorem State.writePoint_keeps (st : Station) (p : PointIx) (e : PointEntry) :
    (s.writePoint st p e).held = s.held ∧ (s.writePoint st p e).clock = s.clock ∧
    (s.writePoint st p e).pins = s.pins ∧ (s.writePoint st p e).settings = s.settings ∧
    (s.writePoint st p e).life = s.life ∧ (s.writePoint st p e).loader = s.loader ∧
    (s.writePoint st p e).pic.roster = s.pic.roster ∧ (s.writePoint st p e).pic.conds = s.pic.conds ∧
    (s.writePoint st p e).input = s.input ∧ (s.writePoint st p e).cond.run = s.cond.run ∧
    (s.writePoint st p e).ann = s.ann ∧ (s.writePoint st p e).frame = s.frame ∧ (s.writePoint st p e).line = s.line ∧
    (s.writePoint st p e).out = s.out ∧ (s.writePoint st p e).journal = s.journal ∧
    (s.writePoint st p e).port = s.port ∧ (s.writePoint st p e).report = s.report ∧
    (s.writePoint st p e).pending = s.pending := by
  simp only [State.writePoint]
  (repeat' split); all_goals simp

@[simp] theorem State.writeCond_keeps (st : Station) (c : CondIx) (e : CondEntry) :
    (s.writeCond st c e).held = s.held ∧ (s.writeCond st c e).clock = s.clock ∧ (s.writeCond st c e).pins = s.pins ∧
    (s.writeCond st c e).settings = s.settings ∧ (s.writeCond st c e).life = s.life ∧
    (s.writeCond st c e).loader = s.loader ∧ (s.writeCond st c e).pic.roster = s.pic.roster ∧
    (s.writeCond st c e).pic.points = s.pic.points ∧ (s.writeCond st c e).input = s.input ∧
    (s.writeCond st c e).cond.run = s.cond.run ∧ (s.writeCond st c e).ann.seqTruth = s.ann.seqTruth ∧
    (s.writeCond st c e).ann.edges = s.ann.edges ∧ (s.writeCond st c e).ann.requests = s.ann.requests ∧
    (s.writeCond st c e).ann.attention = s.ann.attention ∧ (s.writeCond st c e).frame = s.frame ∧
    (s.writeCond st c e).line = s.line ∧ (s.writeCond st c e).out = s.out ∧ (s.writeCond st c e).journal = s.journal ∧
    (s.writeCond st c e).port = s.port ∧ (s.writeCond st c e).report = s.report ∧
    (s.writeCond st c e).pending = s.pending := by
  simp only [State.writeCond]
  (repeat' split); all_goals simp

@[simp] theorem State.writeRoster_keeps (st : Station) (r : RosterEntry) :
    (s.writeRoster st r).held = s.held ∧ (s.writeRoster st r).clock = s.clock ∧ (s.writeRoster st r).pins = s.pins ∧
    (s.writeRoster st r).settings = s.settings ∧ (s.writeRoster st r).life = s.life ∧
    (s.writeRoster st r).loader = s.loader ∧ (s.writeRoster st r).pic.points = s.pic.points ∧
    (s.writeRoster st r).pic.conds = s.pic.conds ∧ (s.writeRoster st r).input = s.input ∧
    (s.writeRoster st r).cond.run = s.cond.run ∧ (s.writeRoster st r).ann = s.ann ∧
    (s.writeRoster st r).frame = s.frame ∧ (s.writeRoster st r).line = s.line ∧ (s.writeRoster st r).out = s.out ∧
    (s.writeRoster st r).journal = s.journal ∧ (s.writeRoster st r).port = s.port ∧
    (s.writeRoster st r).report = s.report ∧ (s.writeRoster st r).pending = s.pending := by
  simp only [State.writeRoster]
  (repeat' split); all_goals simp

@[simp] theorem State.requestUrgent_keeps :
    (s.requestUrgent).held = s.held ∧ (s.requestUrgent).clock = s.clock ∧ (s.requestUrgent).pins = s.pins ∧
    (s.requestUrgent).settings = s.settings ∧ (s.requestUrgent).life = s.life ∧ (s.requestUrgent).loader = s.loader ∧
    (s.requestUrgent).pic = s.pic ∧ (s.requestUrgent).input = s.input ∧ (s.requestUrgent).cond = s.cond ∧
    (s.requestUrgent).ann = s.ann ∧ (s.requestUrgent).frame.nextSeq = s.frame.nextSeq ∧
    (s.requestUrgent).frame.first = s.frame.first ∧ (s.requestUrgent).frame.refresh = s.frame.refresh ∧
    (s.requestUrgent).frame.discarded = s.frame.discarded ∧ (s.requestUrgent).line = s.line ∧
    (s.requestUrgent).out = s.out ∧ (s.requestUrgent).journal = s.journal ∧ (s.requestUrgent).port = s.port ∧
    (s.requestUrgent).report = s.report ∧ (s.requestUrgent).pending = s.pending := by
  simp only [State.requestUrgent]
  (repeat' split); all_goals simp

@[simp] theorem State.requestRoutine_keeps :
    (s.requestRoutine).held = s.held ∧ (s.requestRoutine).clock = s.clock ∧ (s.requestRoutine).pins = s.pins ∧
    (s.requestRoutine).settings = s.settings ∧ (s.requestRoutine).life = s.life ∧
    (s.requestRoutine).loader = s.loader ∧ (s.requestRoutine).pic = s.pic ∧ (s.requestRoutine).input = s.input ∧
    (s.requestRoutine).cond = s.cond ∧ (s.requestRoutine).ann = s.ann ∧
    (s.requestRoutine).frame.nextSeq = s.frame.nextSeq ∧ (s.requestRoutine).frame.first = s.frame.first ∧
    (s.requestRoutine).frame.refresh = s.frame.refresh ∧ (s.requestRoutine).frame.discarded = s.frame.discarded ∧
    (s.requestRoutine).line = s.line ∧ (s.requestRoutine).out = s.out ∧ (s.requestRoutine).journal = s.journal ∧
    (s.requestRoutine).port = s.port ∧ (s.requestRoutine).report = s.report ∧ (s.requestRoutine).pending = s.pending := by
  simp only [State.requestRoutine]
  (repeat' split); all_goals simp

@[simp] theorem State.queueAckreq_keeps (i : ReqIx) :
    (s.queueAckreq i).held = s.held ∧ (s.queueAckreq i).clock = s.clock ∧ (s.queueAckreq i).pins = s.pins ∧
    (s.queueAckreq i).settings = s.settings ∧ (s.queueAckreq i).life = s.life ∧ (s.queueAckreq i).loader = s.loader ∧
    (s.queueAckreq i).pic = s.pic ∧ (s.queueAckreq i).input = s.input ∧ (s.queueAckreq i).cond = s.cond ∧
    (s.queueAckreq i).ann = s.ann ∧ (s.queueAckreq i).frame.nextSeq = s.frame.nextSeq ∧
    (s.queueAckreq i).frame.first = s.frame.first ∧ (s.queueAckreq i).frame.refresh = s.frame.refresh ∧
    (s.queueAckreq i).frame.discarded = s.frame.discarded ∧ (s.queueAckreq i).line = s.line ∧
    (s.queueAckreq i).out = s.out ∧ (s.queueAckreq i).journal = s.journal ∧ (s.queueAckreq i).port = s.port ∧
    (s.queueAckreq i).report = s.report ∧ (s.queueAckreq i).pending = s.pending := by
  simp [State.queueAckreq]

@[simp] theorem State.raiseDiscarded_keeps :
    (s.raiseDiscarded).held = s.held ∧ (s.raiseDiscarded).clock = s.clock ∧ (s.raiseDiscarded).pins = s.pins ∧
    (s.raiseDiscarded).settings = s.settings ∧ (s.raiseDiscarded).life = s.life ∧
    (s.raiseDiscarded).loader = s.loader ∧ (s.raiseDiscarded).pic = s.pic ∧ (s.raiseDiscarded).input = s.input ∧
    (s.raiseDiscarded).cond = s.cond ∧ (s.raiseDiscarded).ann = s.ann ∧
    (s.raiseDiscarded).frame.queue = s.frame.queue ∧ (s.raiseDiscarded).frame.nextSeq = s.frame.nextSeq ∧
    (s.raiseDiscarded).frame.first = s.frame.first ∧ (s.raiseDiscarded).frame.refresh = s.frame.refresh ∧
    (s.raiseDiscarded).line = s.line ∧ (s.raiseDiscarded).out = s.out ∧ (s.raiseDiscarded).journal = s.journal ∧
    (s.raiseDiscarded).port = s.port ∧ (s.raiseDiscarded).report = s.report ∧ (s.raiseDiscarded).pending = s.pending := by
  simp [State.raiseDiscarded]

@[simp] theorem State.setRequest_keeps (i : ReqIx) (r : Option Request) :
    (s.setRequest i r).held = s.held ∧ (s.setRequest i r).clock = s.clock ∧ (s.setRequest i r).pins = s.pins ∧
    (s.setRequest i r).settings = s.settings ∧ (s.setRequest i r).life = s.life ∧
    (s.setRequest i r).loader = s.loader ∧ (s.setRequest i r).pic = s.pic ∧ (s.setRequest i r).input = s.input ∧
    (s.setRequest i r).cond = s.cond ∧ (s.setRequest i r).ann.seqTruth = s.ann.seqTruth ∧
    (s.setRequest i r).ann.edges = s.ann.edges ∧ (s.setRequest i r).ann.clears = s.ann.clears ∧
    (s.setRequest i r).ann.attention = s.ann.attention ∧ (s.setRequest i r).frame = s.frame ∧
    (s.setRequest i r).line = s.line ∧ (s.setRequest i r).out = s.out ∧ (s.setRequest i r).journal = s.journal ∧
    (s.setRequest i r).port = s.port ∧ (s.setRequest i r).report = s.report ∧ (s.setRequest i r).pending = s.pending := by
  simp [State.setRequest]

@[simp] theorem State.freeRequest_keeps (i : ReqIx) :
    (s.freeRequest i).held = s.held ∧ (s.freeRequest i).clock = s.clock ∧ (s.freeRequest i).pins = s.pins ∧
    (s.freeRequest i).settings = s.settings ∧ (s.freeRequest i).life = s.life ∧ (s.freeRequest i).loader = s.loader ∧
    (s.freeRequest i).pic = s.pic ∧ (s.freeRequest i).input = s.input ∧ (s.freeRequest i).cond = s.cond ∧
    (s.freeRequest i).ann.seqTruth = s.ann.seqTruth ∧ (s.freeRequest i).ann.edges = s.ann.edges ∧
    (s.freeRequest i).ann.clears = s.ann.clears ∧ (s.freeRequest i).ann.attention = s.ann.attention ∧
    (s.freeRequest i).frame.nextSeq = s.frame.nextSeq ∧ (s.freeRequest i).frame.first = s.frame.first ∧
    (s.freeRequest i).frame.refresh = s.frame.refresh ∧ (s.freeRequest i).frame.discarded = s.frame.discarded ∧
    (s.freeRequest i).line = s.line ∧ (s.freeRequest i).out = s.out ∧ (s.freeRequest i).journal = s.journal ∧
    (s.freeRequest i).port = s.port ∧ (s.freeRequest i).report = s.report ∧ (s.freeRequest i).pending = s.pending := by
  simp [State.freeRequest]

@[simp] theorem State.failRequest_keeps (i : ReqIx) :
    (s.failRequest i).held = s.held ∧ (s.failRequest i).clock = s.clock ∧ (s.failRequest i).pins = s.pins ∧
    (s.failRequest i).settings = s.settings ∧ (s.failRequest i).life = s.life ∧ (s.failRequest i).loader = s.loader ∧
    (s.failRequest i).pic = s.pic ∧ (s.failRequest i).input = s.input ∧ (s.failRequest i).cond = s.cond ∧
    (s.failRequest i).ann.seqTruth = s.ann.seqTruth ∧ (s.failRequest i).ann.edges = s.ann.edges ∧
    (s.failRequest i).ann.clears = s.ann.clears ∧ (s.failRequest i).ann.attention = s.ann.attention ∧
    (s.failRequest i).frame.nextSeq = s.frame.nextSeq ∧ (s.failRequest i).frame.first = s.frame.first ∧
    (s.failRequest i).frame.refresh = s.frame.refresh ∧ (s.failRequest i).frame.discarded = s.frame.discarded ∧
    (s.failRequest i).line = s.line ∧ (s.failRequest i).out = s.out ∧
    (s.failRequest i).journal.window = s.journal.window ∧ (s.failRequest i).port = s.port ∧
    (s.failRequest i).report = s.report ∧ (s.failRequest i).pending = s.pending := by
  simp only [State.failRequest]
  (repeat' split); all_goals simp

@[simp] theorem State.failTarget_keeps (st : Station) :
    (s.failTarget st).held = s.held ∧ (s.failTarget st).clock = s.clock ∧ (s.failTarget st).pins = s.pins ∧
    (s.failTarget st).settings = s.settings ∧ (s.failTarget st).life = s.life ∧ (s.failTarget st).loader = s.loader ∧
    (s.failTarget st).pic = s.pic ∧ (s.failTarget st).input = s.input ∧ (s.failTarget st).cond = s.cond ∧
    (s.failTarget st).ann.seqTruth = s.ann.seqTruth ∧ (s.failTarget st).ann.edges = s.ann.edges ∧
    (s.failTarget st).ann.clears = s.ann.clears ∧ (s.failTarget st).ann.attention = s.ann.attention ∧
    (s.failTarget st).frame.nextSeq = s.frame.nextSeq ∧ (s.failTarget st).frame.first = s.frame.first ∧
    (s.failTarget st).frame.refresh = s.frame.refresh ∧ (s.failTarget st).frame.discarded = s.frame.discarded ∧
    (s.failTarget st).line = s.line ∧ (s.failTarget st).out = s.out ∧
    (s.failTarget st).journal.window = s.journal.window ∧ (s.failTarget st).port = s.port ∧
    (s.failTarget st).report = s.report ∧ (s.failTarget st).pending = s.pending := by
  simp only [State.failTarget]
  (repeat' split); all_goals simp

@[simp] theorem State.failAll_keeps :
    (s.failAll).held = s.held ∧ (s.failAll).clock = s.clock ∧ (s.failAll).pins = s.pins ∧
    (s.failAll).settings = s.settings ∧ (s.failAll).life = s.life ∧ (s.failAll).loader = s.loader ∧
    (s.failAll).pic = s.pic ∧ (s.failAll).input = s.input ∧ (s.failAll).cond = s.cond ∧
    (s.failAll).ann.seqTruth = s.ann.seqTruth ∧ (s.failAll).ann.edges = s.ann.edges ∧
    (s.failAll).ann.clears = s.ann.clears ∧ (s.failAll).ann.attention = s.ann.attention ∧
    (s.failAll).frame.nextSeq = s.frame.nextSeq ∧ (s.failAll).frame.first = s.frame.first ∧
    (s.failAll).frame.refresh = s.frame.refresh ∧ (s.failAll).frame.discarded = s.frame.discarded ∧
    (s.failAll).line = s.line ∧ (s.failAll).out = s.out ∧ (s.failAll).journal.window = s.journal.window ∧
    (s.failAll).port = s.port ∧ (s.failAll).report = s.report ∧ (s.failAll).pending = s.pending := by
  unfold State.failAll
  refine ⟨?_, ?_, ?_, ?_, ?_, ?_, ?_, ?_, ?_, ?_, ?_, ?_, ?_, ?_, ?_, ?_, ?_, ?_, ?_, ?_, ?_, ?_, ?_⟩
  · exact foldl_keeps (fun t : State => t.held) (fun t x => by (try dsimp only); (repeat' split); all_goals simp) _ _
  · exact foldl_keeps (fun t : State => t.clock) (fun t x => by (try dsimp only); (repeat' split); all_goals simp) _ _
  · exact foldl_keeps (fun t : State => t.pins) (fun t x => by (try dsimp only); (repeat' split); all_goals simp) _ _
  · exact foldl_keeps (fun t : State => t.settings) (fun t x => by (try dsimp only); (repeat' split); all_goals simp) _ _
  · exact foldl_keeps (fun t : State => t.life) (fun t x => by (try dsimp only); (repeat' split); all_goals simp) _ _
  · exact foldl_keeps (fun t : State => t.loader) (fun t x => by (try dsimp only); (repeat' split); all_goals simp) _ _
  · exact foldl_keeps (fun t : State => t.pic) (fun t x => by (try dsimp only); (repeat' split); all_goals simp) _ _
  · exact foldl_keeps (fun t : State => t.input) (fun t x => by (try dsimp only); (repeat' split); all_goals simp) _ _
  · exact foldl_keeps (fun t : State => t.cond) (fun t x => by (try dsimp only); (repeat' split); all_goals simp) _ _
  · exact foldl_keeps (fun t : State => t.ann.seqTruth) (fun t x => by (try dsimp only); (repeat' split); all_goals simp) _ _
  · exact foldl_keeps (fun t : State => t.ann.edges) (fun t x => by (try dsimp only); (repeat' split); all_goals simp) _ _
  · exact foldl_keeps (fun t : State => t.ann.clears) (fun t x => by (try dsimp only); (repeat' split); all_goals simp) _ _
  · exact foldl_keeps (fun t : State => t.ann.attention) (fun t x => by (try dsimp only); (repeat' split); all_goals simp) _ _
  · exact foldl_keeps (fun t : State => t.frame.nextSeq) (fun t x => by (try dsimp only); (repeat' split); all_goals simp) _ _
  · exact foldl_keeps (fun t : State => t.frame.first) (fun t x => by (try dsimp only); (repeat' split); all_goals simp) _ _
  · exact foldl_keeps (fun t : State => t.frame.refresh) (fun t x => by (try dsimp only); (repeat' split); all_goals simp) _ _
  · exact foldl_keeps (fun t : State => t.frame.discarded) (fun t x => by (try dsimp only); (repeat' split); all_goals simp) _ _
  · exact foldl_keeps (fun t : State => t.line) (fun t x => by (try dsimp only); (repeat' split); all_goals simp) _ _
  · exact foldl_keeps (fun t : State => t.out) (fun t x => by (try dsimp only); (repeat' split); all_goals simp) _ _
  · exact foldl_keeps (fun t : State => t.journal.window) (fun t x => by (try dsimp only); (repeat' split); all_goals simp) _ _
  · exact foldl_keeps (fun t : State => t.port) (fun t x => by (try dsimp only); (repeat' split); all_goals simp) _ _
  · exact foldl_keeps (fun t : State => t.report) (fun t x => by (try dsimp only); (repeat' split); all_goals simp) _ _
  · exact foldl_keeps (fun t : State => t.pending) (fun t x => by (try dsimp only); (repeat' split); all_goals simp) _ _

@[simp] theorem State.handRequest_keeps (st : Station) (m : BitVec 8) (pairs : Tab 8 AckPair) :
    (s.handRequest st m pairs).held = s.held ∧ (s.handRequest st m pairs).clock = s.clock ∧
    (s.handRequest st m pairs).pins = s.pins ∧ (s.handRequest st m pairs).settings = s.settings ∧
    (s.handRequest st m pairs).life = s.life ∧ (s.handRequest st m pairs).loader = s.loader ∧
    (s.handRequest st m pairs).pic = s.pic ∧ (s.handRequest st m pairs).input = s.input ∧
    (s.handRequest st m pairs).cond = s.cond ∧ (s.handRequest st m pairs).ann.seqTruth = s.ann.seqTruth ∧
    (s.handRequest st m pairs).ann.edges = s.ann.edges ∧ (s.handRequest st m pairs).ann.clears = s.ann.clears ∧
    (s.handRequest st m pairs).ann.attention = s.ann.attention ∧
    (s.handRequest st m pairs).frame.nextSeq = s.frame.nextSeq ∧
    (s.handRequest st m pairs).frame.first = s.frame.first ∧
    (s.handRequest st m pairs).frame.refresh = s.frame.refresh ∧
    (s.handRequest st m pairs).frame.discarded = s.frame.discarded ∧ (s.handRequest st m pairs).line = s.line ∧
    (s.handRequest st m pairs).out = s.out ∧ (s.handRequest st m pairs).journal.window = s.journal.window ∧
    (s.handRequest st m pairs).port = s.port ∧ (s.handRequest st m pairs).report = s.report ∧
    (s.handRequest st m pairs).pending = s.pending := by
  simp only [State.handRequest]
  (repeat' split); all_goals simp

@[simp] theorem State.resolveRequest_keeps (st : Station) (first : Bool) :
    (s.resolveRequest st first).held = s.held ∧ (s.resolveRequest st first).clock = s.clock ∧
    (s.resolveRequest st first).pins = s.pins ∧ (s.resolveRequest st first).settings = s.settings ∧
    (s.resolveRequest st first).life = s.life ∧ (s.resolveRequest st first).loader = s.loader ∧
    (s.resolveRequest st first).pic = s.pic ∧ (s.resolveRequest st first).input = s.input ∧
    (s.resolveRequest st first).cond = s.cond ∧ (s.resolveRequest st first).ann.seqTruth = s.ann.seqTruth ∧
    (s.resolveRequest st first).ann.edges = s.ann.edges ∧ (s.resolveRequest st first).ann.clears = s.ann.clears ∧
    (s.resolveRequest st first).ann.attention = s.ann.attention ∧
    (s.resolveRequest st first).frame.nextSeq = s.frame.nextSeq ∧
    (s.resolveRequest st first).frame.first = s.frame.first ∧
    (s.resolveRequest st first).frame.refresh = s.frame.refresh ∧
    (s.resolveRequest st first).frame.discarded = s.frame.discarded ∧ (s.resolveRequest st first).line = s.line ∧
    (s.resolveRequest st first).out = s.out ∧ (s.resolveRequest st first).journal = s.journal ∧
    (s.resolveRequest st first).port = s.port ∧ (s.resolveRequest st first).report = s.report ∧
    (s.resolveRequest st first).pending = s.pending := by
  simp only [State.resolveRequest]
  (repeat' split); all_goals simp

@[simp] theorem State.onRequestOf_keeps (k : EntryKind) (f : Request → Request) :
    (s.onRequestOf k f).held = s.held ∧ (s.onRequestOf k f).clock = s.clock ∧ (s.onRequestOf k f).pins = s.pins ∧
    (s.onRequestOf k f).settings = s.settings ∧ (s.onRequestOf k f).life = s.life ∧
    (s.onRequestOf k f).loader = s.loader ∧ (s.onRequestOf k f).pic = s.pic ∧ (s.onRequestOf k f).input = s.input ∧
    (s.onRequestOf k f).cond = s.cond ∧ (s.onRequestOf k f).ann.seqTruth = s.ann.seqTruth ∧
    (s.onRequestOf k f).ann.edges = s.ann.edges ∧ (s.onRequestOf k f).ann.clears = s.ann.clears ∧
    (s.onRequestOf k f).ann.attention = s.ann.attention ∧ (s.onRequestOf k f).frame = s.frame ∧
    (s.onRequestOf k f).line = s.line ∧ (s.onRequestOf k f).out = s.out ∧ (s.onRequestOf k f).journal = s.journal ∧
    (s.onRequestOf k f).port = s.port ∧ (s.onRequestOf k f).report = s.report ∧
    (s.onRequestOf k f).pending = s.pending := by
  simp only [State.onRequestOf]
  (repeat' split); all_goals simp

@[simp] theorem State.startTransmission_keeps :
    (s.startTransmission).held = s.held ∧ (s.startTransmission).clock = s.clock ∧
    (s.startTransmission).pins = s.pins ∧ (s.startTransmission).settings = s.settings ∧
    (s.startTransmission).life = s.life ∧ (s.startTransmission).loader = s.loader ∧
    (s.startTransmission).pic = s.pic ∧ (s.startTransmission).input = s.input ∧ (s.startTransmission).cond = s.cond ∧
    (s.startTransmission).ann.seqTruth = s.ann.seqTruth ∧ (s.startTransmission).ann.edges = s.ann.edges ∧
    (s.startTransmission).ann.clears = s.ann.clears ∧ (s.startTransmission).ann.attention = s.ann.attention ∧
    (s.startTransmission).frame.nextSeq = s.frame.nextSeq ∧ (s.startTransmission).frame.first = s.frame.first ∧
    (s.startTransmission).frame.refresh = s.frame.refresh ∧
    (s.startTransmission).frame.discarded = s.frame.discarded ∧ (s.startTransmission).line.w = s.line.w ∧
    (s.startTransmission).line.blind = s.line.blind ∧ (s.startTransmission).line.collisions = s.line.collisions ∧
    (s.startTransmission).line.jam = s.line.jam ∧ (s.startTransmission).line.nextSlot = s.line.nextSlot ∧
    (s.startTransmission).out = s.out ∧ (s.startTransmission).journal = s.journal ∧
    (s.startTransmission).port = s.port ∧ (s.startTransmission).report = s.report ∧
    (s.startTransmission).pending = s.pending := by
  simp only [State.startTransmission]
  (repeat' split); all_goals simp

@[simp] theorem State.quietStart_keeps :
    (s.quietStart).held = s.held ∧ (s.quietStart).clock = s.clock ∧ (s.quietStart).pins = s.pins ∧
    (s.quietStart).settings = s.settings ∧ (s.quietStart).life = s.life ∧ (s.quietStart).loader = s.loader ∧
    (s.quietStart).pic = s.pic ∧ (s.quietStart).input = s.input ∧ (s.quietStart).cond = s.cond ∧
    (s.quietStart).ann.seqTruth = s.ann.seqTruth ∧ (s.quietStart).ann.edges = s.ann.edges ∧
    (s.quietStart).ann.clears = s.ann.clears ∧ (s.quietStart).ann.attention = s.ann.attention ∧
    (s.quietStart).frame.nextSeq = s.frame.nextSeq ∧ (s.quietStart).frame.first = s.frame.first ∧
    (s.quietStart).frame.refresh = s.frame.refresh ∧ (s.quietStart).frame.discarded = s.frame.discarded ∧
    (s.quietStart).line.w = s.line.w ∧ (s.quietStart).line.blind = s.line.blind ∧
    (s.quietStart).line.collisions = s.line.collisions ∧ (s.quietStart).line.jam = s.line.jam ∧
    (s.quietStart).line.nextSlot = s.line.nextSlot ∧ (s.quietStart).out = s.out ∧ (s.quietStart).journal = s.journal ∧
    (s.quietStart).port = s.port ∧ (s.quietStart).report = s.report ∧ (s.quietStart).pending = s.pending := by
  simp only [State.quietStart]
  (repeat' split); all_goals simp

@[simp] theorem State.settle_keeps :
    (s.settle).held = s.held ∧ (s.settle).clock = s.clock ∧ (s.settle).pins = s.pins ∧
    (s.settle).settings = s.settings ∧ (s.settle).life = s.life ∧ (s.settle).loader = s.loader ∧
    (s.settle).pic = s.pic ∧ (s.settle).input = s.input ∧ (s.settle).cond = s.cond ∧
    (s.settle).ann.seqTruth = s.ann.seqTruth ∧ (s.settle).ann.edges = s.ann.edges ∧
    (s.settle).ann.clears = s.ann.clears ∧ (s.settle).ann.attention = s.ann.attention ∧
    (s.settle).frame.nextSeq = s.frame.nextSeq ∧ (s.settle).frame.first = s.frame.first ∧
    (s.settle).frame.refresh = s.frame.refresh ∧ (s.settle).frame.discarded = s.frame.discarded ∧
    (s.settle).line.w = s.line.w ∧ (s.settle).line.blind = s.line.blind ∧
    (s.settle).line.collisions = s.line.collisions ∧ (s.settle).line.jam = s.line.jam ∧
    (s.settle).line.nextSlot = s.line.nextSlot ∧ (s.settle).out.phase = s.out.phase ∧
    (s.settle).out.testLevel = s.out.testLevel ∧ (s.settle).out.lampTest = s.out.lampTest ∧
    (s.settle).out.latch = s.out.latch ∧ (s.settle).journal = s.journal ∧ (s.settle).port = s.port ∧
    (s.settle).report = s.report ∧ (s.settle).pending = s.pending := by
  simp [State.settle]

@[simp] theorem State.breakOff_keeps :
    (s.breakOff).held = s.held ∧ (s.breakOff).clock = s.clock ∧ (s.breakOff).pins = s.pins ∧
    (s.breakOff).settings = s.settings ∧ (s.breakOff).life = s.life ∧ (s.breakOff).loader = s.loader ∧
    (s.breakOff).pic = s.pic ∧ (s.breakOff).input = s.input ∧ (s.breakOff).cond = s.cond ∧
    (s.breakOff).ann.seqTruth = s.ann.seqTruth ∧ (s.breakOff).ann.edges = s.ann.edges ∧
    (s.breakOff).ann.clears = s.ann.clears ∧ (s.breakOff).ann.attention = s.ann.attention ∧
    (s.breakOff).frame.nextSeq = s.frame.nextSeq ∧ (s.breakOff).frame.first = s.frame.first ∧
    (s.breakOff).frame.refresh = s.frame.refresh ∧ (s.breakOff).frame.discarded = s.frame.discarded ∧
    (s.breakOff).line.state = s.line.state ∧ (s.breakOff).line.w = s.line.w ∧ (s.breakOff).line.blind = s.line.blind ∧
    (s.breakOff).line.slot = s.line.slot ∧ (s.breakOff).line.collisions = s.line.collisions ∧
    (s.breakOff).line.rx = s.line.rx ∧ (s.breakOff).line.jam = s.line.jam ∧
    (s.breakOff).line.nextSlot = s.line.nextSlot ∧ (s.breakOff).out = s.out ∧ (s.breakOff).journal = s.journal ∧
    (s.breakOff).port = s.port ∧ (s.breakOff).report = s.report ∧ (s.breakOff).pending = s.pending := by
  simp only [State.breakOff]
  (repeat' split); all_goals simp

@[simp] theorem State.completeState_keeps (changed : Bool) :
    (s.completeState changed).held = s.held ∧ (s.completeState changed).clock = s.clock ∧
    (s.completeState changed).pins = s.pins ∧ (s.completeState changed).settings = s.settings ∧
    (s.completeState changed).life = s.life ∧ (s.completeState changed).loader = s.loader ∧
    (s.completeState changed).pic = s.pic ∧ (s.completeState changed).input = s.input ∧
    (s.completeState changed).cond = s.cond ∧ (s.completeState changed).ann = s.ann ∧
    (s.completeState changed).frame.discarded = s.frame.discarded ∧ (s.completeState changed).line = s.line ∧
    (s.completeState changed).out = s.out ∧ (s.completeState changed).journal = s.journal ∧
    (s.completeState changed).port = s.port ∧ (s.completeState changed).report = s.report ∧
    (s.completeState changed).pending = s.pending := by
  simp [State.completeState]

@[simp] theorem State.completeAckreq_keeps (i : ReqIx) :
    (s.completeAckreq i).held = s.held ∧ (s.completeAckreq i).clock = s.clock ∧ (s.completeAckreq i).pins = s.pins ∧
    (s.completeAckreq i).settings = s.settings ∧ (s.completeAckreq i).life = s.life ∧
    (s.completeAckreq i).loader = s.loader ∧ (s.completeAckreq i).pic = s.pic ∧ (s.completeAckreq i).input = s.input ∧
    (s.completeAckreq i).cond = s.cond ∧ (s.completeAckreq i).ann.seqTruth = s.ann.seqTruth ∧
    (s.completeAckreq i).ann.edges = s.ann.edges ∧ (s.completeAckreq i).ann.clears = s.ann.clears ∧
    (s.completeAckreq i).ann.attention = s.ann.attention ∧ (s.completeAckreq i).frame.nextSeq = s.frame.nextSeq ∧
    (s.completeAckreq i).frame.first = s.frame.first ∧ (s.completeAckreq i).frame.refresh = s.frame.refresh ∧
    (s.completeAckreq i).frame.discarded = s.frame.discarded ∧ (s.completeAckreq i).line = s.line ∧
    (s.completeAckreq i).out = s.out ∧ (s.completeAckreq i).journal = s.journal ∧ (s.completeAckreq i).port = s.port ∧
    (s.completeAckreq i).report = s.report ∧ (s.completeAckreq i).pending = s.pending := by
  simp only [State.completeAckreq]
  (repeat' split); all_goals simp

@[simp] theorem State.complete_keeps :
    (s.complete).held = s.held ∧ (s.complete).clock = s.clock ∧ (s.complete).pins = s.pins ∧
    (s.complete).settings = s.settings ∧ (s.complete).life = s.life ∧ (s.complete).loader = s.loader ∧
    (s.complete).pic = s.pic ∧ (s.complete).input = s.input ∧ (s.complete).cond = s.cond ∧
    (s.complete).ann.seqTruth = s.ann.seqTruth ∧ (s.complete).ann.edges = s.ann.edges ∧
    (s.complete).ann.clears = s.ann.clears ∧ (s.complete).ann.attention = s.ann.attention ∧
    (s.complete).frame.discarded = s.frame.discarded ∧ (s.complete).line = s.line ∧ (s.complete).out = s.out ∧
    (s.complete).journal = s.journal ∧ (s.complete).port = s.port ∧ (s.complete).report = s.report ∧
    (s.complete).pending = s.pending := by
  simp only [State.complete]
  (repeat' split); all_goals simp

@[simp] theorem State.startReport_keeps :
    (s.startReport).held = s.held ∧ (s.startReport).clock = s.clock ∧ (s.startReport).pins = s.pins ∧
    (s.startReport).settings = s.settings ∧ (s.startReport).life = s.life ∧ (s.startReport).loader = s.loader ∧
    (s.startReport).pic = s.pic ∧ (s.startReport).input = s.input ∧ (s.startReport).cond = s.cond ∧
    (s.startReport).ann = s.ann ∧ (s.startReport).frame = s.frame ∧ (s.startReport).line = s.line ∧
    (s.startReport).out = s.out ∧ (s.startReport).journal = s.journal ∧ (s.startReport).port = s.port ∧
    (s.startReport).pending = s.pending := by
  simp only [State.startReport]
  (repeat' split); all_goals simp

@[simp] theorem State.addJob_keeps (j : Job) :
    (s.addJob j).held = s.held ∧ (s.addJob j).clock = s.clock ∧ (s.addJob j).pins = s.pins ∧
    (s.addJob j).settings = s.settings ∧ (s.addJob j).life = s.life ∧ (s.addJob j).loader = s.loader ∧
    (s.addJob j).pic = s.pic ∧ (s.addJob j).input = s.input ∧ (s.addJob j).cond = s.cond ∧ (s.addJob j).ann = s.ann ∧
    (s.addJob j).frame = s.frame ∧ (s.addJob j).line = s.line ∧ (s.addJob j).out = s.out ∧
    (s.addJob j).journal.window = s.journal.window ∧ (s.addJob j).port = s.port ∧ (s.addJob j).pending = s.pending := by
  simp only [State.addJob]
  (repeat' split); all_goals simp

@[simp] theorem State.reportChange_keeps (c : CondIx) (new : AnnState) (g : Gen) :
    (s.reportChange c new g).held = s.held ∧ (s.reportChange c new g).clock = s.clock ∧
    (s.reportChange c new g).pins = s.pins ∧ (s.reportChange c new g).settings = s.settings ∧
    (s.reportChange c new g).life = s.life ∧ (s.reportChange c new g).loader = s.loader ∧
    (s.reportChange c new g).pic = s.pic ∧ (s.reportChange c new g).input = s.input ∧
    (s.reportChange c new g).cond = s.cond ∧ (s.reportChange c new g).ann = s.ann ∧
    (s.reportChange c new g).frame = s.frame ∧ (s.reportChange c new g).line = s.line ∧
    (s.reportChange c new g).out = s.out ∧ (s.reportChange c new g).journal.window = s.journal.window ∧
    (s.reportChange c new g).port = s.port ∧ (s.reportChange c new g).pending = s.pending := by
  simp only [State.reportChange]
  (repeat' split); all_goals simp

@[simp] theorem State.annChange_keeps (c : CondIx) (new : AnnState) :
    (s.annChange c new).held = s.held ∧ (s.annChange c new).clock = s.clock ∧ (s.annChange c new).pins = s.pins ∧
    (s.annChange c new).settings = s.settings ∧ (s.annChange c new).life = s.life ∧
    (s.annChange c new).loader = s.loader ∧ (s.annChange c new).pic.roster = s.pic.roster ∧
    (s.annChange c new).pic.points = s.pic.points ∧ (s.annChange c new).input = s.input ∧
    (s.annChange c new).cond.run = s.cond.run ∧ (s.annChange c new).ann.seqTruth = s.ann.seqTruth ∧
    (s.annChange c new).ann.edges = s.ann.edges ∧ (s.annChange c new).ann.requests = s.ann.requests ∧
    (s.annChange c new).ann.attention = s.ann.attention ∧ (s.annChange c new).frame.nextSeq = s.frame.nextSeq ∧
    (s.annChange c new).frame.first = s.frame.first ∧ (s.annChange c new).frame.refresh = s.frame.refresh ∧
    (s.annChange c new).frame.discarded = s.frame.discarded ∧ (s.annChange c new).line = s.line ∧
    (s.annChange c new).out = s.out ∧ (s.annChange c new).journal.window = s.journal.window ∧
    (s.annChange c new).port = s.port ∧ (s.annChange c new).pending = s.pending := by
  simp [State.annChange]

@[simp] theorem State.applyEdge_keeps (c : CondIx) (rising : Bool) :
    (s.applyEdge c rising).held = s.held ∧ (s.applyEdge c rising).clock = s.clock ∧
    (s.applyEdge c rising).pins = s.pins ∧ (s.applyEdge c rising).settings = s.settings ∧
    (s.applyEdge c rising).life = s.life ∧ (s.applyEdge c rising).loader = s.loader ∧
    (s.applyEdge c rising).pic.roster = s.pic.roster ∧ (s.applyEdge c rising).pic.points = s.pic.points ∧
    (s.applyEdge c rising).input = s.input ∧ (s.applyEdge c rising).cond.run = s.cond.run ∧
    (s.applyEdge c rising).ann.edges = s.ann.edges ∧ (s.applyEdge c rising).ann.requests = s.ann.requests ∧
    (s.applyEdge c rising).ann.attention = s.ann.attention ∧ (s.applyEdge c rising).frame.nextSeq = s.frame.nextSeq ∧
    (s.applyEdge c rising).frame.first = s.frame.first ∧ (s.applyEdge c rising).frame.refresh = s.frame.refresh ∧
    (s.applyEdge c rising).frame.discarded = s.frame.discarded ∧ (s.applyEdge c rising).line = s.line ∧
    (s.applyEdge c rising).out = s.out ∧ (s.applyEdge c rising).journal.window = s.journal.window ∧
    (s.applyEdge c rising).port = s.port ∧ (s.applyEdge c rising).pending = s.pending := by
  simp only [State.applyEdge]
  (repeat' split); all_goals simp

@[simp] theorem State.takeEdge_keeps (c : CondIx) :
    (s.takeEdge c).held = s.held ∧ (s.takeEdge c).clock = s.clock ∧ (s.takeEdge c).pins = s.pins ∧
    (s.takeEdge c).settings = s.settings ∧ (s.takeEdge c).life = s.life ∧ (s.takeEdge c).loader = s.loader ∧
    (s.takeEdge c).pic.roster = s.pic.roster ∧ (s.takeEdge c).pic.points = s.pic.points ∧
    (s.takeEdge c).input = s.input ∧ (s.takeEdge c).cond.run = s.cond.run ∧
    (s.takeEdge c).ann.requests = s.ann.requests ∧ (s.takeEdge c).ann.attention = s.ann.attention ∧
    (s.takeEdge c).frame.nextSeq = s.frame.nextSeq ∧ (s.takeEdge c).frame.first = s.frame.first ∧
    (s.takeEdge c).frame.refresh = s.frame.refresh ∧ (s.takeEdge c).frame.discarded = s.frame.discarded ∧
    (s.takeEdge c).line = s.line ∧ (s.takeEdge c).out = s.out ∧ (s.takeEdge c).journal.window = s.journal.window ∧
    (s.takeEdge c).port = s.port ∧ (s.takeEdge c).pending = s.pending := by
  simp only [State.takeEdge]
  (repeat' split); all_goals simp

@[simp] theorem State.applyAck_keeps (c : CondIx) (a : AckPair) :
    (s.applyAck c a).held = s.held ∧ (s.applyAck c a).clock = s.clock ∧ (s.applyAck c a).pins = s.pins ∧
    (s.applyAck c a).settings = s.settings ∧ (s.applyAck c a).life = s.life ∧ (s.applyAck c a).loader = s.loader ∧
    (s.applyAck c a).pic.roster = s.pic.roster ∧ (s.applyAck c a).pic.points = s.pic.points ∧
    (s.applyAck c a).input = s.input ∧ (s.applyAck c a).cond.run = s.cond.run ∧
    (s.applyAck c a).ann.seqTruth = s.ann.seqTruth ∧ (s.applyAck c a).ann.edges = s.ann.edges ∧
    (s.applyAck c a).ann.requests = s.ann.requests ∧ (s.applyAck c a).ann.attention = s.ann.attention ∧
    (s.applyAck c a).frame.nextSeq = s.frame.nextSeq ∧ (s.applyAck c a).frame.first = s.frame.first ∧
    (s.applyAck c a).frame.refresh = s.frame.refresh ∧ (s.applyAck c a).frame.discarded = s.frame.discarded ∧
    (s.applyAck c a).line = s.line ∧ (s.applyAck c a).out = s.out ∧
    (s.applyAck c a).journal.window = s.journal.window ∧ (s.applyAck c a).port = s.port ∧
    (s.applyAck c a).pending = s.pending := by
  simp only [State.applyAck]
  (repeat' split); all_goals simp

@[simp] theorem State.localAck_keeps (c : CondIx) :
    (s.localAck c).held = s.held ∧ (s.localAck c).clock = s.clock ∧ (s.localAck c).pins = s.pins ∧
    (s.localAck c).settings = s.settings ∧ (s.localAck c).life = s.life ∧ (s.localAck c).loader = s.loader ∧
    (s.localAck c).pic.roster = s.pic.roster ∧ (s.localAck c).pic.points = s.pic.points ∧
    (s.localAck c).input = s.input ∧ (s.localAck c).cond.run = s.cond.run ∧
    (s.localAck c).ann.seqTruth = s.ann.seqTruth ∧ (s.localAck c).ann.edges = s.ann.edges ∧
    (s.localAck c).ann.requests = s.ann.requests ∧ (s.localAck c).ann.attention = s.ann.attention ∧
    (s.localAck c).frame.nextSeq = s.frame.nextSeq ∧ (s.localAck c).frame.first = s.frame.first ∧
    (s.localAck c).frame.refresh = s.frame.refresh ∧ (s.localAck c).frame.discarded = s.frame.discarded ∧
    (s.localAck c).line = s.line ∧ (s.localAck c).out = s.out ∧ (s.localAck c).journal.window = s.journal.window ∧
    (s.localAck c).port = s.port ∧ (s.localAck c).pending = s.pending := by
  simp [State.localAck]

@[simp] theorem State.sendRequest_keeps (st : Station) (m : BitVec 8) (pairs : Tab 8 AckPair) :
    (s.sendRequest st m pairs).held = s.held ∧ (s.sendRequest st m pairs).clock = s.clock ∧
    (s.sendRequest st m pairs).pins = s.pins ∧ (s.sendRequest st m pairs).settings = s.settings ∧
    (s.sendRequest st m pairs).life = s.life ∧ (s.sendRequest st m pairs).loader = s.loader ∧
    (s.sendRequest st m pairs).pic = s.pic ∧ (s.sendRequest st m pairs).input = s.input ∧
    (s.sendRequest st m pairs).cond = s.cond ∧ (s.sendRequest st m pairs).ann.seqTruth = s.ann.seqTruth ∧
    (s.sendRequest st m pairs).ann.edges = s.ann.edges ∧ (s.sendRequest st m pairs).ann.clears = s.ann.clears ∧
    (s.sendRequest st m pairs).ann.attention = s.ann.attention ∧
    (s.sendRequest st m pairs).frame.nextSeq = s.frame.nextSeq ∧
    (s.sendRequest st m pairs).frame.first = s.frame.first ∧
    (s.sendRequest st m pairs).frame.refresh = s.frame.refresh ∧
    (s.sendRequest st m pairs).frame.discarded = s.frame.discarded ∧ (s.sendRequest st m pairs).line = s.line ∧
    (s.sendRequest st m pairs).out = s.out ∧ (s.sendRequest st m pairs).journal.window = s.journal.window ∧
    (s.sendRequest st m pairs).port = s.port ∧ (s.sendRequest st m pairs).report = s.report ∧
    (s.sendRequest st m pairs).pending = s.pending := by
  simp only [State.sendRequest]
  (repeat' split); all_goals simp

@[simp] theorem State.ackPress_keeps :
    (s.ackPress).held = s.held ∧ (s.ackPress).clock = s.clock ∧ (s.ackPress).pins = s.pins ∧
    (s.ackPress).settings = s.settings ∧ (s.ackPress).life = s.life ∧ (s.ackPress).loader = s.loader ∧
    (s.ackPress).pic.roster = s.pic.roster ∧ (s.ackPress).pic.points = s.pic.points ∧ (s.ackPress).input = s.input ∧
    (s.ackPress).cond.run = s.cond.run ∧ (s.ackPress).ann.seqTruth = s.ann.seqTruth ∧
    (s.ackPress).ann.edges = s.ann.edges ∧ (s.ackPress).ann.attention = s.ann.attention ∧
    (s.ackPress).frame.nextSeq = s.frame.nextSeq ∧ (s.ackPress).frame.first = s.frame.first ∧
    (s.ackPress).frame.refresh = s.frame.refresh ∧ (s.ackPress).frame.discarded = s.frame.discarded ∧
    (s.ackPress).line = s.line ∧ (s.ackPress).out = s.out ∧ (s.ackPress).journal.window = s.journal.window ∧
    (s.ackPress).port = s.port ∧ (s.ackPress).pending = s.pending := by
  simp only [State.ackPress]
  refine ⟨?_, ?_, ?_, ?_, ?_, ?_, ?_, ?_, ?_, ?_, ?_, ?_, ?_, ?_, ?_, ?_, ?_, ?_, ?_, ?_, ?_, ?_⟩
  · exact (foldl_keeps (fun t : State => t.held) (fun t x => by (try dsimp only); (repeat' split); all_goals simp) _ _).trans (foldl_keeps (fun t : State => t.held) (fun t x => by (try dsimp only); (repeat' split); all_goals simp) _ _)
  · exact (foldl_keeps (fun t : State => t.clock) (fun t x => by (try dsimp only); (repeat' split); all_goals simp) _ _).trans (foldl_keeps (fun t : State => t.clock) (fun t x => by (try dsimp only); (repeat' split); all_goals simp) _ _)
  · exact (foldl_keeps (fun t : State => t.pins) (fun t x => by (try dsimp only); (repeat' split); all_goals simp) _ _).trans (foldl_keeps (fun t : State => t.pins) (fun t x => by (try dsimp only); (repeat' split); all_goals simp) _ _)
  · exact (foldl_keeps (fun t : State => t.settings) (fun t x => by (try dsimp only); (repeat' split); all_goals simp) _ _).trans (foldl_keeps (fun t : State => t.settings) (fun t x => by (try dsimp only); (repeat' split); all_goals simp) _ _)
  · exact (foldl_keeps (fun t : State => t.life) (fun t x => by (try dsimp only); (repeat' split); all_goals simp) _ _).trans (foldl_keeps (fun t : State => t.life) (fun t x => by (try dsimp only); (repeat' split); all_goals simp) _ _)
  · exact (foldl_keeps (fun t : State => t.loader) (fun t x => by (try dsimp only); (repeat' split); all_goals simp) _ _).trans (foldl_keeps (fun t : State => t.loader) (fun t x => by (try dsimp only); (repeat' split); all_goals simp) _ _)
  · exact (foldl_keeps (fun t : State => t.pic.roster) (fun t x => by (try dsimp only); (repeat' split); all_goals simp) _ _).trans (foldl_keeps (fun t : State => t.pic.roster) (fun t x => by (try dsimp only); (repeat' split); all_goals simp) _ _)
  · exact (foldl_keeps (fun t : State => t.pic.points) (fun t x => by (try dsimp only); (repeat' split); all_goals simp) _ _).trans (foldl_keeps (fun t : State => t.pic.points) (fun t x => by (try dsimp only); (repeat' split); all_goals simp) _ _)
  · exact (foldl_keeps (fun t : State => t.input) (fun t x => by (try dsimp only); (repeat' split); all_goals simp) _ _).trans (foldl_keeps (fun t : State => t.input) (fun t x => by (try dsimp only); (repeat' split); all_goals simp) _ _)
  · exact (foldl_keeps (fun t : State => t.cond.run) (fun t x => by (try dsimp only); (repeat' split); all_goals simp) _ _).trans (foldl_keeps (fun t : State => t.cond.run) (fun t x => by (try dsimp only); (repeat' split); all_goals simp) _ _)
  · exact (foldl_keeps (fun t : State => t.ann.seqTruth) (fun t x => by (try dsimp only); (repeat' split); all_goals simp) _ _).trans (foldl_keeps (fun t : State => t.ann.seqTruth) (fun t x => by (try dsimp only); (repeat' split); all_goals simp) _ _)
  · exact (foldl_keeps (fun t : State => t.ann.edges) (fun t x => by (try dsimp only); (repeat' split); all_goals simp) _ _).trans (foldl_keeps (fun t : State => t.ann.edges) (fun t x => by (try dsimp only); (repeat' split); all_goals simp) _ _)
  · exact (foldl_keeps (fun t : State => t.ann.attention) (fun t x => by (try dsimp only); (repeat' split); all_goals simp) _ _).trans (foldl_keeps (fun t : State => t.ann.attention) (fun t x => by (try dsimp only); (repeat' split); all_goals simp) _ _)
  · exact (foldl_keeps (fun t : State => t.frame.nextSeq) (fun t x => by (try dsimp only); (repeat' split); all_goals simp) _ _).trans (foldl_keeps (fun t : State => t.frame.nextSeq) (fun t x => by (try dsimp only); (repeat' split); all_goals simp) _ _)
  · exact (foldl_keeps (fun t : State => t.frame.first) (fun t x => by (try dsimp only); (repeat' split); all_goals simp) _ _).trans (foldl_keeps (fun t : State => t.frame.first) (fun t x => by (try dsimp only); (repeat' split); all_goals simp) _ _)
  · exact (foldl_keeps (fun t : State => t.frame.refresh) (fun t x => by (try dsimp only); (repeat' split); all_goals simp) _ _).trans (foldl_keeps (fun t : State => t.frame.refresh) (fun t x => by (try dsimp only); (repeat' split); all_goals simp) _ _)
  · exact (foldl_keeps (fun t : State => t.frame.discarded) (fun t x => by (try dsimp only); (repeat' split); all_goals simp) _ _).trans (foldl_keeps (fun t : State => t.frame.discarded) (fun t x => by (try dsimp only); (repeat' split); all_goals simp) _ _)
  · exact (foldl_keeps (fun t : State => t.line) (fun t x => by (try dsimp only); (repeat' split); all_goals simp) _ _).trans (foldl_keeps (fun t : State => t.line) (fun t x => by (try dsimp only); (repeat' split); all_goals simp) _ _)
  · exact (foldl_keeps (fun t : State => t.out) (fun t x => by (try dsimp only); (repeat' split); all_goals simp) _ _).trans (foldl_keeps (fun t : State => t.out) (fun t x => by (try dsimp only); (repeat' split); all_goals simp) _ _)
  · exact (foldl_keeps (fun t : State => t.journal.window) (fun t x => by (try dsimp only); (repeat' split); all_goals simp) _ _).trans (foldl_keeps (fun t : State => t.journal.window) (fun t x => by (try dsimp only); (repeat' split); all_goals simp) _ _)
  · exact (foldl_keeps (fun t : State => t.port) (fun t x => by (try dsimp only); (repeat' split); all_goals simp) _ _).trans (foldl_keeps (fun t : State => t.port) (fun t x => by (try dsimp only); (repeat' split); all_goals simp) _ _)
  · exact (foldl_keeps (fun t : State => t.pending) (fun t x => by (try dsimp only); (repeat' split); all_goals simp) _ _).trans (foldl_keeps (fun t : State => t.pending) (fun t x => by (try dsimp only); (repeat' split); all_goals simp) _ _)

@[simp] theorem State.setLatch_keeps (b : Bool) :
    (s.setLatch b).held = s.held ∧ (s.setLatch b).clock = s.clock ∧ (s.setLatch b).pins = s.pins ∧
    (s.setLatch b).settings = s.settings ∧ (s.setLatch b).life = s.life ∧ (s.setLatch b).loader = s.loader ∧
    (s.setLatch b).pic = s.pic ∧ (s.setLatch b).input = s.input ∧ (s.setLatch b).cond = s.cond ∧
    (s.setLatch b).ann = s.ann ∧ (s.setLatch b).frame = s.frame ∧ (s.setLatch b).line = s.line ∧
    (s.setLatch b).out.levels = s.out.levels ∧ (s.setLatch b).out.horn = s.out.horn ∧
    (s.setLatch b).out.phase = s.out.phase ∧ (s.setLatch b).out.testLevel = s.out.testLevel ∧
    (s.setLatch b).out.lampTest = s.out.lampTest ∧ (s.setLatch b).journal = s.journal ∧ (s.setLatch b).port = s.port ∧
    (s.setLatch b).report = s.report ∧ (s.setLatch b).pending = s.pending := by
  simp [State.setLatch]

@[simp] theorem State.silencePress_keeps :
    (s.silencePress).held = s.held ∧ (s.silencePress).clock = s.clock ∧ (s.silencePress).pins = s.pins ∧
    (s.silencePress).settings = s.settings ∧ (s.silencePress).life = s.life ∧ (s.silencePress).loader = s.loader ∧
    (s.silencePress).pic = s.pic ∧ (s.silencePress).input = s.input ∧ (s.silencePress).cond = s.cond ∧
    (s.silencePress).ann = s.ann ∧ (s.silencePress).frame.nextSeq = s.frame.nextSeq ∧
    (s.silencePress).frame.first = s.frame.first ∧ (s.silencePress).frame.refresh = s.frame.refresh ∧
    (s.silencePress).frame.discarded = s.frame.discarded ∧ (s.silencePress).line = s.line ∧
    (s.silencePress).out.levels = s.out.levels ∧ (s.silencePress).out.horn = s.out.horn ∧
    (s.silencePress).out.phase = s.out.phase ∧ (s.silencePress).out.testLevel = s.out.testLevel ∧
    (s.silencePress).out.lampTest = s.out.lampTest ∧ (s.silencePress).journal = s.journal ∧
    (s.silencePress).port = s.port ∧ (s.silencePress).report = s.report ∧ (s.silencePress).pending = s.pending := by
  simp only [State.silencePress]
  (repeat' split); all_goals simp

@[simp] theorem State.takeAckreq_keeps (st : Station) (m : BitVec 8) (pairs : Tab 8 AckPair) :
    (s.takeAckreq st m pairs).held = s.held ∧ (s.takeAckreq st m pairs).clock = s.clock ∧
    (s.takeAckreq st m pairs).pins = s.pins ∧ (s.takeAckreq st m pairs).settings = s.settings ∧
    (s.takeAckreq st m pairs).life = s.life ∧ (s.takeAckreq st m pairs).loader = s.loader ∧
    (s.takeAckreq st m pairs).pic.roster = s.pic.roster ∧ (s.takeAckreq st m pairs).pic.points = s.pic.points ∧
    (s.takeAckreq st m pairs).input = s.input ∧ (s.takeAckreq st m pairs).cond.run = s.cond.run ∧
    (s.takeAckreq st m pairs).ann.seqTruth = s.ann.seqTruth ∧ (s.takeAckreq st m pairs).ann.edges = s.ann.edges ∧
    (s.takeAckreq st m pairs).ann.requests = s.ann.requests ∧
    (s.takeAckreq st m pairs).ann.attention = s.ann.attention ∧
    (s.takeAckreq st m pairs).frame.nextSeq = s.frame.nextSeq ∧
    (s.takeAckreq st m pairs).frame.first = s.frame.first ∧
    (s.takeAckreq st m pairs).frame.refresh = s.frame.refresh ∧
    (s.takeAckreq st m pairs).frame.discarded = s.frame.discarded ∧ (s.takeAckreq st m pairs).line = s.line ∧
    (s.takeAckreq st m pairs).out = s.out ∧ (s.takeAckreq st m pairs).journal.window = s.journal.window ∧
    (s.takeAckreq st m pairs).port = s.port ∧ (s.takeAckreq st m pairs).pending = s.pending := by
  unfold State.takeAckreq
  split
  · simp only [State.requestUrgent_keeps]
    refine ⟨?_, ?_, ?_, ?_, ?_, ?_, ?_, ?_, ?_, ?_, ?_, ?_, ?_, ?_, ?_, ?_, ?_, ?_, ?_, ?_, ?_, ?_, ?_⟩
    · exact foldl_keeps (fun t : State => t.held) (fun t x => by (try dsimp only); (repeat' split); all_goals simp) _ _
    · exact foldl_keeps (fun t : State => t.clock) (fun t x => by (try dsimp only); (repeat' split); all_goals simp) _ _
    · exact foldl_keeps (fun t : State => t.pins) (fun t x => by (try dsimp only); (repeat' split); all_goals simp) _ _
    · exact foldl_keeps (fun t : State => t.settings) (fun t x => by (try dsimp only); (repeat' split); all_goals simp) _ _
    · exact foldl_keeps (fun t : State => t.life) (fun t x => by (try dsimp only); (repeat' split); all_goals simp) _ _
    · exact foldl_keeps (fun t : State => t.loader) (fun t x => by (try dsimp only); (repeat' split); all_goals simp) _ _
    · exact foldl_keeps (fun t : State => t.pic.roster) (fun t x => by (try dsimp only); (repeat' split); all_goals simp) _ _
    · exact foldl_keeps (fun t : State => t.pic.points) (fun t x => by (try dsimp only); (repeat' split); all_goals simp) _ _
    · exact foldl_keeps (fun t : State => t.input) (fun t x => by (try dsimp only); (repeat' split); all_goals simp) _ _
    · exact foldl_keeps (fun t : State => t.cond.run) (fun t x => by (try dsimp only); (repeat' split); all_goals simp) _ _
    · exact foldl_keeps (fun t : State => t.ann.seqTruth) (fun t x => by (try dsimp only); (repeat' split); all_goals simp) _ _
    · exact foldl_keeps (fun t : State => t.ann.edges) (fun t x => by (try dsimp only); (repeat' split); all_goals simp) _ _
    · exact foldl_keeps (fun t : State => t.ann.requests) (fun t x => by (try dsimp only); (repeat' split); all_goals simp) _ _
    · exact foldl_keeps (fun t : State => t.ann.attention) (fun t x => by (try dsimp only); (repeat' split); all_goals simp) _ _
    · exact foldl_keeps (fun t : State => t.frame.nextSeq) (fun t x => by (try dsimp only); (repeat' split); all_goals simp) _ _
    · exact foldl_keeps (fun t : State => t.frame.first) (fun t x => by (try dsimp only); (repeat' split); all_goals simp) _ _
    · exact foldl_keeps (fun t : State => t.frame.refresh) (fun t x => by (try dsimp only); (repeat' split); all_goals simp) _ _
    · exact foldl_keeps (fun t : State => t.frame.discarded) (fun t x => by (try dsimp only); (repeat' split); all_goals simp) _ _
    · exact foldl_keeps (fun t : State => t.line) (fun t x => by (try dsimp only); (repeat' split); all_goals simp) _ _
    · exact foldl_keeps (fun t : State => t.out) (fun t x => by (try dsimp only); (repeat' split); all_goals simp) _ _
    · exact foldl_keeps (fun t : State => t.journal.window) (fun t x => by (try dsimp only); (repeat' split); all_goals simp) _ _
    · exact foldl_keeps (fun t : State => t.port) (fun t x => by (try dsimp only); (repeat' split); all_goals simp) _ _
    · exact foldl_keeps (fun t : State => t.pending) (fun t x => by (try dsimp only); (repeat' split); all_goals simp) _ _
  · simp

@[simp] theorem State.takeSilence_keeps (z : BitVec 4) :
    (s.takeSilence z).held = s.held ∧ (s.takeSilence z).clock = s.clock ∧ (s.takeSilence z).pins = s.pins ∧
    (s.takeSilence z).settings = s.settings ∧ (s.takeSilence z).life = s.life ∧ (s.takeSilence z).loader = s.loader ∧
    (s.takeSilence z).pic = s.pic ∧ (s.takeSilence z).input = s.input ∧ (s.takeSilence z).cond = s.cond ∧
    (s.takeSilence z).ann = s.ann ∧ (s.takeSilence z).frame = s.frame ∧ (s.takeSilence z).line = s.line ∧
    (s.takeSilence z).out.levels = s.out.levels ∧ (s.takeSilence z).out.horn = s.out.horn ∧
    (s.takeSilence z).out.phase = s.out.phase ∧ (s.takeSilence z).out.testLevel = s.out.testLevel ∧
    (s.takeSilence z).out.lampTest = s.out.lampTest ∧ (s.takeSilence z).journal = s.journal ∧
    (s.takeSilence z).port = s.port ∧ (s.takeSilence z).report = s.report ∧ (s.takeSilence z).pending = s.pending := by
  simp only [State.takeSilence]
  (repeat' split); all_goals simp

@[simp] theorem State.truthEdge_keeps (c : CondIx) (rising : Bool) :
    (s.truthEdge c rising).held = s.held ∧ (s.truthEdge c rising).clock = s.clock ∧
    (s.truthEdge c rising).pins = s.pins ∧ (s.truthEdge c rising).settings = s.settings ∧
    (s.truthEdge c rising).life = s.life ∧ (s.truthEdge c rising).loader = s.loader ∧
    (s.truthEdge c rising).pic.roster = s.pic.roster ∧ (s.truthEdge c rising).pic.points = s.pic.points ∧
    (s.truthEdge c rising).input = s.input ∧ (s.truthEdge c rising).cond.run = s.cond.run ∧
    (s.truthEdge c rising).ann.seqTruth = s.ann.seqTruth ∧ (s.truthEdge c rising).ann.requests = s.ann.requests ∧
    (s.truthEdge c rising).ann.attention = s.ann.attention ∧ (s.truthEdge c rising).frame.nextSeq = s.frame.nextSeq ∧
    (s.truthEdge c rising).frame.first = s.frame.first ∧ (s.truthEdge c rising).frame.refresh = s.frame.refresh ∧
    (s.truthEdge c rising).frame.discarded = s.frame.discarded ∧ (s.truthEdge c rising).line = s.line ∧
    (s.truthEdge c rising).out = s.out ∧ (s.truthEdge c rising).journal = s.journal ∧
    (s.truthEdge c rising).port = s.port ∧ (s.truthEdge c rising).report = s.report ∧
    (s.truthEdge c rising).pending = s.pending := by
  simp [State.truthEdge]

@[simp] theorem State.setRun_keeps (c : CondIx) (r : CondRun) :
    (s.setRun c r).held = s.held ∧ (s.setRun c r).clock = s.clock ∧ (s.setRun c r).pins = s.pins ∧
    (s.setRun c r).settings = s.settings ∧ (s.setRun c r).life = s.life ∧ (s.setRun c r).loader = s.loader ∧
    (s.setRun c r).pic = s.pic ∧ (s.setRun c r).input = s.input ∧ (s.setRun c r).cond.notices = s.cond.notices ∧
    (s.setRun c r).ann = s.ann ∧ (s.setRun c r).frame = s.frame ∧ (s.setRun c r).line = s.line ∧
    (s.setRun c r).out = s.out ∧ (s.setRun c r).journal = s.journal ∧ (s.setRun c r).port = s.port ∧
    (s.setRun c r).report = s.report ∧ (s.setRun c r).pending = s.pending := by
  simp [State.setRun]

@[simp] theorem State.moveRaw_keeps (c : CondIx) (raw : Bool) :
    (s.moveRaw c raw).held = s.held ∧ (s.moveRaw c raw).clock = s.clock ∧ (s.moveRaw c raw).pins = s.pins ∧
    (s.moveRaw c raw).settings = s.settings ∧ (s.moveRaw c raw).life = s.life ∧ (s.moveRaw c raw).loader = s.loader ∧
    (s.moveRaw c raw).pic.roster = s.pic.roster ∧ (s.moveRaw c raw).pic.points = s.pic.points ∧
    (s.moveRaw c raw).input = s.input ∧ (s.moveRaw c raw).ann.seqTruth = s.ann.seqTruth ∧
    (s.moveRaw c raw).ann.requests = s.ann.requests ∧ (s.moveRaw c raw).ann.attention = s.ann.attention ∧
    (s.moveRaw c raw).frame.nextSeq = s.frame.nextSeq ∧ (s.moveRaw c raw).frame.first = s.frame.first ∧
    (s.moveRaw c raw).frame.refresh = s.frame.refresh ∧ (s.moveRaw c raw).frame.discarded = s.frame.discarded ∧
    (s.moveRaw c raw).line = s.line ∧ (s.moveRaw c raw).out = s.out ∧ (s.moveRaw c raw).journal = s.journal ∧
    (s.moveRaw c raw).port = s.port ∧ (s.moveRaw c raw).report = s.report ∧ (s.moveRaw c raw).pending = s.pending := by
  unfold State.moveRaw
  dsimp only
  (repeat' split); all_goals simp

@[simp] theorem State.evaluate_keeps (c : CondIx) :
    (s.evaluate c).held = s.held ∧ (s.evaluate c).clock = s.clock ∧ (s.evaluate c).pins = s.pins ∧
    (s.evaluate c).settings = s.settings ∧ (s.evaluate c).life = s.life ∧ (s.evaluate c).loader = s.loader ∧
    (s.evaluate c).pic.roster = s.pic.roster ∧ (s.evaluate c).pic.points = s.pic.points ∧
    (s.evaluate c).input = s.input ∧ (s.evaluate c).ann.seqTruth = s.ann.seqTruth ∧
    (s.evaluate c).ann.requests = s.ann.requests ∧ (s.evaluate c).ann.attention = s.ann.attention ∧
    (s.evaluate c).frame.nextSeq = s.frame.nextSeq ∧ (s.evaluate c).frame.first = s.frame.first ∧
    (s.evaluate c).frame.refresh = s.frame.refresh ∧ (s.evaluate c).frame.discarded = s.frame.discarded ∧
    (s.evaluate c).line = s.line ∧ (s.evaluate c).out = s.out ∧ (s.evaluate c).journal = s.journal ∧
    (s.evaluate c).port = s.port ∧ (s.evaluate c).report = s.report ∧ (s.evaluate c).pending = s.pending := by
  simp only [State.evaluate]
  (repeat' split); all_goals simp

@[simp] theorem State.evaluateItem_keeps (i : Item) :
    (s.evaluateItem i).held = s.held ∧ (s.evaluateItem i).clock = s.clock ∧ (s.evaluateItem i).pins = s.pins ∧
    (s.evaluateItem i).settings = s.settings ∧ (s.evaluateItem i).life = s.life ∧
    (s.evaluateItem i).loader = s.loader ∧ (s.evaluateItem i).pic.roster = s.pic.roster ∧
    (s.evaluateItem i).pic.points = s.pic.points ∧ (s.evaluateItem i).input = s.input ∧
    (s.evaluateItem i).ann.seqTruth = s.ann.seqTruth ∧ (s.evaluateItem i).ann.requests = s.ann.requests ∧
    (s.evaluateItem i).ann.attention = s.ann.attention ∧ (s.evaluateItem i).frame.nextSeq = s.frame.nextSeq ∧
    (s.evaluateItem i).frame.first = s.frame.first ∧ (s.evaluateItem i).frame.refresh = s.frame.refresh ∧
    (s.evaluateItem i).frame.discarded = s.frame.discarded ∧ (s.evaluateItem i).line = s.line ∧
    (s.evaluateItem i).out = s.out ∧ (s.evaluateItem i).journal = s.journal ∧ (s.evaluateItem i).port = s.port ∧
    (s.evaluateItem i).report = s.report ∧ (s.evaluateItem i).pending = s.pending := by
  unfold State.evaluateItem
  refine ⟨?_, ?_, ?_, ?_, ?_, ?_, ?_, ?_, ?_, ?_, ?_, ?_, ?_, ?_, ?_, ?_, ?_, ?_, ?_, ?_, ?_, ?_⟩
  · exact foldl_keeps (fun t : State => t.held) (fun t x => by (try dsimp only); (repeat' split); all_goals simp) _ _
  · exact foldl_keeps (fun t : State => t.clock) (fun t x => by (try dsimp only); (repeat' split); all_goals simp) _ _
  · exact foldl_keeps (fun t : State => t.pins) (fun t x => by (try dsimp only); (repeat' split); all_goals simp) _ _
  · exact foldl_keeps (fun t : State => t.settings) (fun t x => by (try dsimp only); (repeat' split); all_goals simp) _ _
  · exact foldl_keeps (fun t : State => t.life) (fun t x => by (try dsimp only); (repeat' split); all_goals simp) _ _
  · exact foldl_keeps (fun t : State => t.loader) (fun t x => by (try dsimp only); (repeat' split); all_goals simp) _ _
  · exact foldl_keeps (fun t : State => t.pic.roster) (fun t x => by (try dsimp only); (repeat' split); all_goals simp) _ _
  · exact foldl_keeps (fun t : State => t.pic.points) (fun t x => by (try dsimp only); (repeat' split); all_goals simp) _ _
  · exact foldl_keeps (fun t : State => t.input) (fun t x => by (try dsimp only); (repeat' split); all_goals simp) _ _
  · exact foldl_keeps (fun t : State => t.ann.seqTruth) (fun t x => by (try dsimp only); (repeat' split); all_goals simp) _ _
  · exact foldl_keeps (fun t : State => t.ann.requests) (fun t x => by (try dsimp only); (repeat' split); all_goals simp) _ _
  · exact foldl_keeps (fun t : State => t.ann.attention) (fun t x => by (try dsimp only); (repeat' split); all_goals simp) _ _
  · exact foldl_keeps (fun t : State => t.frame.nextSeq) (fun t x => by (try dsimp only); (repeat' split); all_goals simp) _ _
  · exact foldl_keeps (fun t : State => t.frame.first) (fun t x => by (try dsimp only); (repeat' split); all_goals simp) _ _
  · exact foldl_keeps (fun t : State => t.frame.refresh) (fun t x => by (try dsimp only); (repeat' split); all_goals simp) _ _
  · exact foldl_keeps (fun t : State => t.frame.discarded) (fun t x => by (try dsimp only); (repeat' split); all_goals simp) _ _
  · exact foldl_keeps (fun t : State => t.line) (fun t x => by (try dsimp only); (repeat' split); all_goals simp) _ _
  · exact foldl_keeps (fun t : State => t.out) (fun t x => by (try dsimp only); (repeat' split); all_goals simp) _ _
  · exact foldl_keeps (fun t : State => t.journal) (fun t x => by (try dsimp only); (repeat' split); all_goals simp) _ _
  · exact foldl_keeps (fun t : State => t.port) (fun t x => by (try dsimp only); (repeat' split); all_goals simp) _ _
  · exact foldl_keeps (fun t : State => t.report) (fun t x => by (try dsimp only); (repeat' split); all_goals simp) _ _
  · exact foldl_keeps (fun t : State => t.pending) (fun t x => by (try dsimp only); (repeat' split); all_goals simp) _ _

@[simp] theorem State.evaluateAll_keeps :
    (s.evaluateAll).held = s.held ∧ (s.evaluateAll).clock = s.clock ∧ (s.evaluateAll).pins = s.pins ∧
    (s.evaluateAll).settings = s.settings ∧ (s.evaluateAll).life = s.life ∧ (s.evaluateAll).loader = s.loader ∧
    (s.evaluateAll).pic.roster = s.pic.roster ∧ (s.evaluateAll).pic.points = s.pic.points ∧
    (s.evaluateAll).input = s.input ∧ (s.evaluateAll).ann.seqTruth = s.ann.seqTruth ∧
    (s.evaluateAll).ann.requests = s.ann.requests ∧ (s.evaluateAll).ann.attention = s.ann.attention ∧
    (s.evaluateAll).frame.nextSeq = s.frame.nextSeq ∧ (s.evaluateAll).frame.first = s.frame.first ∧
    (s.evaluateAll).frame.refresh = s.frame.refresh ∧ (s.evaluateAll).frame.discarded = s.frame.discarded ∧
    (s.evaluateAll).line = s.line ∧ (s.evaluateAll).out = s.out ∧ (s.evaluateAll).journal = s.journal ∧
    (s.evaluateAll).port = s.port ∧ (s.evaluateAll).report = s.report ∧ (s.evaluateAll).pending = s.pending := by
  unfold State.evaluateAll
  refine ⟨?_, ?_, ?_, ?_, ?_, ?_, ?_, ?_, ?_, ?_, ?_, ?_, ?_, ?_, ?_, ?_, ?_, ?_, ?_, ?_, ?_, ?_⟩
  · exact foldl_keeps (fun t : State => t.held) (fun t x => by (try dsimp only); (repeat' split); all_goals simp) _ _
  · exact foldl_keeps (fun t : State => t.clock) (fun t x => by (try dsimp only); (repeat' split); all_goals simp) _ _
  · exact foldl_keeps (fun t : State => t.pins) (fun t x => by (try dsimp only); (repeat' split); all_goals simp) _ _
  · exact foldl_keeps (fun t : State => t.settings) (fun t x => by (try dsimp only); (repeat' split); all_goals simp) _ _
  · exact foldl_keeps (fun t : State => t.life) (fun t x => by (try dsimp only); (repeat' split); all_goals simp) _ _
  · exact foldl_keeps (fun t : State => t.loader) (fun t x => by (try dsimp only); (repeat' split); all_goals simp) _ _
  · exact foldl_keeps (fun t : State => t.pic.roster) (fun t x => by (try dsimp only); (repeat' split); all_goals simp) _ _
  · exact foldl_keeps (fun t : State => t.pic.points) (fun t x => by (try dsimp only); (repeat' split); all_goals simp) _ _
  · exact foldl_keeps (fun t : State => t.input) (fun t x => by (try dsimp only); (repeat' split); all_goals simp) _ _
  · exact foldl_keeps (fun t : State => t.ann.seqTruth) (fun t x => by (try dsimp only); (repeat' split); all_goals simp) _ _
  · exact foldl_keeps (fun t : State => t.ann.requests) (fun t x => by (try dsimp only); (repeat' split); all_goals simp) _ _
  · exact foldl_keeps (fun t : State => t.ann.attention) (fun t x => by (try dsimp only); (repeat' split); all_goals simp) _ _
  · exact foldl_keeps (fun t : State => t.frame.nextSeq) (fun t x => by (try dsimp only); (repeat' split); all_goals simp) _ _
  · exact foldl_keeps (fun t : State => t.frame.first) (fun t x => by (try dsimp only); (repeat' split); all_goals simp) _ _
  · exact foldl_keeps (fun t : State => t.frame.refresh) (fun t x => by (try dsimp only); (repeat' split); all_goals simp) _ _
  · exact foldl_keeps (fun t : State => t.frame.discarded) (fun t x => by (try dsimp only); (repeat' split); all_goals simp) _ _
  · exact foldl_keeps (fun t : State => t.line) (fun t x => by (try dsimp only); (repeat' split); all_goals simp) _ _
  · exact foldl_keeps (fun t : State => t.out) (fun t x => by (try dsimp only); (repeat' split); all_goals simp) _ _
  · exact foldl_keeps (fun t : State => t.journal) (fun t x => by (try dsimp only); (repeat' split); all_goals simp) _ _
  · exact foldl_keeps (fun t : State => t.port) (fun t x => by (try dsimp only); (repeat' split); all_goals simp) _ _
  · exact foldl_keeps (fun t : State => t.report) (fun t x => by (try dsimp only); (repeat' split); all_goals simp) _ _
  · exact foldl_keeps (fun t : State => t.pending) (fun t x => by (try dsimp only); (repeat' split); all_goals simp) _ _

@[simp] theorem State.takeEdges_keeps :
    (s.takeEdges).held = s.held ∧ (s.takeEdges).clock = s.clock ∧ (s.takeEdges).pins = s.pins ∧
    (s.takeEdges).settings = s.settings ∧ (s.takeEdges).life = s.life ∧ (s.takeEdges).loader = s.loader ∧
    (s.takeEdges).pic.roster = s.pic.roster ∧ (s.takeEdges).pic.points = s.pic.points ∧
    (s.takeEdges).input = s.input ∧ (s.takeEdges).cond.run = s.cond.run ∧
    (s.takeEdges).ann.requests = s.ann.requests ∧ (s.takeEdges).ann.attention = s.ann.attention ∧
    (s.takeEdges).frame.nextSeq = s.frame.nextSeq ∧ (s.takeEdges).frame.first = s.frame.first ∧
    (s.takeEdges).frame.refresh = s.frame.refresh ∧ (s.takeEdges).frame.discarded = s.frame.discarded ∧
    (s.takeEdges).line = s.line ∧ (s.takeEdges).out = s.out ∧ (s.takeEdges).journal.window = s.journal.window ∧
    (s.takeEdges).port = s.port ∧ (s.takeEdges).pending = s.pending := by
  unfold State.takeEdges
  refine ⟨?_, ?_, ?_, ?_, ?_, ?_, ?_, ?_, ?_, ?_, ?_, ?_, ?_, ?_, ?_, ?_, ?_, ?_, ?_, ?_, ?_⟩
  · exact foldl_keeps (fun t : State => t.held) (fun t x => by (try dsimp only); (repeat' split); all_goals simp) _ _
  · exact foldl_keeps (fun t : State => t.clock) (fun t x => by (try dsimp only); (repeat' split); all_goals simp) _ _
  · exact foldl_keeps (fun t : State => t.pins) (fun t x => by (try dsimp only); (repeat' split); all_goals simp) _ _
  · exact foldl_keeps (fun t : State => t.settings) (fun t x => by (try dsimp only); (repeat' split); all_goals simp) _ _
  · exact foldl_keeps (fun t : State => t.life) (fun t x => by (try dsimp only); (repeat' split); all_goals simp) _ _
  · exact foldl_keeps (fun t : State => t.loader) (fun t x => by (try dsimp only); (repeat' split); all_goals simp) _ _
  · exact foldl_keeps (fun t : State => t.pic.roster) (fun t x => by (try dsimp only); (repeat' split); all_goals simp) _ _
  · exact foldl_keeps (fun t : State => t.pic.points) (fun t x => by (try dsimp only); (repeat' split); all_goals simp) _ _
  · exact foldl_keeps (fun t : State => t.input) (fun t x => by (try dsimp only); (repeat' split); all_goals simp) _ _
  · exact foldl_keeps (fun t : State => t.cond.run) (fun t x => by (try dsimp only); (repeat' split); all_goals simp) _ _
  · exact foldl_keeps (fun t : State => t.ann.requests) (fun t x => by (try dsimp only); (repeat' split); all_goals simp) _ _
  · exact foldl_keeps (fun t : State => t.ann.attention) (fun t x => by (try dsimp only); (repeat' split); all_goals simp) _ _
  · exact foldl_keeps (fun t : State => t.frame.nextSeq) (fun t x => by (try dsimp only); (repeat' split); all_goals simp) _ _
  · exact foldl_keeps (fun t : State => t.frame.first) (fun t x => by (try dsimp only); (repeat' split); all_goals simp) _ _
  · exact foldl_keeps (fun t : State => t.frame.refresh) (fun t x => by (try dsimp only); (repeat' split); all_goals simp) _ _
  · exact foldl_keeps (fun t : State => t.frame.discarded) (fun t x => by (try dsimp only); (repeat' split); all_goals simp) _ _
  · exact foldl_keeps (fun t : State => t.line) (fun t x => by (try dsimp only); (repeat' split); all_goals simp) _ _
  · exact foldl_keeps (fun t : State => t.out) (fun t x => by (try dsimp only); (repeat' split); all_goals simp) _ _
  · exact foldl_keeps (fun t : State => t.journal.window) (fun t x => by (try dsimp only); (repeat' split); all_goals simp) _ _
  · exact foldl_keeps (fun t : State => t.port) (fun t x => by (try dsimp only); (repeat' split); all_goals simp) _ _
  · exact foldl_keeps (fun t : State => t.pending) (fun t x => by (try dsimp only); (repeat' split); all_goals simp) _ _

@[simp] theorem State.setLine_keeps (n : PointIx) (d : Debouncer) :
    (s.setLine n d).held = s.held ∧ (s.setLine n d).clock = s.clock ∧ (s.setLine n d).pins = s.pins ∧
    (s.setLine n d).settings = s.settings ∧ (s.setLine n d).life = s.life ∧ (s.setLine n d).loader = s.loader ∧
    (s.setLine n d).pic = s.pic ∧ (s.setLine n d).input.pairs = s.input.pairs ∧
    (s.setLine n d).input.ack = s.input.ack ∧ (s.setLine n d).input.silence = s.input.silence ∧
    (s.setLine n d).input.test = s.input.test ∧ (s.setLine n d).cond = s.cond ∧ (s.setLine n d).ann = s.ann ∧
    (s.setLine n d).frame = s.frame ∧ (s.setLine n d).line = s.line ∧ (s.setLine n d).out = s.out ∧
    (s.setLine n d).journal = s.journal ∧ (s.setLine n d).port = s.port ∧ (s.setLine n d).report = s.report ∧
    (s.setLine n d).pending = s.pending := by
  simp [State.setLine]

@[simp] theorem State.setPair_keeps (k : PairIx) (p : PairState) :
    (s.setPair k p).held = s.held ∧ (s.setPair k p).clock = s.clock ∧ (s.setPair k p).pins = s.pins ∧
    (s.setPair k p).settings = s.settings ∧ (s.setPair k p).life = s.life ∧ (s.setPair k p).loader = s.loader ∧
    (s.setPair k p).pic = s.pic ∧ (s.setPair k p).input.lines = s.input.lines ∧
    (s.setPair k p).input.ack = s.input.ack ∧ (s.setPair k p).input.silence = s.input.silence ∧
    (s.setPair k p).input.test = s.input.test ∧ (s.setPair k p).cond = s.cond ∧ (s.setPair k p).ann = s.ann ∧
    (s.setPair k p).frame = s.frame ∧ (s.setPair k p).line = s.line ∧ (s.setPair k p).out = s.out ∧
    (s.setPair k p).journal = s.journal ∧ (s.setPair k p).port = s.port ∧ (s.setPair k p).report = s.report ∧
    (s.setPair k p).pending = s.pending := by
  simp [State.setPair]

@[simp] theorem State.supervise_keeps (k : PairIx) :
    (s.supervise k).held = s.held ∧ (s.supervise k).clock = s.clock ∧ (s.supervise k).pins = s.pins ∧
    (s.supervise k).settings = s.settings ∧ (s.supervise k).life = s.life ∧ (s.supervise k).loader = s.loader ∧
    (s.supervise k).pic = s.pic ∧ (s.supervise k).input.lines = s.input.lines ∧
    (s.supervise k).input.ack = s.input.ack ∧ (s.supervise k).input.silence = s.input.silence ∧
    (s.supervise k).input.test = s.input.test ∧ (s.supervise k).cond = s.cond ∧ (s.supervise k).ann = s.ann ∧
    (s.supervise k).frame = s.frame ∧ (s.supervise k).line = s.line ∧ (s.supervise k).out = s.out ∧
    (s.supervise k).journal = s.journal ∧ (s.supervise k).port = s.port ∧ (s.supervise k).report = s.report ∧
    (s.supervise k).pending = s.pending := by
  simp only [State.supervise]
  (repeat' split); all_goals simp

@[simp] theorem State.writeOwnPoints_keeps (l : List (PointIx × PointEntry)) :
    (s.writeOwnPoints l).held = s.held ∧ (s.writeOwnPoints l).clock = s.clock ∧ (s.writeOwnPoints l).pins = s.pins ∧
    (s.writeOwnPoints l).settings = s.settings ∧ (s.writeOwnPoints l).life = s.life ∧
    (s.writeOwnPoints l).loader = s.loader ∧ (s.writeOwnPoints l).pic.roster = s.pic.roster ∧
    (s.writeOwnPoints l).pic.conds = s.pic.conds ∧ (s.writeOwnPoints l).input = s.input ∧
    (s.writeOwnPoints l).cond.run = s.cond.run ∧ (s.writeOwnPoints l).ann = s.ann ∧
    (s.writeOwnPoints l).frame.nextSeq = s.frame.nextSeq ∧ (s.writeOwnPoints l).frame.first = s.frame.first ∧
    (s.writeOwnPoints l).frame.refresh = s.frame.refresh ∧ (s.writeOwnPoints l).frame.discarded = s.frame.discarded ∧
    (s.writeOwnPoints l).line = s.line ∧ (s.writeOwnPoints l).out = s.out ∧
    (s.writeOwnPoints l).journal.window = s.journal.window ∧ (s.writeOwnPoints l).port = s.port ∧
    (s.writeOwnPoints l).report = s.report ∧ (s.writeOwnPoints l).pending = s.pending := by
  simp only [State.writeOwnPoints, State.requestUrgent_keeps]
  refine ⟨?_, ?_, ?_, ?_, ?_, ?_, ?_, ?_, ?_, ?_, ?_, ?_, ?_, ?_, ?_, ?_, ?_, ?_, ?_, ?_, ?_⟩
  · exact (foldl_keeps (fun t : State => t.held) (fun t x => by (try dsimp only); (repeat' split); all_goals simp) _ _).trans (foldl_keeps (fun t : State => t.held) (fun t x => by (try dsimp only); (repeat' split); all_goals simp) _ _)
  · exact (foldl_keeps (fun t : State => t.clock) (fun t x => by (try dsimp only); (repeat' split); all_goals simp) _ _).trans (foldl_keeps (fun t : State => t.clock) (fun t x => by (try dsimp only); (repeat' split); all_goals simp) _ _)
  · exact (foldl_keeps (fun t : State => t.pins) (fun t x => by (try dsimp only); (repeat' split); all_goals simp) _ _).trans (foldl_keeps (fun t : State => t.pins) (fun t x => by (try dsimp only); (repeat' split); all_goals simp) _ _)
  · exact (foldl_keeps (fun t : State => t.settings) (fun t x => by (try dsimp only); (repeat' split); all_goals simp) _ _).trans (foldl_keeps (fun t : State => t.settings) (fun t x => by (try dsimp only); (repeat' split); all_goals simp) _ _)
  · exact (foldl_keeps (fun t : State => t.life) (fun t x => by (try dsimp only); (repeat' split); all_goals simp) _ _).trans (foldl_keeps (fun t : State => t.life) (fun t x => by (try dsimp only); (repeat' split); all_goals simp) _ _)
  · exact (foldl_keeps (fun t : State => t.loader) (fun t x => by (try dsimp only); (repeat' split); all_goals simp) _ _).trans (foldl_keeps (fun t : State => t.loader) (fun t x => by (try dsimp only); (repeat' split); all_goals simp) _ _)
  · exact (foldl_keeps (fun t : State => t.pic.roster) (fun t x => by (try dsimp only); (repeat' split); all_goals simp) _ _).trans (foldl_keeps (fun t : State => t.pic.roster) (fun t x => by (try dsimp only); (repeat' split); all_goals simp) _ _)
  · exact (foldl_keeps (fun t : State => t.pic.conds) (fun t x => by (try dsimp only); (repeat' split); all_goals simp) _ _).trans (foldl_keeps (fun t : State => t.pic.conds) (fun t x => by (try dsimp only); (repeat' split); all_goals simp) _ _)
  · exact (foldl_keeps (fun t : State => t.input) (fun t x => by (try dsimp only); (repeat' split); all_goals simp) _ _).trans (foldl_keeps (fun t : State => t.input) (fun t x => by (try dsimp only); (repeat' split); all_goals simp) _ _)
  · exact (foldl_keeps (fun t : State => t.cond.run) (fun t x => by (try dsimp only); (repeat' split); all_goals simp) _ _).trans (foldl_keeps (fun t : State => t.cond.run) (fun t x => by (try dsimp only); (repeat' split); all_goals simp) _ _)
  · exact (foldl_keeps (fun t : State => t.ann) (fun t x => by (try dsimp only); (repeat' split); all_goals simp) _ _).trans (foldl_keeps (fun t : State => t.ann) (fun t x => by (try dsimp only); (repeat' split); all_goals simp) _ _)
  · exact (foldl_keeps (fun t : State => t.frame.nextSeq) (fun t x => by (try dsimp only); (repeat' split); all_goals simp) _ _).trans (foldl_keeps (fun t : State => t.frame.nextSeq) (fun t x => by (try dsimp only); (repeat' split); all_goals simp) _ _)
  · exact (foldl_keeps (fun t : State => t.frame.first) (fun t x => by (try dsimp only); (repeat' split); all_goals simp) _ _).trans (foldl_keeps (fun t : State => t.frame.first) (fun t x => by (try dsimp only); (repeat' split); all_goals simp) _ _)
  · exact (foldl_keeps (fun t : State => t.frame.refresh) (fun t x => by (try dsimp only); (repeat' split); all_goals simp) _ _).trans (foldl_keeps (fun t : State => t.frame.refresh) (fun t x => by (try dsimp only); (repeat' split); all_goals simp) _ _)
  · exact (foldl_keeps (fun t : State => t.frame.discarded) (fun t x => by (try dsimp only); (repeat' split); all_goals simp) _ _).trans (foldl_keeps (fun t : State => t.frame.discarded) (fun t x => by (try dsimp only); (repeat' split); all_goals simp) _ _)
  · exact (foldl_keeps (fun t : State => t.line) (fun t x => by (try dsimp only); (repeat' split); all_goals simp) _ _).trans (foldl_keeps (fun t : State => t.line) (fun t x => by (try dsimp only); (repeat' split); all_goals simp) _ _)
  · exact (foldl_keeps (fun t : State => t.out) (fun t x => by (try dsimp only); (repeat' split); all_goals simp) _ _).trans (foldl_keeps (fun t : State => t.out) (fun t x => by (try dsimp only); (repeat' split); all_goals simp) _ _)
  · exact (foldl_keeps (fun t : State => t.journal.window) (fun t x => by (try dsimp only); (repeat' split); all_goals simp) _ _).trans (foldl_keeps (fun t : State => t.journal.window) (fun t x => by (try dsimp only); (repeat' split); all_goals simp) _ _)
  · exact (foldl_keeps (fun t : State => t.port) (fun t x => by (try dsimp only); (repeat' split); all_goals simp) _ _).trans (foldl_keeps (fun t : State => t.port) (fun t x => by (try dsimp only); (repeat' split); all_goals simp) _ _)
  · exact (foldl_keeps (fun t : State => t.report) (fun t x => by (try dsimp only); (repeat' split); all_goals simp) _ _).trans (foldl_keeps (fun t : State => t.report) (fun t x => by (try dsimp only); (repeat' split); all_goals simp) _ _)
  · exact (foldl_keeps (fun t : State => t.pending) (fun t x => by (try dsimp only); (repeat' split); all_goals simp) _ _).trans (foldl_keeps (fun t : State => t.pending) (fun t x => by (try dsimp only); (repeat' split); all_goals simp) _ _)

@[simp] theorem State.acceptedChange_keeps (n : PointIx) (active : Bool) :
    (s.acceptedChange n active).held = s.held ∧ (s.acceptedChange n active).clock = s.clock ∧
    (s.acceptedChange n active).pins = s.pins ∧ (s.acceptedChange n active).settings = s.settings ∧
    (s.acceptedChange n active).life = s.life ∧ (s.acceptedChange n active).loader = s.loader ∧
    (s.acceptedChange n active).pic.roster = s.pic.roster ∧ (s.acceptedChange n active).pic.conds = s.pic.conds ∧
    (s.acceptedChange n active).input = s.input ∧ (s.acceptedChange n active).cond.run = s.cond.run ∧
    (s.acceptedChange n active).ann = s.ann ∧ (s.acceptedChange n active).frame.nextSeq = s.frame.nextSeq ∧
    (s.acceptedChange n active).frame.first = s.frame.first ∧
    (s.acceptedChange n active).frame.refresh = s.frame.refresh ∧
    (s.acceptedChange n active).frame.discarded = s.frame.discarded ∧ (s.acceptedChange n active).line = s.line ∧
    (s.acceptedChange n active).out = s.out ∧ (s.acceptedChange n active).journal.window = s.journal.window ∧
    (s.acceptedChange n active).port = s.port ∧ (s.acceptedChange n active).report = s.report ∧
    (s.acceptedChange n active).pending = s.pending := by
  simp only [State.acceptedChange]
  (repeat' split); all_goals simp

@[simp] theorem State.pairQuality_keeps (k : PairIx) (q : Quality) :
    (s.pairQuality k q).held = s.held ∧ (s.pairQuality k q).clock = s.clock ∧ (s.pairQuality k q).pins = s.pins ∧
    (s.pairQuality k q).settings = s.settings ∧ (s.pairQuality k q).life = s.life ∧
    (s.pairQuality k q).loader = s.loader ∧ (s.pairQuality k q).pic.roster = s.pic.roster ∧
    (s.pairQuality k q).pic.conds = s.pic.conds ∧ (s.pairQuality k q).input = s.input ∧
    (s.pairQuality k q).cond.run = s.cond.run ∧ (s.pairQuality k q).ann = s.ann ∧
    (s.pairQuality k q).frame.nextSeq = s.frame.nextSeq ∧ (s.pairQuality k q).frame.first = s.frame.first ∧
    (s.pairQuality k q).frame.refresh = s.frame.refresh ∧ (s.pairQuality k q).frame.discarded = s.frame.discarded ∧
    (s.pairQuality k q).line = s.line ∧ (s.pairQuality k q).out = s.out ∧
    (s.pairQuality k q).journal.window = s.journal.window ∧ (s.pairQuality k q).port = s.port ∧
    (s.pairQuality k q).report = s.report ∧ (s.pairQuality k q).pending = s.pending := by
  simp [State.pairQuality]

@[simp] theorem State.setControl_keeps (i : Control) (d : Debouncer) :
    (s.setControl i d).held = s.held ∧ (s.setControl i d).clock = s.clock ∧ (s.setControl i d).pins = s.pins ∧
    (s.setControl i d).settings = s.settings ∧ (s.setControl i d).life = s.life ∧
    (s.setControl i d).loader = s.loader ∧ (s.setControl i d).pic = s.pic ∧
    (s.setControl i d).input.lines = s.input.lines ∧ (s.setControl i d).input.pairs = s.input.pairs ∧
    (s.setControl i d).cond = s.cond ∧ (s.setControl i d).ann = s.ann ∧ (s.setControl i d).frame = s.frame ∧
    (s.setControl i d).line = s.line ∧ (s.setControl i d).out = s.out ∧ (s.setControl i d).journal = s.journal ∧
    (s.setControl i d).port = s.port ∧ (s.setControl i d).report = s.report ∧ (s.setControl i d).pending = s.pending := by
  cases i <;> simp [State.setControl]

@[simp] theorem State.controlChange_keeps (i : Control) (active : Bool) :
    (s.controlChange i active).held = s.held ∧ (s.controlChange i active).clock = s.clock ∧
    (s.controlChange i active).pins = s.pins ∧ (s.controlChange i active).settings = s.settings ∧
    (s.controlChange i active).life = s.life ∧ (s.controlChange i active).loader = s.loader ∧
    (s.controlChange i active).pic.roster = s.pic.roster ∧ (s.controlChange i active).pic.points = s.pic.points ∧
    (s.controlChange i active).input = s.input ∧ (s.controlChange i active).cond.run = s.cond.run ∧
    (s.controlChange i active).ann.seqTruth = s.ann.seqTruth ∧ (s.controlChange i active).ann.edges = s.ann.edges ∧
    (s.controlChange i active).ann.attention = s.ann.attention ∧
    (s.controlChange i active).frame.nextSeq = s.frame.nextSeq ∧
    (s.controlChange i active).frame.first = s.frame.first ∧
    (s.controlChange i active).frame.refresh = s.frame.refresh ∧
    (s.controlChange i active).frame.discarded = s.frame.discarded ∧ (s.controlChange i active).line = s.line ∧
    (s.controlChange i active).out.levels = s.out.levels ∧ (s.controlChange i active).out.horn = s.out.horn ∧
    (s.controlChange i active).out.phase = s.out.phase ∧ (s.controlChange i active).out.lampTest = s.out.lampTest ∧
    (s.controlChange i active).journal.window = s.journal.window ∧ (s.controlChange i active).port = s.port ∧
    (s.controlChange i active).pending = s.pending := by
  simp only [State.controlChange]
  (repeat' split); all_goals simp

@[simp] theorem State.beginWindow_keeps :
    (s.beginWindow).held = s.held ∧ (s.beginWindow).clock = s.clock ∧ (s.beginWindow).pins = s.pins ∧
    (s.beginWindow).settings = s.settings ∧ (s.beginWindow).life = s.life ∧ (s.beginWindow).loader = s.loader ∧
    (s.beginWindow).pic = s.pic ∧ (s.beginWindow).input = s.input ∧ (s.beginWindow).cond = s.cond ∧
    (s.beginWindow).ann = s.ann ∧ (s.beginWindow).frame = s.frame ∧ (s.beginWindow).line.w = s.line.w ∧
    (s.beginWindow).line.blind = s.line.blind ∧ (s.beginWindow).line.collisions = s.line.collisions ∧
    (s.beginWindow).line.sending = s.line.sending ∧ (s.beginWindow).line.jam = s.line.jam ∧
    (s.beginWindow).out = s.out ∧ (s.beginWindow).journal = s.journal ∧ (s.beginWindow).port = s.port ∧
    (s.beginWindow).report = s.report ∧ (s.beginWindow).pending = s.pending := by
  simp [State.beginWindow]

@[simp] theorem State.stopDriving_keeps :
    (s.stopDriving).held = s.held ∧ (s.stopDriving).clock = s.clock ∧ (s.stopDriving).pins = s.pins ∧
    (s.stopDriving).settings = s.settings ∧ (s.stopDriving).life = s.life ∧ (s.stopDriving).loader = s.loader ∧
    (s.stopDriving).pic = s.pic ∧ (s.stopDriving).input = s.input ∧ (s.stopDriving).cond = s.cond ∧
    (s.stopDriving).ann.seqTruth = s.ann.seqTruth ∧ (s.stopDriving).ann.edges = s.ann.edges ∧
    (s.stopDriving).ann.clears = s.ann.clears ∧ (s.stopDriving).ann.attention = s.ann.attention ∧
    (s.stopDriving).frame.nextSeq = s.frame.nextSeq ∧ (s.stopDriving).frame.first = s.frame.first ∧
    (s.stopDriving).frame.refresh = s.frame.refresh ∧ (s.stopDriving).frame.discarded = s.frame.discarded ∧
    (s.stopDriving).line.w = s.line.w ∧ (s.stopDriving).line.blind = s.line.blind ∧
    (s.stopDriving).line.collisions = s.line.collisions ∧ (s.stopDriving).line.nextSlot = s.line.nextSlot ∧
    (s.stopDriving).out = s.out ∧ (s.stopDriving).journal = s.journal ∧ (s.stopDriving).port = s.port ∧
    (s.stopDriving).report = s.report ∧ (s.stopDriving).pending = s.pending := by
  simp only [State.stopDriving]
  (repeat' split); all_goals simp

@[simp] theorem State.enterWithdrawn_keeps :
    (s.enterWithdrawn).held = s.held ∧ (s.enterWithdrawn).clock = s.clock ∧ (s.enterWithdrawn).pins = s.pins ∧
    (s.enterWithdrawn).settings = s.settings ∧ (s.enterWithdrawn).life.fault = s.life.fault ∧
    (s.enterWithdrawn).life.stn = s.life.stn ∧ (s.enterWithdrawn).life.source = s.life.source ∧
    (s.enterWithdrawn).life.listen = s.life.listen ∧ (s.enterWithdrawn).life.lineStuck = s.life.lineStuck ∧
    (s.enterWithdrawn).loader = s.loader ∧ (s.enterWithdrawn).pic = s.pic ∧ (s.enterWithdrawn).input = s.input ∧
    (s.enterWithdrawn).cond = s.cond ∧ (s.enterWithdrawn).ann.seqTruth = s.ann.seqTruth ∧
    (s.enterWithdrawn).ann.edges = s.ann.edges ∧ (s.enterWithdrawn).ann.clears = s.ann.clears ∧
    (s.enterWithdrawn).ann.attention = s.ann.attention ∧ (s.enterWithdrawn).frame.nextSeq = s.frame.nextSeq ∧
    (s.enterWithdrawn).frame.first = s.frame.first ∧ (s.enterWithdrawn).frame.discarded = s.frame.discarded ∧
    (s.enterWithdrawn).line = s.line ∧ (s.enterWithdrawn).out = s.out ∧
    (s.enterWithdrawn).journal.window = s.journal.window ∧ (s.enterWithdrawn).port = s.port ∧
    (s.enterWithdrawn).report = s.report ∧ (s.enterWithdrawn).pending = s.pending := by
  simp [State.enterWithdrawn]

@[simp] theorem State.enterDuplicate_keeps :
    (s.enterDuplicate).held = s.held ∧ (s.enterDuplicate).clock = s.clock ∧ (s.enterDuplicate).pins = s.pins ∧
    (s.enterDuplicate).settings = s.settings ∧ (s.enterDuplicate).life.fault = s.life.fault ∧
    (s.enterDuplicate).life.stn = s.life.stn ∧ (s.enterDuplicate).life.source = s.life.source ∧
    (s.enterDuplicate).life.withdraw = s.life.withdraw ∧ (s.enterDuplicate).life.withdrawFor = s.life.withdrawFor ∧
    (s.enterDuplicate).life.lineStuck = s.life.lineStuck ∧ (s.enterDuplicate).life.draws = s.life.draws ∧
    (s.enterDuplicate).loader = s.loader ∧ (s.enterDuplicate).pic = s.pic ∧ (s.enterDuplicate).input = s.input ∧
    (s.enterDuplicate).cond = s.cond ∧ (s.enterDuplicate).ann.seqTruth = s.ann.seqTruth ∧
    (s.enterDuplicate).ann.edges = s.ann.edges ∧ (s.enterDuplicate).ann.clears = s.ann.clears ∧
    (s.enterDuplicate).ann.attention = s.ann.attention ∧ (s.enterDuplicate).frame.nextSeq = s.frame.nextSeq ∧
    (s.enterDuplicate).frame.first = s.frame.first ∧ (s.enterDuplicate).frame.discarded = s.frame.discarded ∧
    (s.enterDuplicate).line.w = s.line.w ∧ (s.enterDuplicate).line.blind = s.line.blind ∧
    (s.enterDuplicate).line.collisions = s.line.collisions ∧ (s.enterDuplicate).line.nextSlot = s.line.nextSlot ∧
    (s.enterDuplicate).out = s.out ∧ (s.enterDuplicate).journal.window = s.journal.window ∧
    (s.enterDuplicate).port = s.port ∧ (s.enterDuplicate).report = s.report ∧ (s.enterDuplicate).pending = s.pending := by
  simp [State.enterDuplicate]

@[simp] theorem State.duplicateNotice_keeps :
    (s.duplicateNotice).held = s.held ∧ (s.duplicateNotice).clock = s.clock ∧ (s.duplicateNotice).pins = s.pins ∧
    (s.duplicateNotice).settings = s.settings ∧ (s.duplicateNotice).life.fault = s.life.fault ∧
    (s.duplicateNotice).life.stn = s.life.stn ∧ (s.duplicateNotice).life.source = s.life.source ∧
    (s.duplicateNotice).life.withdraw = s.life.withdraw ∧ (s.duplicateNotice).life.withdrawFor = s.life.withdrawFor ∧
    (s.duplicateNotice).life.lineStuck = s.life.lineStuck ∧ (s.duplicateNotice).life.draws = s.life.draws ∧
    (s.duplicateNotice).loader = s.loader ∧ (s.duplicateNotice).pic = s.pic ∧ (s.duplicateNotice).input = s.input ∧
    (s.duplicateNotice).cond = s.cond ∧ (s.duplicateNotice).ann.seqTruth = s.ann.seqTruth ∧
    (s.duplicateNotice).ann.edges = s.ann.edges ∧ (s.duplicateNotice).ann.clears = s.ann.clears ∧
    (s.duplicateNotice).ann.attention = s.ann.attention ∧ (s.duplicateNotice).frame.nextSeq = s.frame.nextSeq ∧
    (s.duplicateNotice).frame.first = s.frame.first ∧ (s.duplicateNotice).frame.discarded = s.frame.discarded ∧
    (s.duplicateNotice).line.w = s.line.w ∧ (s.duplicateNotice).line.blind = s.line.blind ∧
    (s.duplicateNotice).line.collisions = s.line.collisions ∧ (s.duplicateNotice).line.nextSlot = s.line.nextSlot ∧
    (s.duplicateNotice).out = s.out ∧ (s.duplicateNotice).journal.window = s.journal.window ∧
    (s.duplicateNotice).port = s.port ∧ (s.duplicateNotice).report = s.report ∧
    (s.duplicateNotice).pending = s.pending := by
  simp only [State.duplicateNotice]
  (repeat' split); all_goals simp

@[simp] theorem State.enterListening_keeps :
    (s.enterListening).held = s.held ∧ (s.enterListening).clock = s.clock ∧ (s.enterListening).pins = s.pins ∧
    (s.enterListening).settings = s.settings ∧ (s.enterListening).life.fault = s.life.fault ∧
    (s.enterListening).life.stn = s.life.stn ∧ (s.enterListening).life.source = s.life.source ∧
    (s.enterListening).life.withdrawFor = s.life.withdrawFor ∧ (s.enterListening).life.lineStuck = s.life.lineStuck ∧
    (s.enterListening).life.draws = s.life.draws ∧ (s.enterListening).loader = s.loader ∧
    (s.enterListening).pic = s.pic ∧ (s.enterListening).input = s.input ∧ (s.enterListening).cond = s.cond ∧
    (s.enterListening).ann = s.ann ∧ (s.enterListening).frame = s.frame ∧
    (s.enterListening).line.state = s.line.state ∧ (s.enterListening).line.blind = s.line.blind ∧
    (s.enterListening).line.slot = s.line.slot ∧ (s.enterListening).line.collisions = s.line.collisions ∧
    (s.enterListening).line.rx = s.line.rx ∧ (s.enterListening).line.sending = s.line.sending ∧
    (s.enterListening).line.jam = s.line.jam ∧ (s.enterListening).line.nextSlot = s.line.nextSlot ∧
    (s.enterListening).out = s.out ∧ (s.enterListening).journal = s.journal ∧ (s.enterListening).port = s.port ∧
    (s.enterListening).report = s.report ∧ (s.enterListening).pending = s.pending := by
  simp [State.enterListening]

@[simp] theorem State.pointRewritten_keeps (st : Station) (p : PointIx) (before after : PointEntry) :
    (s.pointRewritten st p before after).held = s.held ∧ (s.pointRewritten st p before after).clock = s.clock ∧
    (s.pointRewritten st p before after).pins = s.pins ∧ (s.pointRewritten st p before after).settings = s.settings ∧
    (s.pointRewritten st p before after).life = s.life ∧ (s.pointRewritten st p before after).loader = s.loader ∧
    (s.pointRewritten st p before after).pic = s.pic ∧ (s.pointRewritten st p before after).input = s.input ∧
    (s.pointRewritten st p before after).cond.run = s.cond.run ∧ (s.pointRewritten st p before after).ann = s.ann ∧
    (s.pointRewritten st p before after).frame = s.frame ∧ (s.pointRewritten st p before after).line = s.line ∧
    (s.pointRewritten st p before after).out = s.out ∧
    (s.pointRewritten st p before after).journal.window = s.journal.window ∧
    (s.pointRewritten st p before after).port = s.port ∧ (s.pointRewritten st p before after).report = s.report ∧
    (s.pointRewritten st p before after).pending = s.pending := by
  simp only [State.pointRewritten]
  (repeat' split); all_goals simp

@[simp] theorem State.condRewritten_keeps (st : Station) (c : CondIx) (before after : CondEntry) :
    (s.condRewritten st c before after).held = s.held ∧ (s.condRewritten st c before after).clock = s.clock ∧
    (s.condRewritten st c before after).pins = s.pins ∧ (s.condRewritten st c before after).settings = s.settings ∧
    (s.condRewritten st c before after).life = s.life ∧ (s.condRewritten st c before after).loader = s.loader ∧
    (s.condRewritten st c before after).pic = s.pic ∧ (s.condRewritten st c before after).input = s.input ∧
    (s.condRewritten st c before after).cond.run = s.cond.run ∧
    (s.condRewritten st c before after).ann.seqTruth = s.ann.seqTruth ∧
    (s.condRewritten st c before after).ann.edges = s.ann.edges ∧
    (s.condRewritten st c before after).ann.requests = s.ann.requests ∧
    (s.condRewritten st c before after).ann.attention = s.ann.attention ∧
    (s.condRewritten st c before after).frame = s.frame ∧ (s.condRewritten st c before after).line = s.line ∧
    (s.condRewritten st c before after).out = s.out ∧
    (s.condRewritten st c before after).journal.window = s.journal.window ∧
    (s.condRewritten st c before after).port = s.port ∧ (s.condRewritten st c before after).report = s.report ∧
    (s.condRewritten st c before after).pending = s.pending := by
  simp only [State.condRewritten]
  (repeat' split); all_goals simp

@[simp] theorem State.takeRow_keeps (st : Station) (f : StateFrame) :
    (s.takeRow st f).held = s.held ∧ (s.takeRow st f).clock = s.clock ∧ (s.takeRow st f).pins = s.pins ∧
    (s.takeRow st f).settings = s.settings ∧ (s.takeRow st f).life = s.life ∧ (s.takeRow st f).loader = s.loader ∧
    (s.takeRow st f).input = s.input ∧ (s.takeRow st f).cond.run = s.cond.run ∧
    (s.takeRow st f).ann.seqTruth = s.ann.seqTruth ∧ (s.takeRow st f).ann.edges = s.ann.edges ∧
    (s.takeRow st f).ann.attention = s.ann.attention ∧ (s.takeRow st f).frame.nextSeq = s.frame.nextSeq ∧
    (s.takeRow st f).frame.first = s.frame.first ∧ (s.takeRow st f).frame.refresh = s.frame.refresh ∧
    (s.takeRow st f).frame.discarded = s.frame.discarded ∧ (s.takeRow st f).line = s.line ∧
    (s.takeRow st f).out = s.out ∧ (s.takeRow st f).journal.window = s.journal.window ∧
    (s.takeRow st f).port = s.port ∧ (s.takeRow st f).report = s.report ∧ (s.takeRow st f).pending = s.pending := by
  simp only [State.takeRow, State.resolveRequest_keeps]
  refine ⟨?_, ?_, ?_, ?_, ?_, ?_, ?_, ?_, ?_, ?_, ?_, ?_, ?_, ?_, ?_, ?_, ?_, ?_, ?_, ?_, ?_⟩
  · refine (foldl_keeps (fun t : State => t.held) (fun t x => by (try dsimp only); (repeat' split); all_goals simp) _ _).trans ((foldl_keeps (fun t : State => t.held) (fun t x => by (try dsimp only); (repeat' split); all_goals simp) _ _).trans ?_)
    (repeat' split); all_goals simp
  · refine (foldl_keeps (fun t : State => t.clock) (fun t x => by (try dsimp only); (repeat' split); all_goals simp) _ _).trans ((foldl_keeps (fun t : State => t.clock) (fun t x => by (try dsimp only); (repeat' split); all_goals simp) _ _).trans ?_)
    (repeat' split); all_goals simp
  · refine (foldl_keeps (fun t : State => t.pins) (fun t x => by (try dsimp only); (repeat' split); all_goals simp) _ _).trans ((foldl_keeps (fun t : State => t.pins) (fun t x => by (try dsimp only); (repeat' split); all_goals simp) _ _).trans ?_)
    (repeat' split); all_goals simp
  · refine (foldl_keeps (fun t : State => t.settings) (fun t x => by (try dsimp only); (repeat' split); all_goals simp) _ _).trans ((foldl_keeps (fun t : State => t.settings) (fun t x => by (try dsimp only); (repeat' split); all_goals simp) _ _).trans ?_)
    (repeat' split); all_goals simp
  · refine (foldl_keeps (fun t : State => t.life) (fun t x => by (try dsimp only); (repeat' split); all_goals simp) _ _).trans ((foldl_keeps (fun t : State => t.life) (fun t x => by (try dsimp only); (repeat' split); all_goals simp) _ _).trans ?_)
    (repeat' split); all_goals simp
  · refine (foldl_keeps (fun t : State => t.loader) (fun t x => by (try dsimp only); (repeat' split); all_goals simp) _ _).trans ((foldl_keeps (fun t : State => t.loader) (fun t x => by (try dsimp only); (repeat' split); all_goals simp) _ _).trans ?_)
    (repeat' split); all_goals simp
  · refine (foldl_keeps (fun t : State => t.input) (fun t x => by (try dsimp only); (repeat' split); all_goals simp) _ _).trans ((foldl_keeps (fun t : State => t.input) (fun t x => by (try dsimp only); (repeat' split); all_goals simp) _ _).trans ?_)
    (repeat' split); all_goals simp
  · refine (foldl_keeps (fun t : State => t.cond.run) (fun t x => by (try dsimp only); (repeat' split); all_goals simp) _ _).trans ((foldl_keeps (fun t : State => t.cond.run) (fun t x => by (try dsimp only); (repeat' split); all_goals simp) _ _).trans ?_)
    (repeat' split); all_goals simp
  · refine (foldl_keeps (fun t : State => t.ann.seqTruth) (fun t x => by (try dsimp only); (repeat' split); all_goals simp) _ _).trans ((foldl_keeps (fun t : State => t.ann.seqTruth) (fun t x => by (try dsimp only); (repeat' split); all_goals simp) _ _).trans ?_)
    (repeat' split); all_goals simp
  · refine (foldl_keeps (fun t : State => t.ann.edges) (fun t x => by (try dsimp only); (repeat' split); all_goals simp) _ _).trans ((foldl_keeps (fun t : State => t.ann.edges) (fun t x => by (try dsimp only); (repeat' split); all_goals simp) _ _).trans ?_)
    (repeat' split); all_goals simp
  · refine (foldl_keeps (fun t : State => t.ann.attention) (fun t x => by (try dsimp only); (repeat' split); all_goals simp) _ _).trans ((foldl_keeps (fun t : State => t.ann.attention) (fun t x => by (try dsimp only); (repeat' split); all_goals simp) _ _).trans ?_)
    (repeat' split); all_goals simp
  · refine (foldl_keeps (fun t : State => t.frame.nextSeq) (fun t x => by (try dsimp only); (repeat' split); all_goals simp) _ _).trans ((foldl_keeps (fun t : State => t.frame.nextSeq) (fun t x => by (try dsimp only); (repeat' split); all_goals simp) _ _).trans ?_)
    (repeat' split); all_goals simp
  · refine (foldl_keeps (fun t : State => t.frame.first) (fun t x => by (try dsimp only); (repeat' split); all_goals simp) _ _).trans ((foldl_keeps (fun t : State => t.frame.first) (fun t x => by (try dsimp only); (repeat' split); all_goals simp) _ _).trans ?_)
    (repeat' split); all_goals simp
  · refine (foldl_keeps (fun t : State => t.frame.refresh) (fun t x => by (try dsimp only); (repeat' split); all_goals simp) _ _).trans ((foldl_keeps (fun t : State => t.frame.refresh) (fun t x => by (try dsimp only); (repeat' split); all_goals simp) _ _).trans ?_)
    (repeat' split); all_goals simp
  · refine (foldl_keeps (fun t : State => t.frame.discarded) (fun t x => by (try dsimp only); (repeat' split); all_goals simp) _ _).trans ((foldl_keeps (fun t : State => t.frame.discarded) (fun t x => by (try dsimp only); (repeat' split); all_goals simp) _ _).trans ?_)
    (repeat' split); all_goals simp
  · refine (foldl_keeps (fun t : State => t.line) (fun t x => by (try dsimp only); (repeat' split); all_goals simp) _ _).trans ((foldl_keeps (fun t : State => t.line) (fun t x => by (try dsimp only); (repeat' split); all_goals simp) _ _).trans ?_)
    (repeat' split); all_goals simp
  · refine (foldl_keeps (fun t : State => t.out) (fun t x => by (try dsimp only); (repeat' split); all_goals simp) _ _).trans ((foldl_keeps (fun t : State => t.out) (fun t x => by (try dsimp only); (repeat' split); all_goals simp) _ _).trans ?_)
    (repeat' split); all_goals simp
  · refine (foldl_keeps (fun t : State => t.journal.window) (fun t x => by (try dsimp only); (repeat' split); all_goals simp) _ _).trans ((foldl_keeps (fun t : State => t.journal.window) (fun t x => by (try dsimp only); (repeat' split); all_goals simp) _ _).trans ?_)
    (repeat' split); all_goals simp
  · refine (foldl_keeps (fun t : State => t.port) (fun t x => by (try dsimp only); (repeat' split); all_goals simp) _ _).trans ((foldl_keeps (fun t : State => t.port) (fun t x => by (try dsimp only); (repeat' split); all_goals simp) _ _).trans ?_)
    (repeat' split); all_goals simp
  · refine (foldl_keeps (fun t : State => t.report) (fun t x => by (try dsimp only); (repeat' split); all_goals simp) _ _).trans ((foldl_keeps (fun t : State => t.report) (fun t x => by (try dsimp only); (repeat' split); all_goals simp) _ _).trans ?_)
    (repeat' split); all_goals simp
  · refine (foldl_keeps (fun t : State => t.pending) (fun t x => by (try dsimp only); (repeat' split); all_goals simp) _ _).trans ((foldl_keeps (fun t : State => t.pending) (fun t x => by (try dsimp only); (repeat' split); all_goals simp) _ _).trans ?_)
    (repeat' split); all_goals simp

@[simp] theorem State.strangerState_keeps (st : Station) :
    (s.strangerState st).held = s.held ∧ (s.strangerState st).clock = s.clock ∧ (s.strangerState st).pins = s.pins ∧
    (s.strangerState st).settings = s.settings ∧ (s.strangerState st).life = s.life ∧
    (s.strangerState st).loader = s.loader ∧ (s.strangerState st).pic.points = s.pic.points ∧
    (s.strangerState st).pic.conds = s.pic.conds ∧ (s.strangerState st).input = s.input ∧
    (s.strangerState st).cond = s.cond ∧ (s.strangerState st).ann = s.ann ∧ (s.strangerState st).frame = s.frame ∧
    (s.strangerState st).line = s.line ∧ (s.strangerState st).out = s.out ∧
    (s.strangerState st).journal.window = s.journal.window ∧ (s.strangerState st).port = s.port ∧
    (s.strangerState st).report = s.report ∧ (s.strangerState st).pending = s.pending := by
  simp only [State.strangerState]
  (repeat' split); all_goals simp

@[simp] theorem State.takeState_keeps (st : Station) (f : StateFrame) :
    (s.takeState st f).held = s.held ∧ (s.takeState st f).clock = s.clock ∧ (s.takeState st f).pins = s.pins ∧
    (s.takeState st f).settings = s.settings ∧ (s.takeState st f).life = s.life ∧
    (s.takeState st f).loader = s.loader ∧ (s.takeState st f).input = s.input ∧
    (s.takeState st f).cond.run = s.cond.run ∧ (s.takeState st f).ann.seqTruth = s.ann.seqTruth ∧
    (s.takeState st f).ann.edges = s.ann.edges ∧ (s.takeState st f).ann.attention = s.ann.attention ∧
    (s.takeState st f).frame.nextSeq = s.frame.nextSeq ∧ (s.takeState st f).frame.first = s.frame.first ∧
    (s.takeState st f).frame.refresh = s.frame.refresh ∧ (s.takeState st f).frame.discarded = s.frame.discarded ∧
    (s.takeState st f).line = s.line ∧ (s.takeState st f).out = s.out ∧
    (s.takeState st f).journal.window = s.journal.window ∧ (s.takeState st f).port = s.port ∧
    (s.takeState st f).report = s.report ∧ (s.takeState st f).pending = s.pending := by
  simp only [State.takeState]
  (repeat' split); all_goals simp

@[simp] theorem State.heard_keeps (st : Station) :
    (s.heard st).held = s.held ∧ (s.heard st).clock = s.clock ∧ (s.heard st).pins = s.pins ∧
    (s.heard st).settings = s.settings ∧ (s.heard st).life = s.life ∧ (s.heard st).loader = s.loader ∧
    (s.heard st).pic.points = s.pic.points ∧ (s.heard st).pic.conds = s.pic.conds ∧ (s.heard st).input = s.input ∧
    (s.heard st).cond = s.cond ∧ (s.heard st).ann = s.ann ∧ (s.heard st).frame = s.frame ∧
    (s.heard st).line = s.line ∧ (s.heard st).out = s.out ∧ (s.heard st).journal = s.journal ∧
    (s.heard st).port = s.port ∧ (s.heard st).report = s.report ∧ (s.heard st).pending = s.pending := by
  simp only [State.heard]
  (repeat' split); all_goals simp

@[simp] theorem State.becomeAbsent_keeps (st : Station) :
    (s.becomeAbsent st).held = s.held ∧ (s.becomeAbsent st).clock = s.clock ∧ (s.becomeAbsent st).pins = s.pins ∧
    (s.becomeAbsent st).settings = s.settings ∧ (s.becomeAbsent st).life = s.life ∧
    (s.becomeAbsent st).loader = s.loader ∧ (s.becomeAbsent st).input = s.input ∧
    (s.becomeAbsent st).cond.run = s.cond.run ∧ (s.becomeAbsent st).ann.seqTruth = s.ann.seqTruth ∧
    (s.becomeAbsent st).ann.edges = s.ann.edges ∧ (s.becomeAbsent st).ann.attention = s.ann.attention ∧
    (s.becomeAbsent st).frame.nextSeq = s.frame.nextSeq ∧ (s.becomeAbsent st).frame.first = s.frame.first ∧
    (s.becomeAbsent st).frame.refresh = s.frame.refresh ∧ (s.becomeAbsent st).frame.discarded = s.frame.discarded ∧
    (s.becomeAbsent st).line = s.line ∧ (s.becomeAbsent st).out = s.out ∧
    (s.becomeAbsent st).journal.window = s.journal.window ∧ (s.becomeAbsent st).port = s.port ∧
    (s.becomeAbsent st).report = s.report ∧ (s.becomeAbsent st).pending = s.pending := by
  simp only [State.becomeAbsent, State.failTarget_keeps]
  refine ⟨?_, ?_, ?_, ?_, ?_, ?_, ?_, ?_, ?_, ?_, ?_, ?_, ?_, ?_, ?_, ?_, ?_, ?_, ?_, ?_, ?_⟩
  · exact (foldl_keeps (fun t : State => t.held) (fun t x => by (try dsimp only); (repeat' split); all_goals simp) _ _).trans ((foldl_keeps (fun t : State => t.held) (fun t x => by (try dsimp only); (repeat' split); all_goals simp) _ _).trans (by simp))
  · exact (foldl_keeps (fun t : State => t.clock) (fun t x => by (try dsimp only); (repeat' split); all_goals simp) _ _).trans ((foldl_keeps (fun t : State => t.clock) (fun t x => by (try dsimp only); (repeat' split); all_goals simp) _ _).trans (by simp))
  · exact (foldl_keeps (fun t : State => t.pins) (fun t x => by (try dsimp only); (repeat' split); all_goals simp) _ _).trans ((foldl_keeps (fun t : State => t.pins) (fun t x => by (try dsimp only); (repeat' split); all_goals simp) _ _).trans (by simp))
  · exact (foldl_keeps (fun t : State => t.settings) (fun t x => by (try dsimp only); (repeat' split); all_goals simp) _ _).trans ((foldl_keeps (fun t : State => t.settings) (fun t x => by (try dsimp only); (repeat' split); all_goals simp) _ _).trans (by simp))
  · exact (foldl_keeps (fun t : State => t.life) (fun t x => by (try dsimp only); (repeat' split); all_goals simp) _ _).trans ((foldl_keeps (fun t : State => t.life) (fun t x => by (try dsimp only); (repeat' split); all_goals simp) _ _).trans (by simp))
  · exact (foldl_keeps (fun t : State => t.loader) (fun t x => by (try dsimp only); (repeat' split); all_goals simp) _ _).trans ((foldl_keeps (fun t : State => t.loader) (fun t x => by (try dsimp only); (repeat' split); all_goals simp) _ _).trans (by simp))
  · exact (foldl_keeps (fun t : State => t.input) (fun t x => by (try dsimp only); (repeat' split); all_goals simp) _ _).trans ((foldl_keeps (fun t : State => t.input) (fun t x => by (try dsimp only); (repeat' split); all_goals simp) _ _).trans (by simp))
  · exact (foldl_keeps (fun t : State => t.cond.run) (fun t x => by (try dsimp only); (repeat' split); all_goals simp) _ _).trans ((foldl_keeps (fun t : State => t.cond.run) (fun t x => by (try dsimp only); (repeat' split); all_goals simp) _ _).trans (by simp))
  · exact (foldl_keeps (fun t : State => t.ann.seqTruth) (fun t x => by (try dsimp only); (repeat' split); all_goals simp) _ _).trans ((foldl_keeps (fun t : State => t.ann.seqTruth) (fun t x => by (try dsimp only); (repeat' split); all_goals simp) _ _).trans (by simp))
  · exact (foldl_keeps (fun t : State => t.ann.edges) (fun t x => by (try dsimp only); (repeat' split); all_goals simp) _ _).trans ((foldl_keeps (fun t : State => t.ann.edges) (fun t x => by (try dsimp only); (repeat' split); all_goals simp) _ _).trans (by simp))
  · exact (foldl_keeps (fun t : State => t.ann.attention) (fun t x => by (try dsimp only); (repeat' split); all_goals simp) _ _).trans ((foldl_keeps (fun t : State => t.ann.attention) (fun t x => by (try dsimp only); (repeat' split); all_goals simp) _ _).trans (by simp))
  · exact (foldl_keeps (fun t : State => t.frame.nextSeq) (fun t x => by (try dsimp only); (repeat' split); all_goals simp) _ _).trans ((foldl_keeps (fun t : State => t.frame.nextSeq) (fun t x => by (try dsimp only); (repeat' split); all_goals simp) _ _).trans (by simp))
  · exact (foldl_keeps (fun t : State => t.frame.first) (fun t x => by (try dsimp only); (repeat' split); all_goals simp) _ _).trans ((foldl_keeps (fun t : State => t.frame.first) (fun t x => by (try dsimp only); (repeat' split); all_goals simp) _ _).trans (by simp))
  · exact (foldl_keeps (fun t : State => t.frame.refresh) (fun t x => by (try dsimp only); (repeat' split); all_goals simp) _ _).trans ((foldl_keeps (fun t : State => t.frame.refresh) (fun t x => by (try dsimp only); (repeat' split); all_goals simp) _ _).trans (by simp))
  · exact (foldl_keeps (fun t : State => t.frame.discarded) (fun t x => by (try dsimp only); (repeat' split); all_goals simp) _ _).trans ((foldl_keeps (fun t : State => t.frame.discarded) (fun t x => by (try dsimp only); (repeat' split); all_goals simp) _ _).trans (by simp))
  · exact (foldl_keeps (fun t : State => t.line) (fun t x => by (try dsimp only); (repeat' split); all_goals simp) _ _).trans ((foldl_keeps (fun t : State => t.line) (fun t x => by (try dsimp only); (repeat' split); all_goals simp) _ _).trans (by simp))
  · exact (foldl_keeps (fun t : State => t.out) (fun t x => by (try dsimp only); (repeat' split); all_goals simp) _ _).trans ((foldl_keeps (fun t : State => t.out) (fun t x => by (try dsimp only); (repeat' split); all_goals simp) _ _).trans (by simp))
  · exact (foldl_keeps (fun t : State => t.journal.window) (fun t x => by (try dsimp only); (repeat' split); all_goals simp) _ _).trans ((foldl_keeps (fun t : State => t.journal.window) (fun t x => by (try dsimp only); (repeat' split); all_goals simp) _ _).trans (by simp))
  · exact (foldl_keeps (fun t : State => t.port) (fun t x => by (try dsimp only); (repeat' split); all_goals simp) _ _).trans ((foldl_keeps (fun t : State => t.port) (fun t x => by (try dsimp only); (repeat' split); all_goals simp) _ _).trans (by simp))
  · exact (foldl_keeps (fun t : State => t.report) (fun t x => by (try dsimp only); (repeat' split); all_goals simp) _ _).trans ((foldl_keeps (fun t : State => t.report) (fun t x => by (try dsimp only); (repeat' split); all_goals simp) _ _).trans (by simp))
  · exact (foldl_keeps (fun t : State => t.pending) (fun t x => by (try dsimp only); (repeat' split); all_goals simp) _ _).trans ((foldl_keeps (fun t : State => t.pending) (fun t x => by (try dsimp only); (repeat' split); all_goals simp) _ _).trans (by simp))

@[simp] theorem State.receiveFrame_keeps (bytes : List Byte) :
    (s.receiveFrame bytes).held = s.held ∧ (s.receiveFrame bytes).clock = s.clock ∧
    (s.receiveFrame bytes).pins = s.pins ∧ (s.receiveFrame bytes).settings = s.settings ∧
    (s.receiveFrame bytes).life.fault = s.life.fault ∧ (s.receiveFrame bytes).life.stn = s.life.stn ∧
    (s.receiveFrame bytes).life.source = s.life.source ∧ (s.receiveFrame bytes).life.withdraw = s.life.withdraw ∧
    (s.receiveFrame bytes).life.withdrawFor = s.life.withdrawFor ∧
    (s.receiveFrame bytes).life.lineStuck = s.life.lineStuck ∧ (s.receiveFrame bytes).life.draws = s.life.draws ∧
    (s.receiveFrame bytes).loader = s.loader ∧ (s.receiveFrame bytes).input = s.input ∧
    (s.receiveFrame bytes).cond.run = s.cond.run ∧ (s.receiveFrame bytes).ann.seqTruth = s.ann.seqTruth ∧
    (s.receiveFrame bytes).ann.edges = s.ann.edges ∧ (s.receiveFrame bytes).ann.attention = s.ann.attention ∧
    (s.receiveFrame bytes).frame.nextSeq = s.frame.nextSeq ∧ (s.receiveFrame bytes).frame.first = s.frame.first ∧
    (s.receiveFrame bytes).line.w = s.line.w ∧ (s.receiveFrame bytes).line.blind = s.line.blind ∧
    (s.receiveFrame bytes).line.collisions = s.line.collisions ∧
    (s.receiveFrame bytes).line.nextSlot = s.line.nextSlot ∧ (s.receiveFrame bytes).out.levels = s.out.levels ∧
    (s.receiveFrame bytes).out.horn = s.out.horn ∧ (s.receiveFrame bytes).out.phase = s.out.phase ∧
    (s.receiveFrame bytes).out.testLevel = s.out.testLevel ∧ (s.receiveFrame bytes).out.lampTest = s.out.lampTest ∧
    (s.receiveFrame bytes).journal.window = s.journal.window ∧ (s.receiveFrame bytes).port = s.port ∧
    (s.receiveFrame bytes).pending = s.pending := by
  simp only [State.receiveFrame]
  (repeat' split); all_goals simp

@[simp] theorem State.takeSettings_keeps (set : Settings) :
    (s.takeSettings set).held = s.held ∧ (s.takeSettings set).clock = s.clock ∧ (s.takeSettings set).pins = s.pins ∧
    (s.takeSettings set).life.life = s.life.life ∧ (s.takeSettings set).life.stn = s.life.stn ∧
    (s.takeSettings set).life.source = s.life.source ∧ (s.takeSettings set).life.listen = s.life.listen ∧
    (s.takeSettings set).life.withdraw = s.life.withdraw ∧
    (s.takeSettings set).life.withdrawFor = s.life.withdrawFor ∧
    (s.takeSettings set).life.lineStuck = s.life.lineStuck ∧ (s.takeSettings set).life.draws = s.life.draws ∧
    (s.takeSettings set).loader = s.loader ∧ (s.takeSettings set).pic = s.pic ∧ (s.takeSettings set).input = s.input ∧
    (s.takeSettings set).cond = s.cond ∧ (s.takeSettings set).ann.seqTruth = s.ann.seqTruth ∧
    (s.takeSettings set).ann.edges = s.ann.edges ∧ (s.takeSettings set).ann.clears = s.ann.clears ∧
    (s.takeSettings set).ann.requests = s.ann.requests ∧ (s.takeSettings set).frame = s.frame ∧
    (s.takeSettings set).line = s.line ∧ (s.takeSettings set).out = s.out ∧ (s.takeSettings set).journal = s.journal ∧
    (s.takeSettings set).port = s.port ∧ (s.takeSettings set).report = s.report ∧
    (s.takeSettings set).pending = s.pending := by
  simp [State.takeSettings]

@[simp] theorem State.startPicture_keeps :
    (s.startPicture).held = s.held ∧ (s.startPicture).clock = s.clock ∧ (s.startPicture).pins = s.pins ∧
    (s.startPicture).settings = s.settings ∧ (s.startPicture).life = s.life ∧ (s.startPicture).loader = s.loader ∧
    (s.startPicture).pic.points = s.pic.points ∧ (s.startPicture).input = s.input ∧
    (s.startPicture).cond.run = s.cond.run ∧ (s.startPicture).ann.seqTruth = s.ann.seqTruth ∧
    (s.startPicture).ann.edges = s.ann.edges ∧ (s.startPicture).ann.requests = s.ann.requests ∧
    (s.startPicture).ann.attention = s.ann.attention ∧ (s.startPicture).frame = s.frame ∧
    (s.startPicture).line = s.line ∧ (s.startPicture).out = s.out ∧ (s.startPicture).journal = s.journal ∧
    (s.startPicture).port = s.port ∧ (s.startPicture).report = s.report ∧ (s.startPicture).pending = s.pending := by
  simp only [State.startPicture]
  refine ⟨?_, ?_, ?_, ?_, ?_, ?_, ?_, ?_, ?_, ?_, ?_, ?_, ?_, ?_, ?_, ?_, ?_, ?_, ?_, ?_⟩
  · exact (foldl_keeps (fun t : State => t.held) (fun t x => by (try dsimp only); (repeat' split); all_goals simp) _ _).trans (foldl_keeps (fun t : State => t.held) (fun t x => by (try dsimp only); (repeat' split); all_goals simp) _ _)
  · exact (foldl_keeps (fun t : State => t.clock) (fun t x => by (try dsimp only); (repeat' split); all_goals simp) _ _).trans (foldl_keeps (fun t : State => t.clock) (fun t x => by (try dsimp only); (repeat' split); all_goals simp) _ _)
  · exact (foldl_keeps (fun t : State => t.pins) (fun t x => by (try dsimp only); (repeat' split); all_goals simp) _ _).trans (foldl_keeps (fun t : State => t.pins) (fun t x => by (try dsimp only); (repeat' split); all_goals simp) _ _)
  · exact (foldl_keeps (fun t : State => t.settings) (fun t x => by (try dsimp only); (repeat' split); all_goals simp) _ _).trans (foldl_keeps (fun t : State => t.settings) (fun t x => by (try dsimp only); (repeat' split); all_goals simp) _ _)
  · exact (foldl_keeps (fun t : State => t.life) (fun t x => by (try dsimp only); (repeat' split); all_goals simp) _ _).trans (foldl_keeps (fun t : State => t.life) (fun t x => by (try dsimp only); (repeat' split); all_goals simp) _ _)
  · exact (foldl_keeps (fun t : State => t.loader) (fun t x => by (try dsimp only); (repeat' split); all_goals simp) _ _).trans (foldl_keeps (fun t : State => t.loader) (fun t x => by (try dsimp only); (repeat' split); all_goals simp) _ _)
  · exact (foldl_keeps (fun t : State => t.pic.points) (fun t x => by (try dsimp only); (repeat' split); all_goals simp) _ _).trans (foldl_keeps (fun t : State => t.pic.points) (fun t x => by (try dsimp only); (repeat' split); all_goals simp) _ _)
  · exact (foldl_keeps (fun t : State => t.input) (fun t x => by (try dsimp only); (repeat' split); all_goals simp) _ _).trans (foldl_keeps (fun t : State => t.input) (fun t x => by (try dsimp only); (repeat' split); all_goals simp) _ _)
  · exact (foldl_keeps (fun t : State => t.cond.run) (fun t x => by (try dsimp only); (repeat' split); all_goals simp) _ _).trans (foldl_keeps (fun t : State => t.cond.run) (fun t x => by (try dsimp only); (repeat' split); all_goals simp) _ _)
  · exact (foldl_keeps (fun t : State => t.ann.seqTruth) (fun t x => by (try dsimp only); (repeat' split); all_goals simp) _ _).trans (foldl_keeps (fun t : State => t.ann.seqTruth) (fun t x => by (try dsimp only); (repeat' split); all_goals simp) _ _)
  · exact (foldl_keeps (fun t : State => t.ann.edges) (fun t x => by (try dsimp only); (repeat' split); all_goals simp) _ _).trans (foldl_keeps (fun t : State => t.ann.edges) (fun t x => by (try dsimp only); (repeat' split); all_goals simp) _ _)
  · exact (foldl_keeps (fun t : State => t.ann.requests) (fun t x => by (try dsimp only); (repeat' split); all_goals simp) _ _).trans (foldl_keeps (fun t : State => t.ann.requests) (fun t x => by (try dsimp only); (repeat' split); all_goals simp) _ _)
  · exact (foldl_keeps (fun t : State => t.ann.attention) (fun t x => by (try dsimp only); (repeat' split); all_goals simp) _ _).trans (foldl_keeps (fun t : State => t.ann.attention) (fun t x => by (try dsimp only); (repeat' split); all_goals simp) _ _)
  · exact (foldl_keeps (fun t : State => t.frame) (fun t x => by (try dsimp only); (repeat' split); all_goals simp) _ _).trans (foldl_keeps (fun t : State => t.frame) (fun t x => by (try dsimp only); (repeat' split); all_goals simp) _ _)
  · exact (foldl_keeps (fun t : State => t.line) (fun t x => by (try dsimp only); (repeat' split); all_goals simp) _ _).trans (foldl_keeps (fun t : State => t.line) (fun t x => by (try dsimp only); (repeat' split); all_goals simp) _ _)
  · exact (foldl_keeps (fun t : State => t.out) (fun t x => by (try dsimp only); (repeat' split); all_goals simp) _ _).trans (foldl_keeps (fun t : State => t.out) (fun t x => by (try dsimp only); (repeat' split); all_goals simp) _ _)
  · exact (foldl_keeps (fun t : State => t.journal) (fun t x => by (try dsimp only); (repeat' split); all_goals simp) _ _).trans (foldl_keeps (fun t : State => t.journal) (fun t x => by (try dsimp only); (repeat' split); all_goals simp) _ _)
  · exact (foldl_keeps (fun t : State => t.port) (fun t x => by (try dsimp only); (repeat' split); all_goals simp) _ _).trans (foldl_keeps (fun t : State => t.port) (fun t x => by (try dsimp only); (repeat' split); all_goals simp) _ _)
  · exact (foldl_keeps (fun t : State => t.report) (fun t x => by (try dsimp only); (repeat' split); all_goals simp) _ _).trans (foldl_keeps (fun t : State => t.report) (fun t x => by (try dsimp only); (repeat' split); all_goals simp) _ _)
  · exact (foldl_keeps (fun t : State => t.pending) (fun t x => by (try dsimp only); (repeat' split); all_goals simp) _ _).trans (foldl_keeps (fun t : State => t.pending) (fun t x => by (try dsimp only); (repeat' split); all_goals simp) _ _)

@[simp] theorem State.startPoints_keeps :
    (s.startPoints).held = s.held ∧ (s.startPoints).clock = s.clock ∧ (s.startPoints).pins = s.pins ∧
    (s.startPoints).settings = s.settings ∧ (s.startPoints).life = s.life ∧ (s.startPoints).loader = s.loader ∧
    (s.startPoints).pic.roster = s.pic.roster ∧ (s.startPoints).pic.conds = s.pic.conds ∧
    (s.startPoints).cond.run = s.cond.run ∧ (s.startPoints).ann = s.ann ∧ (s.startPoints).frame = s.frame ∧
    (s.startPoints).line = s.line ∧ (s.startPoints).out.levels = s.out.levels ∧
    (s.startPoints).out.horn = s.out.horn ∧ (s.startPoints).out.phase = s.out.phase ∧
    (s.startPoints).out.lampTest = s.out.lampTest ∧ (s.startPoints).out.latch = s.out.latch ∧
    (s.startPoints).journal = s.journal ∧ (s.startPoints).port = s.port ∧ (s.startPoints).report = s.report ∧
    (s.startPoints).pending = s.pending := by
  simp only [State.startPoints]
  refine ⟨?_, ?_, ?_, ?_, ?_, ?_, ?_, ?_, ?_, ?_, ?_, ?_, ?_, ?_, ?_, ?_, ?_, ?_, ?_, ?_, ?_⟩
  · exact (foldl_keeps (fun t : State => t.held) (fun t x => by (try dsimp only); (repeat' split); all_goals simp) _ _).trans (by simp)
  · exact (foldl_keeps (fun t : State => t.clock) (fun t x => by (try dsimp only); (repeat' split); all_goals simp) _ _).trans (by simp)
  · exact (foldl_keeps (fun t : State => t.pins) (fun t x => by (try dsimp only); (repeat' split); all_goals simp) _ _).trans (by simp)
  · exact (foldl_keeps (fun t : State => t.settings) (fun t x => by (try dsimp only); (repeat' split); all_goals simp) _ _).trans (by simp)
  · exact (foldl_keeps (fun t : State => t.life) (fun t x => by (try dsimp only); (repeat' split); all_goals simp) _ _).trans (by simp)
  · exact (foldl_keeps (fun t : State => t.loader) (fun t x => by (try dsimp only); (repeat' split); all_goals simp) _ _).trans (by simp)
  · exact (foldl_keeps (fun t : State => t.pic.roster) (fun t x => by (try dsimp only); (repeat' split); all_goals simp) _ _).trans (by simp)
  · exact (foldl_keeps (fun t : State => t.pic.conds) (fun t x => by (try dsimp only); (repeat' split); all_goals simp) _ _).trans (by simp)
  · exact (foldl_keeps (fun t : State => t.cond.run) (fun t x => by (try dsimp only); (repeat' split); all_goals simp) _ _).trans (by simp)
  · exact (foldl_keeps (fun t : State => t.ann) (fun t x => by (try dsimp only); (repeat' split); all_goals simp) _ _).trans (by simp)
  · exact (foldl_keeps (fun t : State => t.frame) (fun t x => by (try dsimp only); (repeat' split); all_goals simp) _ _).trans (by simp)
  · exact (foldl_keeps (fun t : State => t.line) (fun t x => by (try dsimp only); (repeat' split); all_goals simp) _ _).trans (by simp)
  · exact (foldl_keeps (fun t : State => t.out.levels) (fun t x => by (try dsimp only); (repeat' split); all_goals simp) _ _).trans (by simp)
  · exact (foldl_keeps (fun t : State => t.out.horn) (fun t x => by (try dsimp only); (repeat' split); all_goals simp) _ _).trans (by simp)
  · exact (foldl_keeps (fun t : State => t.out.phase) (fun t x => by (try dsimp only); (repeat' split); all_goals simp) _ _).trans (by simp)
  · exact (foldl_keeps (fun t : State => t.out.lampTest) (fun t x => by (try dsimp only); (repeat' split); all_goals simp) _ _).trans (by simp)
  · exact (foldl_keeps (fun t : State => t.out.latch) (fun t x => by (try dsimp only); (repeat' split); all_goals simp) _ _).trans (by simp)
  · exact (foldl_keeps (fun t : State => t.journal) (fun t x => by (try dsimp only); (repeat' split); all_goals simp) _ _).trans (by simp)
  · exact (foldl_keeps (fun t : State => t.port) (fun t x => by (try dsimp only); (repeat' split); all_goals simp) _ _).trans (by simp)
  · exact (foldl_keeps (fun t : State => t.report) (fun t x => by (try dsimp only); (repeat' split); all_goals simp) _ _).trans (by simp)
  · exact (foldl_keeps (fun t : State => t.pending) (fun t x => by (try dsimp only); (repeat' split); all_goals simp) _ _).trans (by simp)

@[simp] theorem State.startRunning_keeps :
    (s.startRunning).held = s.held ∧ (s.startRunning).clock = s.clock ∧ (s.startRunning).pins = s.pins ∧
    (s.startRunning).settings = s.settings ∧ (s.startRunning).life.fault = s.life.fault ∧
    (s.startRunning).life.stn = s.life.stn ∧ (s.startRunning).life.source = s.life.source ∧
    (s.startRunning).life.withdrawFor = s.life.withdrawFor ∧ (s.startRunning).life.lineStuck = s.life.lineStuck ∧
    (s.startRunning).life.draws = s.life.draws ∧ (s.startRunning).loader = s.loader ∧
    (s.startRunning).pic.roster = s.pic.roster ∧ (s.startRunning).pic.points = s.pic.points ∧
    (s.startRunning).input = s.input ∧ (s.startRunning).ann.requests = s.ann.requests ∧
    (s.startRunning).ann.attention = s.ann.attention ∧ (s.startRunning).frame.nextSeq = s.frame.nextSeq ∧
    (s.startRunning).frame.first = s.frame.first ∧ (s.startRunning).frame.refresh = s.frame.refresh ∧
    (s.startRunning).frame.discarded = s.frame.discarded ∧ (s.startRunning).line.blind = s.line.blind ∧
    (s.startRunning).line.collisions = s.line.collisions ∧ (s.startRunning).line.sending = s.line.sending ∧
    (s.startRunning).line.jam = s.line.jam ∧ (s.startRunning).line.nextSlot = s.line.nextSlot ∧
    (s.startRunning).out = s.out ∧ (s.startRunning).journal.window = s.journal.window ∧
    (s.startRunning).port = s.port ∧ (s.startRunning).pending = s.pending := by
  simp [State.startRunning]

@[simp] theorem State.acceptImage_keeps (set : Settings) :
    (s.acceptImage set).held = s.held ∧ (s.acceptImage set).clock = s.clock ∧ (s.acceptImage set).pins = s.pins ∧
    (s.acceptImage set).life.stn = s.life.stn ∧ (s.acceptImage set).life.source = s.life.source ∧
    (s.acceptImage set).life.withdrawFor = s.life.withdrawFor ∧
    (s.acceptImage set).life.lineStuck = s.life.lineStuck ∧ (s.acceptImage set).life.draws = s.life.draws ∧
    (s.acceptImage set).loader = s.loader ∧ (s.acceptImage set).ann.requests = s.ann.requests ∧
    (s.acceptImage set).frame.nextSeq = s.frame.nextSeq ∧ (s.acceptImage set).frame.first = s.frame.first ∧
    (s.acceptImage set).frame.refresh = s.frame.refresh ∧ (s.acceptImage set).frame.discarded = s.frame.discarded ∧
    (s.acceptImage set).line.blind = s.line.blind ∧ (s.acceptImage set).line.collisions = s.line.collisions ∧
    (s.acceptImage set).line.sending = s.line.sending ∧ (s.acceptImage set).line.jam = s.line.jam ∧
    (s.acceptImage set).line.nextSlot = s.line.nextSlot ∧ (s.acceptImage set).out.levels = s.out.levels ∧
    (s.acceptImage set).out.horn = s.out.horn ∧ (s.acceptImage set).out.phase = s.out.phase ∧
    (s.acceptImage set).out.lampTest = s.out.lampTest ∧ (s.acceptImage set).out.latch = s.out.latch ∧
    (s.acceptImage set).journal.window = s.journal.window ∧ (s.acceptImage set).port = s.port ∧
    (s.acceptImage set).pending = s.pending := by
  simp [State.acceptImage]

end Machine

end Sys2Proof
end

