-- ==== Sys2Proof/Laws/Commands.lean ====
section
/-!
SUPPORT. What each command's effect leaves as it was.
-/

namespace Sys2Proof

namespace Machine

variable (s : State)

@[simp] theorem State.memoryRead_keeps (l : MemoryPart) :
    (s.memoryRead l).held = s.held ∧ (s.memoryRead l).clock = s.clock ∧ (s.memoryRead l).pins = s.pins ∧
    (s.memoryRead l).settings = s.settings ∧ (s.memoryRead l).life = s.life ∧ (s.memoryRead l).pic = s.pic ∧
    (s.memoryRead l).input = s.input ∧ (s.memoryRead l).cond = s.cond ∧ (s.memoryRead l).ann = s.ann ∧
    (s.memoryRead l).frame = s.frame ∧ (s.memoryRead l).line = s.line ∧ (s.memoryRead l).out = s.out ∧
    (s.memoryRead l).journal = s.journal ∧ (s.memoryRead l).port = s.port ∧
    (s.memoryRead l).report = s.report ∧ (s.memoryRead l).pending = s.pending := by
  simp only [State.memoryRead]
  (repeat' split); all_goals simp

@[simp] theorem State.failImage_keeps (code : FaultCode) :
    (s.failImage code).held = s.held ∧ (s.failImage code).clock = s.clock ∧ (s.failImage code).pins = s.pins ∧
    (s.failImage code).settings = s.settings ∧ (s.failImage code).life.stn = s.life.stn ∧
    (s.failImage code).life.source = s.life.source ∧ (s.failImage code).life.listen = s.life.listen ∧
    (s.failImage code).life.withdraw = s.life.withdraw ∧ (s.failImage code).life.withdrawFor = s.life.withdrawFor ∧
    (s.failImage code).life.lineStuck = s.life.lineStuck ∧ (s.failImage code).life.draws = s.life.draws ∧
    (s.failImage code).loader = s.loader ∧ (s.failImage code).pic = s.pic ∧ (s.failImage code).input = s.input ∧
    (s.failImage code).cond = s.cond ∧ (s.failImage code).ann = s.ann ∧ (s.failImage code).frame = s.frame ∧
    (s.failImage code).line = s.line ∧ (s.failImage code).out = s.out ∧
    (s.failImage code).journal.window = s.journal.window ∧ (s.failImage code).report = s.report ∧
    (s.failImage code).pending = s.pending := by
  simp only [State.failImage]
  (repeat' split); all_goals simp

@[simp] theorem State.passImage_keeps (set : Settings) :
    (s.passImage set).held = s.held ∧ (s.passImage set).clock = s.clock ∧ (s.passImage set).pins = s.pins ∧
    (s.passImage set).life.stn = s.life.stn ∧ (s.passImage set).life.source = s.life.source ∧
    (s.passImage set).life.withdrawFor = s.life.withdrawFor ∧ (s.passImage set).life.lineStuck = s.life.lineStuck ∧
    (s.passImage set).life.draws = s.life.draws ∧ (s.passImage set).loader = s.loader ∧
    (s.passImage set).ann.requests = s.ann.requests ∧ (s.passImage set).frame.nextSeq = s.frame.nextSeq ∧
    (s.passImage set).frame.first = s.frame.first ∧ (s.passImage set).frame.refresh = s.frame.refresh ∧
    (s.passImage set).frame.discarded = s.frame.discarded ∧ (s.passImage set).line.blind = s.line.blind ∧
    (s.passImage set).line.collisions = s.line.collisions ∧ (s.passImage set).line.sending = s.line.sending ∧
    (s.passImage set).line.jam = s.line.jam ∧ (s.passImage set).line.nextSlot = s.line.nextSlot ∧
    (s.passImage set).out.levels = s.out.levels ∧ (s.passImage set).out.horn = s.out.horn ∧
    (s.passImage set).out.phase = s.out.phase ∧ (s.passImage set).out.lampTest = s.out.lampTest ∧
    (s.passImage set).out.latch = s.out.latch ∧ (s.passImage set).journal.window = s.journal.window ∧
    (s.passImage set).pending = s.pending := by
  simp only [State.passImage]
  (repeat' split); all_goals simp

@[simp] theorem State.imageCheckEnd_keeps :
    (s.imageCheckEnd).held = s.held ∧ (s.imageCheckEnd).clock = s.clock ∧ (s.imageCheckEnd).pins = s.pins ∧
    (s.imageCheckEnd).life.stn = s.life.stn ∧ (s.imageCheckEnd).life.source = s.life.source ∧
    (s.imageCheckEnd).life.withdrawFor = s.life.withdrawFor ∧ (s.imageCheckEnd).life.lineStuck = s.life.lineStuck ∧
    (s.imageCheckEnd).life.draws = s.life.draws ∧ (s.imageCheckEnd).frame.nextSeq = s.frame.nextSeq ∧
    (s.imageCheckEnd).frame.first = s.frame.first ∧ (s.imageCheckEnd).frame.refresh = s.frame.refresh ∧
    (s.imageCheckEnd).frame.discarded = s.frame.discarded ∧ (s.imageCheckEnd).line.blind = s.line.blind ∧
    (s.imageCheckEnd).line.collisions = s.line.collisions ∧ (s.imageCheckEnd).line.jam = s.line.jam ∧
    (s.imageCheckEnd).line.nextSlot = s.line.nextSlot ∧ (s.imageCheckEnd).out.phase = s.out.phase ∧
    (s.imageCheckEnd).out.lampTest = s.out.lampTest ∧ (s.imageCheckEnd).out.latch = s.out.latch ∧
    (s.imageCheckEnd).journal.window = s.journal.window ∧ (s.imageCheckEnd).pending = s.pending := by
  simp only [State.imageCheckEnd]
  (repeat' split); all_goals simp

@[simp] theorem State.enterActive_keeps :
    (s.enterActive).held = s.held ∧ (s.enterActive).clock = s.clock ∧ (s.enterActive).pins = s.pins ∧
    (s.enterActive).settings = s.settings ∧ (s.enterActive).life.fault = s.life.fault ∧
    (s.enterActive).life.stn = s.life.stn ∧ (s.enterActive).life.source = s.life.source ∧
    (s.enterActive).life.withdraw = s.life.withdraw ∧ (s.enterActive).life.withdrawFor = s.life.withdrawFor ∧
    (s.enterActive).life.lineStuck = s.life.lineStuck ∧ (s.enterActive).life.draws = s.life.draws ∧
    (s.enterActive).loader = s.loader ∧ (s.enterActive).pic = s.pic ∧ (s.enterActive).input = s.input ∧
    (s.enterActive).cond = s.cond ∧ (s.enterActive).ann = s.ann ∧ (s.enterActive).frame.nextSeq = s.frame.nextSeq ∧
    (s.enterActive).frame.first = s.frame.first ∧ (s.enterActive).frame.discarded = s.frame.discarded ∧
    (s.enterActive).line.state = s.line.state ∧ (s.enterActive).line.w = s.line.w ∧
    (s.enterActive).line.slot = s.line.slot ∧ (s.enterActive).line.collisions = s.line.collisions ∧
    (s.enterActive).line.rx = s.line.rx ∧ (s.enterActive).line.sending = s.line.sending ∧
    (s.enterActive).line.jam = s.line.jam ∧ (s.enterActive).line.nextSlot = s.line.nextSlot ∧
    (s.enterActive).out = s.out ∧ (s.enterActive).journal = s.journal ∧ (s.enterActive).port = s.port ∧
    (s.enterActive).report = s.report ∧ (s.enterActive).pending = s.pending := by
  simp [State.enterActive]

@[simp] theorem State.listenExpiry_keeps :
    (s.listenExpiry).held = s.held ∧ (s.listenExpiry).pins = s.pins ∧ (s.listenExpiry).settings = s.settings ∧
    (s.listenExpiry).life.fault = s.life.fault ∧ (s.listenExpiry).life.stn = s.life.stn ∧
    (s.listenExpiry).life.source = s.life.source ∧ (s.listenExpiry).life.withdraw = s.life.withdraw ∧
    (s.listenExpiry).life.withdrawFor = s.life.withdrawFor ∧ (s.listenExpiry).life.lineStuck = s.life.lineStuck ∧
    (s.listenExpiry).life.draws = s.life.draws ∧ (s.listenExpiry).loader = s.loader ∧ (s.listenExpiry).pic = s.pic ∧
    (s.listenExpiry).input = s.input ∧ (s.listenExpiry).cond = s.cond ∧
    (s.listenExpiry).ann.seqTruth = s.ann.seqTruth ∧ (s.listenExpiry).ann.edges = s.ann.edges ∧
    (s.listenExpiry).ann.clears = s.ann.clears ∧ (s.listenExpiry).ann.attention = s.ann.attention ∧
    (s.listenExpiry).frame.nextSeq = s.frame.nextSeq ∧ (s.listenExpiry).frame.first = s.frame.first ∧
    (s.listenExpiry).frame.discarded = s.frame.discarded ∧ (s.listenExpiry).line.w = s.line.w ∧
    (s.listenExpiry).line.collisions = s.line.collisions ∧ (s.listenExpiry).line.jam = s.line.jam ∧
    (s.listenExpiry).line.nextSlot = s.line.nextSlot ∧ (s.listenExpiry).out.testLevel = s.out.testLevel ∧
    (s.listenExpiry).out.lampTest = s.out.lampTest ∧ (s.listenExpiry).out.latch = s.out.latch ∧
    (s.listenExpiry).journal = s.journal ∧ (s.listenExpiry).port = s.port ∧ (s.listenExpiry).report = s.report ∧
    (s.listenExpiry).pending = s.pending := by
  simp only [State.listenExpiry]
  (repeat' split); all_goals simp

@[simp] theorem State.withdrawExpiry_keeps :
    (s.withdrawExpiry).held = s.held ∧ (s.withdrawExpiry).pins = s.pins ∧ (s.withdrawExpiry).settings = s.settings ∧
    (s.withdrawExpiry).life.fault = s.life.fault ∧ (s.withdrawExpiry).life.stn = s.life.stn ∧
    (s.withdrawExpiry).life.source = s.life.source ∧ (s.withdrawExpiry).life.withdrawFor = s.life.withdrawFor ∧
    (s.withdrawExpiry).life.lineStuck = s.life.lineStuck ∧ (s.withdrawExpiry).life.draws = s.life.draws ∧
    (s.withdrawExpiry).loader = s.loader ∧ (s.withdrawExpiry).pic = s.pic ∧ (s.withdrawExpiry).input = s.input ∧
    (s.withdrawExpiry).cond = s.cond ∧ (s.withdrawExpiry).ann = s.ann ∧ (s.withdrawExpiry).frame = s.frame ∧
    (s.withdrawExpiry).line.state = s.line.state ∧ (s.withdrawExpiry).line.blind = s.line.blind ∧
    (s.withdrawExpiry).line.slot = s.line.slot ∧ (s.withdrawExpiry).line.collisions = s.line.collisions ∧
    (s.withdrawExpiry).line.rx = s.line.rx ∧ (s.withdrawExpiry).line.sending = s.line.sending ∧
    (s.withdrawExpiry).line.jam = s.line.jam ∧ (s.withdrawExpiry).line.nextSlot = s.line.nextSlot ∧
    (s.withdrawExpiry).out.testLevel = s.out.testLevel ∧ (s.withdrawExpiry).out.lampTest = s.out.lampTest ∧
    (s.withdrawExpiry).out.latch = s.out.latch ∧ (s.withdrawExpiry).journal = s.journal ∧
    (s.withdrawExpiry).port = s.port ∧ (s.withdrawExpiry).report = s.report ∧ (s.withdrawExpiry).pending = s.pending := by
  simp only [State.withdrawExpiry]
  (repeat' split); all_goals simp

@[simp] theorem State.patternStep_keeps :
    (s.patternStep).held = s.held ∧ (s.patternStep).pins = s.pins ∧ (s.patternStep).settings = s.settings ∧
    (s.patternStep).life = s.life ∧ (s.patternStep).loader = s.loader ∧ (s.patternStep).pic = s.pic ∧
    (s.patternStep).input = s.input ∧ (s.patternStep).cond = s.cond ∧ (s.patternStep).ann = s.ann ∧
    (s.patternStep).frame = s.frame ∧ (s.patternStep).line = s.line ∧
    (s.patternStep).out.testLevel = s.out.testLevel ∧ (s.patternStep).out.lampTest = s.out.lampTest ∧
    (s.patternStep).out.latch = s.out.latch ∧ (s.patternStep).journal = s.journal ∧ (s.patternStep).port = s.port ∧
    (s.patternStep).report = s.report ∧ (s.patternStep).pending = s.pending := by
  simp [State.patternStep]

@[simp] theorem State.senseLine_keeps (n : PointIx) (active : Bool) :
    (s.senseLine n active).held = s.held ∧ (s.senseLine n active).clock = s.clock ∧
    (s.senseLine n active).pins = s.pins ∧ (s.senseLine n active).settings = s.settings ∧
    (s.senseLine n active).life = s.life ∧ (s.senseLine n active).loader = s.loader ∧
    (s.senseLine n active).pic = s.pic ∧ (s.senseLine n active).input.ack = s.input.ack ∧
    (s.senseLine n active).input.silence = s.input.silence ∧ (s.senseLine n active).input.test = s.input.test ∧
    (s.senseLine n active).cond = s.cond ∧ (s.senseLine n active).ann = s.ann ∧
    (s.senseLine n active).frame = s.frame ∧ (s.senseLine n active).line = s.line ∧
    (s.senseLine n active).out = s.out ∧ (s.senseLine n active).journal = s.journal ∧
    (s.senseLine n active).port = s.port ∧ (s.senseLine n active).report = s.report ∧
    (s.senseLine n active).pending = s.pending := by
  simp only [State.senseLine]
  (repeat' split); all_goals simp

@[simp] theorem State.inputLevel_keeps (n : PointIx) (active : Bool) :
    (s.inputLevel n active).held = s.held ∧ (s.inputLevel n active).clock = s.clock ∧
    (s.inputLevel n active).settings = s.settings ∧ (s.inputLevel n active).life = s.life ∧
    (s.inputLevel n active).loader = s.loader ∧ (s.inputLevel n active).pic = s.pic ∧
    (s.inputLevel n active).input.ack = s.input.ack ∧ (s.inputLevel n active).input.silence = s.input.silence ∧
    (s.inputLevel n active).input.test = s.input.test ∧ (s.inputLevel n active).cond = s.cond ∧
    (s.inputLevel n active).ann = s.ann ∧ (s.inputLevel n active).frame = s.frame ∧
    (s.inputLevel n active).line = s.line ∧ (s.inputLevel n active).out = s.out ∧
    (s.inputLevel n active).journal = s.journal ∧ (s.inputLevel n active).port = s.port ∧
    (s.inputLevel n active).report = s.report ∧ (s.inputLevel n active).pending = s.pending := by
  simp only [State.inputLevel]
  (repeat' split); all_goals simp

@[simp] theorem State.debounceExpiry_keeps (n : PointIx) :
    (s.debounceExpiry n).held = s.held ∧ (s.debounceExpiry n).pins = s.pins ∧
    (s.debounceExpiry n).settings = s.settings ∧ (s.debounceExpiry n).life = s.life ∧
    (s.debounceExpiry n).loader = s.loader ∧ (s.debounceExpiry n).pic.roster = s.pic.roster ∧
    (s.debounceExpiry n).pic.conds = s.pic.conds ∧ (s.debounceExpiry n).input.pairs = s.input.pairs ∧
    (s.debounceExpiry n).input.ack = s.input.ack ∧ (s.debounceExpiry n).input.silence = s.input.silence ∧
    (s.debounceExpiry n).input.test = s.input.test ∧ (s.debounceExpiry n).cond.run = s.cond.run ∧
    (s.debounceExpiry n).ann.seqTruth = s.ann.seqTruth ∧ (s.debounceExpiry n).ann.edges = s.ann.edges ∧
    (s.debounceExpiry n).ann.clears = s.ann.clears ∧ (s.debounceExpiry n).ann.attention = s.ann.attention ∧
    (s.debounceExpiry n).frame.nextSeq = s.frame.nextSeq ∧ (s.debounceExpiry n).frame.first = s.frame.first ∧
    (s.debounceExpiry n).frame.refresh = s.frame.refresh ∧ (s.debounceExpiry n).frame.discarded = s.frame.discarded ∧
    (s.debounceExpiry n).line.w = s.line.w ∧ (s.debounceExpiry n).line.blind = s.line.blind ∧
    (s.debounceExpiry n).line.collisions = s.line.collisions ∧
    (s.debounceExpiry n).line.jam = s.line.jam ∧ (s.debounceExpiry n).line.nextSlot = s.line.nextSlot ∧
    (s.debounceExpiry n).out.testLevel = s.out.testLevel ∧ (s.debounceExpiry n).out.lampTest = s.out.lampTest ∧
    (s.debounceExpiry n).out.latch = s.out.latch ∧ (s.debounceExpiry n).journal.window = s.journal.window ∧
    (s.debounceExpiry n).port = s.port ∧ (s.debounceExpiry n).report = s.report ∧
    (s.debounceExpiry n).pending = s.pending := by
  simp only [State.debounceExpiry]
  (repeat' split); all_goals simp

@[simp] theorem State.pairExpiry_keeps (k : PairIx) :
    (s.pairExpiry k).held = s.held ∧ (s.pairExpiry k).pins = s.pins ∧ (s.pairExpiry k).settings = s.settings ∧
    (s.pairExpiry k).life = s.life ∧ (s.pairExpiry k).loader = s.loader ∧ (s.pairExpiry k).pic.roster = s.pic.roster ∧
    (s.pairExpiry k).pic.conds = s.pic.conds ∧ (s.pairExpiry k).input.lines = s.input.lines ∧
    (s.pairExpiry k).input.ack = s.input.ack ∧ (s.pairExpiry k).input.silence = s.input.silence ∧
    (s.pairExpiry k).input.test = s.input.test ∧ (s.pairExpiry k).cond.run = s.cond.run ∧
    (s.pairExpiry k).ann.seqTruth = s.ann.seqTruth ∧ (s.pairExpiry k).ann.edges = s.ann.edges ∧
    (s.pairExpiry k).ann.clears = s.ann.clears ∧ (s.pairExpiry k).ann.attention = s.ann.attention ∧
    (s.pairExpiry k).frame.nextSeq = s.frame.nextSeq ∧ (s.pairExpiry k).frame.first = s.frame.first ∧
    (s.pairExpiry k).frame.refresh = s.frame.refresh ∧ (s.pairExpiry k).frame.discarded = s.frame.discarded ∧
    (s.pairExpiry k).line.w = s.line.w ∧ (s.pairExpiry k).line.blind = s.line.blind ∧
    (s.pairExpiry k).line.collisions = s.line.collisions ∧ (s.pairExpiry k).line.jam = s.line.jam ∧
    (s.pairExpiry k).line.nextSlot = s.line.nextSlot ∧ (s.pairExpiry k).out.testLevel = s.out.testLevel ∧
    (s.pairExpiry k).out.lampTest = s.out.lampTest ∧ (s.pairExpiry k).out.latch = s.out.latch ∧
    (s.pairExpiry k).journal.window = s.journal.window ∧ (s.pairExpiry k).port = s.port ∧
    (s.pairExpiry k).report = s.report ∧ (s.pairExpiry k).pending = s.pending := by
  simp only [State.pairExpiry]
  (repeat' split); all_goals simp

@[simp] theorem State.controlLevel_keeps (i : Control) (active : Bool) :
    (s.controlLevel i active).held = s.held ∧ (s.controlLevel i active).clock = s.clock ∧
    (s.controlLevel i active).settings = s.settings ∧ (s.controlLevel i active).life = s.life ∧
    (s.controlLevel i active).loader = s.loader ∧ (s.controlLevel i active).pic = s.pic ∧
    (s.controlLevel i active).input.lines = s.input.lines ∧ (s.controlLevel i active).input.pairs = s.input.pairs ∧
    (s.controlLevel i active).cond = s.cond ∧ (s.controlLevel i active).ann = s.ann ∧
    (s.controlLevel i active).frame = s.frame ∧ (s.controlLevel i active).line = s.line ∧
    (s.controlLevel i active).out = s.out ∧ (s.controlLevel i active).journal = s.journal ∧
    (s.controlLevel i active).port = s.port ∧ (s.controlLevel i active).report = s.report ∧
    (s.controlLevel i active).pending = s.pending := by
  simp only [State.controlLevel]
  (repeat' split); all_goals simp

@[simp] theorem State.controlExpiry_keeps (i : Control) :
    (s.controlExpiry i).held = s.held ∧ (s.controlExpiry i).pins = s.pins ∧
    (s.controlExpiry i).settings = s.settings ∧ (s.controlExpiry i).life = s.life ∧
    (s.controlExpiry i).loader = s.loader ∧ (s.controlExpiry i).pic.roster = s.pic.roster ∧
    (s.controlExpiry i).pic.points = s.pic.points ∧ (s.controlExpiry i).input.lines = s.input.lines ∧
    (s.controlExpiry i).input.pairs = s.input.pairs ∧ (s.controlExpiry i).cond.run = s.cond.run ∧
    (s.controlExpiry i).ann.seqTruth = s.ann.seqTruth ∧ (s.controlExpiry i).ann.edges = s.ann.edges ∧
    (s.controlExpiry i).ann.attention = s.ann.attention ∧ (s.controlExpiry i).frame.nextSeq = s.frame.nextSeq ∧
    (s.controlExpiry i).frame.first = s.frame.first ∧ (s.controlExpiry i).frame.refresh = s.frame.refresh ∧
    (s.controlExpiry i).frame.discarded = s.frame.discarded ∧ (s.controlExpiry i).line.w = s.line.w ∧
    (s.controlExpiry i).line.blind = s.line.blind ∧ (s.controlExpiry i).line.collisions = s.line.collisions ∧
    (s.controlExpiry i).line.jam = s.line.jam ∧ (s.controlExpiry i).line.nextSlot = s.line.nextSlot ∧
    (s.controlExpiry i).out.lampTest = s.out.lampTest ∧ (s.controlExpiry i).journal.window = s.journal.window ∧
    (s.controlExpiry i).port = s.port ∧ (s.controlExpiry i).pending = s.pending := by
  simp only [State.controlExpiry]
  (repeat' split); all_goals simp

@[simp] theorem State.evaluation_keeps :
    (s.evaluation).held = s.held ∧ (s.evaluation).clock = s.clock ∧ (s.evaluation).pins = s.pins ∧
    (s.evaluation).settings = s.settings ∧ (s.evaluation).life = s.life ∧ (s.evaluation).loader = s.loader ∧
    (s.evaluation).pic.roster = s.pic.roster ∧ (s.evaluation).pic.points = s.pic.points ∧
    (s.evaluation).input = s.input ∧ (s.evaluation).ann.seqTruth = s.ann.seqTruth ∧
    (s.evaluation).ann.attention = s.ann.attention ∧ (s.evaluation).frame.nextSeq = s.frame.nextSeq ∧
    (s.evaluation).frame.first = s.frame.first ∧ (s.evaluation).frame.refresh = s.frame.refresh ∧
    (s.evaluation).frame.discarded = s.frame.discarded ∧ (s.evaluation).line.w = s.line.w ∧
    (s.evaluation).line.blind = s.line.blind ∧ (s.evaluation).line.collisions = s.line.collisions ∧
    (s.evaluation).line.jam = s.line.jam ∧ (s.evaluation).line.nextSlot = s.line.nextSlot ∧
    (s.evaluation).out.phase = s.out.phase ∧ (s.evaluation).out.testLevel = s.out.testLevel ∧
    (s.evaluation).out.lampTest = s.out.lampTest ∧ (s.evaluation).out.latch = s.out.latch ∧
    (s.evaluation).journal = s.journal ∧ (s.evaluation).port = s.port ∧ (s.evaluation).report = s.report ∧
    (s.evaluation).pending = s.pending := by
  simp only [State.evaluation]
  (repeat' split); all_goals simp

@[simp] theorem State.holdExpiry_keeps (c : CondIx) :
    (s.holdExpiry c).held = s.held ∧ (s.holdExpiry c).pins = s.pins ∧ (s.holdExpiry c).settings = s.settings ∧
    (s.holdExpiry c).life = s.life ∧ (s.holdExpiry c).loader = s.loader ∧ (s.holdExpiry c).pic.roster = s.pic.roster ∧
    (s.holdExpiry c).pic.points = s.pic.points ∧ (s.holdExpiry c).input = s.input ∧
    (s.holdExpiry c).ann.seqTruth = s.ann.seqTruth ∧ (s.holdExpiry c).ann.attention = s.ann.attention ∧
    (s.holdExpiry c).frame.nextSeq = s.frame.nextSeq ∧ (s.holdExpiry c).frame.first = s.frame.first ∧
    (s.holdExpiry c).frame.refresh = s.frame.refresh ∧ (s.holdExpiry c).frame.discarded = s.frame.discarded ∧
    (s.holdExpiry c).line.w = s.line.w ∧ (s.holdExpiry c).line.blind = s.line.blind ∧
    (s.holdExpiry c).line.collisions = s.line.collisions ∧ (s.holdExpiry c).line.jam = s.line.jam ∧
    (s.holdExpiry c).line.nextSlot = s.line.nextSlot ∧ (s.holdExpiry c).out.testLevel = s.out.testLevel ∧
    (s.holdExpiry c).out.lampTest = s.out.lampTest ∧ (s.holdExpiry c).out.latch = s.out.latch ∧
    (s.holdExpiry c).journal = s.journal ∧ (s.holdExpiry c).port = s.port ∧ (s.holdExpiry c).report = s.report ∧
    (s.holdExpiry c).pending = s.pending := by
  simp only [State.holdExpiry]
  (repeat' split); all_goals simp

@[simp] theorem State.releaseExpiry_keeps (c : CondIx) :
    (s.releaseExpiry c).held = s.held ∧ (s.releaseExpiry c).pins = s.pins ∧
    (s.releaseExpiry c).settings = s.settings ∧ (s.releaseExpiry c).life = s.life ∧
    (s.releaseExpiry c).loader = s.loader ∧ (s.releaseExpiry c).pic.roster = s.pic.roster ∧
    (s.releaseExpiry c).pic.points = s.pic.points ∧ (s.releaseExpiry c).input = s.input ∧
    (s.releaseExpiry c).ann.seqTruth = s.ann.seqTruth ∧ (s.releaseExpiry c).ann.attention = s.ann.attention ∧
    (s.releaseExpiry c).frame.nextSeq = s.frame.nextSeq ∧ (s.releaseExpiry c).frame.first = s.frame.first ∧
    (s.releaseExpiry c).frame.refresh = s.frame.refresh ∧ (s.releaseExpiry c).frame.discarded = s.frame.discarded ∧
    (s.releaseExpiry c).line.w = s.line.w ∧ (s.releaseExpiry c).line.blind = s.line.blind ∧
    (s.releaseExpiry c).line.collisions = s.line.collisions ∧ (s.releaseExpiry c).line.jam = s.line.jam ∧
    (s.releaseExpiry c).line.nextSlot = s.line.nextSlot ∧ (s.releaseExpiry c).out.testLevel = s.out.testLevel ∧
    (s.releaseExpiry c).out.lampTest = s.out.lampTest ∧ (s.releaseExpiry c).out.latch = s.out.latch ∧
    (s.releaseExpiry c).journal = s.journal ∧ (s.releaseExpiry c).port = s.port ∧
    (s.releaseExpiry c).report = s.report ∧ (s.releaseExpiry c).pending = s.pending := by
  simp only [State.releaseExpiry]
  (repeat' split); all_goals simp

@[simp] theorem State.retryExpiry_keeps (i : ReqIx) :
    (s.retryExpiry i).held = s.held ∧ (s.retryExpiry i).pins = s.pins ∧ (s.retryExpiry i).settings = s.settings ∧
    (s.retryExpiry i).life = s.life ∧ (s.retryExpiry i).loader = s.loader ∧ (s.retryExpiry i).pic = s.pic ∧
    (s.retryExpiry i).input = s.input ∧ (s.retryExpiry i).cond = s.cond ∧
    (s.retryExpiry i).ann.seqTruth = s.ann.seqTruth ∧ (s.retryExpiry i).ann.edges = s.ann.edges ∧
    (s.retryExpiry i).ann.clears = s.ann.clears ∧ (s.retryExpiry i).ann.attention = s.ann.attention ∧
    (s.retryExpiry i).frame.nextSeq = s.frame.nextSeq ∧ (s.retryExpiry i).frame.first = s.frame.first ∧
    (s.retryExpiry i).frame.refresh = s.frame.refresh ∧ (s.retryExpiry i).frame.discarded = s.frame.discarded ∧
    (s.retryExpiry i).line.w = s.line.w ∧ (s.retryExpiry i).line.blind = s.line.blind ∧
    (s.retryExpiry i).line.collisions = s.line.collisions ∧ (s.retryExpiry i).line.jam = s.line.jam ∧
    (s.retryExpiry i).line.nextSlot = s.line.nextSlot ∧ (s.retryExpiry i).out.testLevel = s.out.testLevel ∧
    (s.retryExpiry i).out.lampTest = s.out.lampTest ∧ (s.retryExpiry i).out.latch = s.out.latch ∧
    (s.retryExpiry i).journal.window = s.journal.window ∧ (s.retryExpiry i).port = s.port ∧
    (s.retryExpiry i).report = s.report ∧ (s.retryExpiry i).pending = s.pending := by
  simp only [State.retryExpiry]
  (repeat' split); all_goals simp

@[simp] theorem State.latchClear_keeps :
    (s.latchClear).held = s.held ∧ (s.latchClear).clock = s.clock ∧ (s.latchClear).pins = s.pins ∧
    (s.latchClear).settings = s.settings ∧ (s.latchClear).life = s.life ∧ (s.latchClear).loader = s.loader ∧
    (s.latchClear).pic = s.pic ∧ (s.latchClear).input = s.input ∧ (s.latchClear).cond = s.cond ∧
    (s.latchClear).ann.seqTruth = s.ann.seqTruth ∧ (s.latchClear).ann.edges = s.ann.edges ∧
    (s.latchClear).ann.requests = s.ann.requests ∧ (s.latchClear).ann.attention = s.ann.attention ∧
    (s.latchClear).frame = s.frame ∧ (s.latchClear).line = s.line ∧ (s.latchClear).out.phase = s.out.phase ∧
    (s.latchClear).out.testLevel = s.out.testLevel ∧ (s.latchClear).out.lampTest = s.out.lampTest ∧
    (s.latchClear).journal = s.journal ∧ (s.latchClear).port = s.port ∧ (s.latchClear).report = s.report ∧
    (s.latchClear).pending = s.pending := by
  simp only [State.latchClear]
  (repeat' split); all_goals simp

@[simp] theorem State.absenceExpiry_keeps (st : Station) :
    (s.absenceExpiry st).held = s.held ∧ (s.absenceExpiry st).pins = s.pins ∧
    (s.absenceExpiry st).settings = s.settings ∧ (s.absenceExpiry st).life = s.life ∧
    (s.absenceExpiry st).loader = s.loader ∧ (s.absenceExpiry st).input = s.input ∧
    (s.absenceExpiry st).cond.run = s.cond.run ∧ (s.absenceExpiry st).ann.seqTruth = s.ann.seqTruth ∧
    (s.absenceExpiry st).ann.edges = s.ann.edges ∧ (s.absenceExpiry st).ann.attention = s.ann.attention ∧
    (s.absenceExpiry st).frame.nextSeq = s.frame.nextSeq ∧ (s.absenceExpiry st).frame.first = s.frame.first ∧
    (s.absenceExpiry st).frame.refresh = s.frame.refresh ∧ (s.absenceExpiry st).frame.discarded = s.frame.discarded ∧
    (s.absenceExpiry st).line.w = s.line.w ∧ (s.absenceExpiry st).line.blind = s.line.blind ∧
    (s.absenceExpiry st).line.collisions = s.line.collisions ∧
    (s.absenceExpiry st).line.jam = s.line.jam ∧ (s.absenceExpiry st).line.nextSlot = s.line.nextSlot ∧
    (s.absenceExpiry st).out.testLevel = s.out.testLevel ∧ (s.absenceExpiry st).out.lampTest = s.out.lampTest ∧
    (s.absenceExpiry st).out.latch = s.out.latch ∧ (s.absenceExpiry st).journal.window = s.journal.window ∧
    (s.absenceExpiry st).port = s.port ∧ (s.absenceExpiry st).report = s.report ∧
    (s.absenceExpiry st).pending = s.pending := by
  simp only [State.absenceExpiry]
  (repeat' split); all_goals simp

@[simp] theorem State.refreshExpiry_keeps :
    (s.refreshExpiry).held = s.held ∧ (s.refreshExpiry).pins = s.pins ∧ (s.refreshExpiry).settings = s.settings ∧
    (s.refreshExpiry).life = s.life ∧ (s.refreshExpiry).loader = s.loader ∧ (s.refreshExpiry).pic = s.pic ∧
    (s.refreshExpiry).input = s.input ∧ (s.refreshExpiry).cond = s.cond ∧
    (s.refreshExpiry).ann.seqTruth = s.ann.seqTruth ∧ (s.refreshExpiry).ann.edges = s.ann.edges ∧
    (s.refreshExpiry).ann.clears = s.ann.clears ∧ (s.refreshExpiry).ann.attention = s.ann.attention ∧
    (s.refreshExpiry).frame.nextSeq = s.frame.nextSeq ∧ (s.refreshExpiry).frame.first = s.frame.first ∧
    (s.refreshExpiry).frame.discarded = s.frame.discarded ∧ (s.refreshExpiry).line.w = s.line.w ∧
    (s.refreshExpiry).line.blind = s.line.blind ∧ (s.refreshExpiry).line.collisions = s.line.collisions ∧
    (s.refreshExpiry).line.jam = s.line.jam ∧ (s.refreshExpiry).line.nextSlot = s.line.nextSlot ∧
    (s.refreshExpiry).out.testLevel = s.out.testLevel ∧ (s.refreshExpiry).out.lampTest = s.out.lampTest ∧
    (s.refreshExpiry).out.latch = s.out.latch ∧ (s.refreshExpiry).journal = s.journal ∧
    (s.refreshExpiry).port = s.port ∧ (s.refreshExpiry).report = s.report ∧ (s.refreshExpiry).pending = s.pending := by
  simp only [State.refreshExpiry]
  (repeat' split); all_goals simp

@[simp] theorem State.startupWaitEnd_keeps :
    (s.startupWaitEnd).held = s.held ∧ (s.startupWaitEnd).clock = s.clock ∧ (s.startupWaitEnd).pins = s.pins ∧
    (s.startupWaitEnd).settings = s.settings ∧ (s.startupWaitEnd).life = s.life ∧
    (s.startupWaitEnd).loader = s.loader ∧ (s.startupWaitEnd).pic = s.pic ∧ (s.startupWaitEnd).input = s.input ∧
    (s.startupWaitEnd).cond = s.cond ∧ (s.startupWaitEnd).ann = s.ann ∧ (s.startupWaitEnd).frame = s.frame ∧
    (s.startupWaitEnd).line.w = s.line.w ∧ (s.startupWaitEnd).line.blind = s.line.blind ∧
    (s.startupWaitEnd).line.collisions = s.line.collisions ∧ (s.startupWaitEnd).line.sending = s.line.sending ∧
    (s.startupWaitEnd).line.jam = s.line.jam ∧ (s.startupWaitEnd).out = s.out ∧
    (s.startupWaitEnd).journal = s.journal ∧ (s.startupWaitEnd).port = s.port ∧ (s.startupWaitEnd).report = s.report ∧
    (s.startupWaitEnd).pending = s.pending := by
  simp only [State.startupWaitEnd]
  (repeat' split); all_goals simp

@[simp] theorem State.receptionStart_keeps :
    (s.receptionStart).held = s.held ∧ (s.receptionStart).clock = s.clock ∧ (s.receptionStart).pins = s.pins ∧
    (s.receptionStart).settings = s.settings ∧ (s.receptionStart).life = s.life ∧
    (s.receptionStart).loader = s.loader ∧ (s.receptionStart).pic = s.pic ∧ (s.receptionStart).input = s.input ∧
    (s.receptionStart).cond = s.cond ∧ (s.receptionStart).ann = s.ann ∧ (s.receptionStart).frame = s.frame ∧
    (s.receptionStart).line.w = s.line.w ∧ (s.receptionStart).line.blind = s.line.blind ∧
    (s.receptionStart).line.collisions = s.line.collisions ∧ (s.receptionStart).line.sending = s.line.sending ∧
    (s.receptionStart).line.jam = s.line.jam ∧ (s.receptionStart).line.nextSlot = s.line.nextSlot ∧
    (s.receptionStart).out = s.out ∧ (s.receptionStart).journal = s.journal ∧ (s.receptionStart).port = s.port ∧
    (s.receptionStart).report = s.report ∧ (s.receptionStart).pending = s.pending := by
  simp only [State.receptionStart]
  (repeat' split); all_goals simp

@[simp] theorem State.validEnd_keeps (bytes : List Byte) :
    (s.validEnd bytes).held = s.held ∧ (s.validEnd bytes).clock = s.clock ∧ (s.validEnd bytes).pins = s.pins ∧
    (s.validEnd bytes).settings = s.settings ∧ (s.validEnd bytes).life.fault = s.life.fault ∧
    (s.validEnd bytes).life.stn = s.life.stn ∧ (s.validEnd bytes).life.source = s.life.source ∧
    (s.validEnd bytes).life.withdraw = s.life.withdraw ∧ (s.validEnd bytes).life.withdrawFor = s.life.withdrawFor ∧
    (s.validEnd bytes).life.lineStuck = s.life.lineStuck ∧ (s.validEnd bytes).life.draws = s.life.draws ∧
    (s.validEnd bytes).loader = s.loader ∧ (s.validEnd bytes).input = s.input ∧
    (s.validEnd bytes).cond.run = s.cond.run ∧ (s.validEnd bytes).ann.seqTruth = s.ann.seqTruth ∧
    (s.validEnd bytes).ann.edges = s.ann.edges ∧ (s.validEnd bytes).ann.attention = s.ann.attention ∧
    (s.validEnd bytes).frame.nextSeq = s.frame.nextSeq ∧ (s.validEnd bytes).frame.first = s.frame.first ∧
    (s.validEnd bytes).line.collisions = s.line.collisions ∧ (s.validEnd bytes).out.phase = s.out.phase ∧
    (s.validEnd bytes).out.testLevel = s.out.testLevel ∧ (s.validEnd bytes).out.lampTest = s.out.lampTest ∧
    (s.validEnd bytes).journal.window = s.journal.window ∧ (s.validEnd bytes).port = s.port ∧
    (s.validEnd bytes).pending = s.pending := by
  simp [State.validEnd]

@[simp] theorem State.frameEnd_keeps (l : List Level) :
    (s.frameEnd l).held = s.held ∧ (s.frameEnd l).clock = s.clock ∧ (s.frameEnd l).pins = s.pins ∧
    (s.frameEnd l).settings = s.settings ∧ (s.frameEnd l).life.fault = s.life.fault ∧
    (s.frameEnd l).life.stn = s.life.stn ∧ (s.frameEnd l).life.source = s.life.source ∧
    (s.frameEnd l).life.withdraw = s.life.withdraw ∧ (s.frameEnd l).life.withdrawFor = s.life.withdrawFor ∧
    (s.frameEnd l).life.lineStuck = s.life.lineStuck ∧ (s.frameEnd l).life.draws = s.life.draws ∧
    (s.frameEnd l).loader = s.loader ∧ (s.frameEnd l).input = s.input ∧ (s.frameEnd l).cond.run = s.cond.run ∧
    (s.frameEnd l).ann.seqTruth = s.ann.seqTruth ∧ (s.frameEnd l).ann.edges = s.ann.edges ∧
    (s.frameEnd l).ann.attention = s.ann.attention ∧ (s.frameEnd l).frame.nextSeq = s.frame.nextSeq ∧
    (s.frameEnd l).frame.first = s.frame.first ∧ (s.frameEnd l).line.collisions = s.line.collisions ∧
    (s.frameEnd l).out.phase = s.out.phase ∧ (s.frameEnd l).out.testLevel = s.out.testLevel ∧
    (s.frameEnd l).out.lampTest = s.out.lampTest ∧ (s.frameEnd l).journal.window = s.journal.window ∧
    (s.frameEnd l).port = s.port ∧ (s.frameEnd l).pending = s.pending := by
  simp only [State.frameEnd]
  (repeat' split); all_goals simp

@[simp] theorem State.invalidEnd_keeps :
    (s.invalidEnd).held = s.held ∧ (s.invalidEnd).clock = s.clock ∧ (s.invalidEnd).pins = s.pins ∧
    (s.invalidEnd).settings = s.settings ∧ (s.invalidEnd).life = s.life ∧ (s.invalidEnd).loader = s.loader ∧
    (s.invalidEnd).pic = s.pic ∧ (s.invalidEnd).input = s.input ∧ (s.invalidEnd).cond = s.cond ∧
    (s.invalidEnd).ann = s.ann ∧ (s.invalidEnd).frame.queue = s.frame.queue ∧
    (s.invalidEnd).frame.nextSeq = s.frame.nextSeq ∧ (s.invalidEnd).frame.first = s.frame.first ∧
    (s.invalidEnd).frame.refresh = s.frame.refresh ∧ (s.invalidEnd).line.w = s.line.w ∧
    (s.invalidEnd).line.collisions = s.line.collisions ∧ (s.invalidEnd).line.sending = s.line.sending ∧
    (s.invalidEnd).line.jam = s.line.jam ∧ (s.invalidEnd).out = s.out ∧
    (s.invalidEnd).journal = s.journal ∧ (s.invalidEnd).port = s.port ∧ (s.invalidEnd).report = s.report ∧
    (s.invalidEnd).pending = s.pending := by
  simp only [State.invalidEnd]
  (repeat' split); all_goals simp

@[simp] theorem State.invalidReceptionEnd_keeps (l : List Level) :
    (s.invalidReceptionEnd l).held = s.held ∧ (s.invalidReceptionEnd l).clock = s.clock ∧
    (s.invalidReceptionEnd l).pins = s.pins ∧ (s.invalidReceptionEnd l).settings = s.settings ∧
    (s.invalidReceptionEnd l).life = s.life ∧ (s.invalidReceptionEnd l).loader = s.loader ∧
    (s.invalidReceptionEnd l).pic = s.pic ∧ (s.invalidReceptionEnd l).input = s.input ∧
    (s.invalidReceptionEnd l).cond = s.cond ∧ (s.invalidReceptionEnd l).ann = s.ann ∧
    (s.invalidReceptionEnd l).frame.queue = s.frame.queue ∧
    (s.invalidReceptionEnd l).frame.nextSeq = s.frame.nextSeq ∧
    (s.invalidReceptionEnd l).frame.first = s.frame.first ∧
    (s.invalidReceptionEnd l).frame.refresh = s.frame.refresh ∧ (s.invalidReceptionEnd l).line.w = s.line.w ∧
    (s.invalidReceptionEnd l).line.collisions = s.line.collisions ∧
    (s.invalidReceptionEnd l).line.sending = s.line.sending ∧
    (s.invalidReceptionEnd l).line.jam = s.line.jam ∧ (s.invalidReceptionEnd l).out = s.out ∧
    (s.invalidReceptionEnd l).journal = s.journal ∧ (s.invalidReceptionEnd l).port = s.port ∧
    (s.invalidReceptionEnd l).report = s.report ∧ (s.invalidReceptionEnd l).pending = s.pending := by
  simp only [State.invalidReceptionEnd]
  (repeat' split); all_goals simp

@[simp] theorem State.jamEnd_keeps (l : List Level) :
    (s.jamEnd l).held = s.held ∧ (s.jamEnd l).clock = s.clock ∧ (s.jamEnd l).pins = s.pins ∧
    (s.jamEnd l).settings = s.settings ∧ (s.jamEnd l).life = s.life ∧ (s.jamEnd l).loader = s.loader ∧
    (s.jamEnd l).pic = s.pic ∧ (s.jamEnd l).input = s.input ∧ (s.jamEnd l).cond = s.cond ∧ (s.jamEnd l).ann = s.ann ∧
    (s.jamEnd l).frame.queue = s.frame.queue ∧ (s.jamEnd l).frame.nextSeq = s.frame.nextSeq ∧
    (s.jamEnd l).frame.first = s.frame.first ∧ (s.jamEnd l).frame.refresh = s.frame.refresh ∧
    (s.jamEnd l).line.w = s.line.w ∧ (s.jamEnd l).line.blind = s.line.blind ∧
    (s.jamEnd l).line.collisions = s.line.collisions ∧ (s.jamEnd l).line.sending = s.line.sending ∧
    (s.jamEnd l).out = s.out ∧ (s.jamEnd l).journal = s.journal ∧ (s.jamEnd l).port = s.port ∧
    (s.jamEnd l).report = s.report ∧ (s.jamEnd l).pending = s.pending := by
  simp only [State.jamEnd]
  (repeat' split); all_goals simp

@[simp] theorem State.slotStart_keeps (k : Fin 64) :
    (s.slotStart k).held = s.held ∧ (s.slotStart k).clock = s.clock ∧ (s.slotStart k).pins = s.pins ∧
    (s.slotStart k).settings = s.settings ∧ (s.slotStart k).life = s.life ∧ (s.slotStart k).loader = s.loader ∧
    (s.slotStart k).pic = s.pic ∧ (s.slotStart k).input = s.input ∧ (s.slotStart k).cond = s.cond ∧
    (s.slotStart k).ann.seqTruth = s.ann.seqTruth ∧ (s.slotStart k).ann.edges = s.ann.edges ∧
    (s.slotStart k).ann.clears = s.ann.clears ∧ (s.slotStart k).ann.attention = s.ann.attention ∧
    (s.slotStart k).frame.nextSeq = s.frame.nextSeq ∧ (s.slotStart k).frame.first = s.frame.first ∧
    (s.slotStart k).frame.refresh = s.frame.refresh ∧ (s.slotStart k).frame.discarded = s.frame.discarded ∧
    (s.slotStart k).line.w = s.line.w ∧ (s.slotStart k).line.blind = s.line.blind ∧
    (s.slotStart k).line.collisions = s.line.collisions ∧ (s.slotStart k).line.jam = s.line.jam ∧
    (s.slotStart k).out = s.out ∧ (s.slotStart k).journal = s.journal ∧ (s.slotStart k).port = s.port ∧
    (s.slotStart k).report = s.report ∧ (s.slotStart k).pending = s.pending := by
  simp only [State.slotStart]
  (repeat' split); all_goals simp

@[simp] theorem State.windowEnd_keeps :
    (s.windowEnd).held = s.held ∧ (s.windowEnd).clock = s.clock ∧ (s.windowEnd).pins = s.pins ∧
    (s.windowEnd).settings = s.settings ∧ (s.windowEnd).life = s.life ∧ (s.windowEnd).loader = s.loader ∧
    (s.windowEnd).pic = s.pic ∧ (s.windowEnd).input = s.input ∧ (s.windowEnd).cond = s.cond ∧
    (s.windowEnd).ann.seqTruth = s.ann.seqTruth ∧ (s.windowEnd).ann.edges = s.ann.edges ∧
    (s.windowEnd).ann.clears = s.ann.clears ∧ (s.windowEnd).ann.attention = s.ann.attention ∧
    (s.windowEnd).frame.nextSeq = s.frame.nextSeq ∧ (s.windowEnd).frame.first = s.frame.first ∧
    (s.windowEnd).frame.refresh = s.frame.refresh ∧ (s.windowEnd).frame.discarded = s.frame.discarded ∧
    (s.windowEnd).line.collisions = s.line.collisions ∧ (s.windowEnd).line.jam = s.line.jam ∧
    (s.windowEnd).line.nextSlot = s.line.nextSlot ∧ (s.windowEnd).out = s.out ∧ (s.windowEnd).journal = s.journal ∧
    (s.windowEnd).port = s.port ∧ (s.windowEnd).report = s.report ∧ (s.windowEnd).pending = s.pending := by
  simp only [State.windowEnd]
  (repeat' split); all_goals simp

@[simp] theorem State.transmissionComplete_keeps :
    (s.transmissionComplete).held = s.held ∧ (s.transmissionComplete).clock = s.clock ∧
    (s.transmissionComplete).pins = s.pins ∧ (s.transmissionComplete).settings = s.settings ∧
    (s.transmissionComplete).life = s.life ∧ (s.transmissionComplete).loader = s.loader ∧
    (s.transmissionComplete).pic = s.pic ∧ (s.transmissionComplete).input = s.input ∧
    (s.transmissionComplete).cond = s.cond ∧ (s.transmissionComplete).ann.seqTruth = s.ann.seqTruth ∧
    (s.transmissionComplete).ann.edges = s.ann.edges ∧ (s.transmissionComplete).ann.clears = s.ann.clears ∧
    (s.transmissionComplete).ann.attention = s.ann.attention ∧
    (s.transmissionComplete).frame.discarded = s.frame.discarded ∧
    (s.transmissionComplete).line.state = s.line.state ∧ (s.transmissionComplete).line.w = s.line.w ∧
    (s.transmissionComplete).line.blind = s.line.blind ∧ (s.transmissionComplete).line.slot = s.line.slot ∧
    (s.transmissionComplete).line.rx = s.line.rx ∧ (s.transmissionComplete).line.jam = s.line.jam ∧
    (s.transmissionComplete).line.nextSlot = s.line.nextSlot ∧ (s.transmissionComplete).out = s.out ∧
    (s.transmissionComplete).journal = s.journal ∧ (s.transmissionComplete).port = s.port ∧
    (s.transmissionComplete).report = s.report ∧ (s.transmissionComplete).pending = s.pending := by
  simp only [State.transmissionComplete]
  (repeat' split); all_goals simp

@[simp] theorem State.ownFrameEnd_keeps :
    (s.ownFrameEnd).held = s.held ∧ (s.ownFrameEnd).clock = s.clock ∧ (s.ownFrameEnd).pins = s.pins ∧
    (s.ownFrameEnd).settings = s.settings ∧ (s.ownFrameEnd).life = s.life ∧ (s.ownFrameEnd).loader = s.loader ∧
    (s.ownFrameEnd).pic = s.pic ∧ (s.ownFrameEnd).input = s.input ∧ (s.ownFrameEnd).cond = s.cond ∧
    (s.ownFrameEnd).ann = s.ann ∧ (s.ownFrameEnd).frame = s.frame ∧
    (s.ownFrameEnd).line.collisions = s.line.collisions ∧ (s.ownFrameEnd).line.sending = s.line.sending ∧
    (s.ownFrameEnd).line.jam = s.line.jam ∧ (s.ownFrameEnd).out = s.out ∧
    (s.ownFrameEnd).journal = s.journal ∧ (s.ownFrameEnd).port = s.port ∧ (s.ownFrameEnd).report = s.report ∧
    (s.ownFrameEnd).pending = s.pending := by
  simp only [State.ownFrameEnd]
  (repeat' split); all_goals simp

@[simp] theorem State.collision_keeps (n : Nat) :
    (s.collision n).held = s.held ∧ (s.collision n).clock = s.clock ∧ (s.collision n).pins = s.pins ∧
    (s.collision n).settings = s.settings ∧ (s.collision n).life.fault = s.life.fault ∧
    (s.collision n).life.stn = s.life.stn ∧ (s.collision n).life.source = s.life.source ∧
    (s.collision n).life.listen = s.life.listen ∧ (s.collision n).life.lineStuck = s.life.lineStuck ∧
    (s.collision n).loader = s.loader ∧ (s.collision n).pic = s.pic ∧ (s.collision n).input = s.input ∧
    (s.collision n).cond = s.cond ∧ (s.collision n).ann.seqTruth = s.ann.seqTruth ∧
    (s.collision n).ann.edges = s.ann.edges ∧ (s.collision n).ann.clears = s.ann.clears ∧
    (s.collision n).ann.attention = s.ann.attention ∧ (s.collision n).frame.nextSeq = s.frame.nextSeq ∧
    (s.collision n).frame.first = s.frame.first ∧ (s.collision n).frame.discarded = s.frame.discarded ∧
    (s.collision n).line.w = s.line.w ∧ (s.collision n).line.blind = s.line.blind ∧
    (s.collision n).line.slot = s.line.slot ∧ (s.collision n).line.nextSlot = s.line.nextSlot ∧
    (s.collision n).out.phase = s.out.phase ∧ (s.collision n).out.testLevel = s.out.testLevel ∧
    (s.collision n).out.lampTest = s.out.lampTest ∧ (s.collision n).out.latch = s.out.latch ∧
    (s.collision n).journal.window = s.journal.window ∧ (s.collision n).port = s.port ∧
    (s.collision n).report = s.report ∧ (s.collision n).pending = s.pending := by
  simp only [State.collision]
  (repeat' split); all_goals simp

@[simp] theorem State.lineStuck_keeps :
    (s.lineStuck).held = s.held ∧ (s.lineStuck).clock = s.clock ∧ (s.lineStuck).pins = s.pins ∧
    (s.lineStuck).settings = s.settings ∧ (s.lineStuck).life.life = s.life.life ∧
    (s.lineStuck).life.fault = s.life.fault ∧ (s.lineStuck).life.stn = s.life.stn ∧
    (s.lineStuck).life.source = s.life.source ∧ (s.lineStuck).life.listen = s.life.listen ∧
    (s.lineStuck).life.withdraw = s.life.withdraw ∧ (s.lineStuck).life.withdrawFor = s.life.withdrawFor ∧
    (s.lineStuck).life.draws = s.life.draws ∧ (s.lineStuck).loader = s.loader ∧ (s.lineStuck).pic = s.pic ∧
    (s.lineStuck).input = s.input ∧ (s.lineStuck).cond = s.cond ∧ (s.lineStuck).ann.seqTruth = s.ann.seqTruth ∧
    (s.lineStuck).ann.edges = s.ann.edges ∧ (s.lineStuck).ann.clears = s.ann.clears ∧
    (s.lineStuck).ann.attention = s.ann.attention ∧ (s.lineStuck).frame.nextSeq = s.frame.nextSeq ∧
    (s.lineStuck).frame.first = s.frame.first ∧ (s.lineStuck).frame.refresh = s.frame.refresh ∧
    (s.lineStuck).line.w = s.line.w ∧ (s.lineStuck).line.blind = s.line.blind ∧
    (s.lineStuck).line.collisions = s.line.collisions ∧ (s.lineStuck).line.nextSlot = s.line.nextSlot ∧
    (s.lineStuck).out = s.out ∧ (s.lineStuck).journal.window = s.journal.window ∧ (s.lineStuck).port = s.port ∧
    (s.lineStuck).report = s.report ∧ (s.lineStuck).pending = s.pending := by
  simp only [State.lineStuck]
  (repeat' split); all_goals simp

@[simp] theorem State.lineReleased_keeps :
    (s.lineReleased).held = s.held ∧ (s.lineReleased).clock = s.clock ∧ (s.lineReleased).pins = s.pins ∧
    (s.lineReleased).settings = s.settings ∧ (s.lineReleased).life.life = s.life.life ∧
    (s.lineReleased).life.fault = s.life.fault ∧ (s.lineReleased).life.stn = s.life.stn ∧
    (s.lineReleased).life.source = s.life.source ∧ (s.lineReleased).life.listen = s.life.listen ∧
    (s.lineReleased).life.withdraw = s.life.withdraw ∧ (s.lineReleased).life.withdrawFor = s.life.withdrawFor ∧
    (s.lineReleased).life.draws = s.life.draws ∧ (s.lineReleased).loader = s.loader ∧ (s.lineReleased).pic = s.pic ∧
    (s.lineReleased).input = s.input ∧ (s.lineReleased).cond = s.cond ∧ (s.lineReleased).ann = s.ann ∧
    (s.lineReleased).frame = s.frame ∧ (s.lineReleased).line.w = s.line.w ∧
    (s.lineReleased).line.collisions = s.line.collisions ∧ (s.lineReleased).line.sending = s.line.sending ∧
    (s.lineReleased).line.jam = s.line.jam ∧ (s.lineReleased).out = s.out ∧
    (s.lineReleased).journal.window = s.journal.window ∧ (s.lineReleased).port = s.port ∧
    (s.lineReleased).report = s.report ∧ (s.lineReleased).pending = s.pending := by
  simp only [State.lineReleased]
  (repeat' split); all_goals simp

@[simp] theorem State.reportLineEnd_keeps :
    (s.reportLineEnd).held = s.held ∧ (s.reportLineEnd).clock = s.clock ∧ (s.reportLineEnd).pins = s.pins ∧
    (s.reportLineEnd).settings = s.settings ∧ (s.reportLineEnd).life = s.life ∧ (s.reportLineEnd).loader = s.loader ∧
    (s.reportLineEnd).pic = s.pic ∧ (s.reportLineEnd).input = s.input ∧ (s.reportLineEnd).cond = s.cond ∧
    (s.reportLineEnd).ann = s.ann ∧ (s.reportLineEnd).frame = s.frame ∧ (s.reportLineEnd).line = s.line ∧
    (s.reportLineEnd).out = s.out ∧ (s.reportLineEnd).journal = s.journal ∧ (s.reportLineEnd).port = s.port ∧
    (s.reportLineEnd).pending = s.pending := by
  simp only [State.reportLineEnd]
  (repeat' split); all_goals simp

@[simp] theorem State.result_keeps (r : Result) :
    (s.result r).held = s.held ∧ (s.result r).clock = s.clock ∧ (s.result r).pins = s.pins ∧
    (s.result r).settings = s.settings ∧ (s.result r).life = s.life ∧ (s.result r).loader = s.loader ∧
    (s.result r).pic = s.pic ∧ (s.result r).input = s.input ∧ (s.result r).cond = s.cond ∧ (s.result r).ann = s.ann ∧
    (s.result r).frame = s.frame ∧ (s.result r).line = s.line ∧ (s.result r).out = s.out ∧
    (s.result r).journal = s.journal ∧ (s.result r).report = s.report ∧ (s.result r).pending = s.pending := by
  simp [State.result]

@[simp] theorem State.takeRecord_keeps :
    (s.takeRecord).held = s.held ∧ (s.takeRecord).clock = s.clock ∧ (s.takeRecord).pins = s.pins ∧
    (s.takeRecord).settings = s.settings ∧ (s.takeRecord).life = s.life ∧ (s.takeRecord).loader = s.loader ∧
    (s.takeRecord).pic = s.pic ∧ (s.takeRecord).input = s.input ∧ (s.takeRecord).cond = s.cond ∧
    (s.takeRecord).ann = s.ann ∧ (s.takeRecord).frame = s.frame ∧ (s.takeRecord).line = s.line ∧
    (s.takeRecord).out = s.out ∧ (s.takeRecord).report = s.report ∧ (s.takeRecord).pending = s.pending := by
  simp only [State.takeRecord]
  (repeat' split); all_goals simp

@[simp] theorem State.ackOneChecks_keeps (a0 a1 : Byte) :
    (s.ackOneChecks a0 a1).held = s.held ∧ (s.ackOneChecks a0 a1).clock = s.clock ∧
    (s.ackOneChecks a0 a1).pins = s.pins ∧ (s.ackOneChecks a0 a1).settings = s.settings ∧
    (s.ackOneChecks a0 a1).life = s.life ∧ (s.ackOneChecks a0 a1).loader = s.loader ∧
    (s.ackOneChecks a0 a1).pic.roster = s.pic.roster ∧ (s.ackOneChecks a0 a1).pic.points = s.pic.points ∧
    (s.ackOneChecks a0 a1).input = s.input ∧ (s.ackOneChecks a0 a1).cond.run = s.cond.run ∧
    (s.ackOneChecks a0 a1).ann.seqTruth = s.ann.seqTruth ∧ (s.ackOneChecks a0 a1).ann.edges = s.ann.edges ∧
    (s.ackOneChecks a0 a1).ann.attention = s.ann.attention ∧ (s.ackOneChecks a0 a1).frame.nextSeq = s.frame.nextSeq ∧
    (s.ackOneChecks a0 a1).frame.first = s.frame.first ∧ (s.ackOneChecks a0 a1).frame.refresh = s.frame.refresh ∧
    (s.ackOneChecks a0 a1).frame.discarded = s.frame.discarded ∧ (s.ackOneChecks a0 a1).line.w = s.line.w ∧
    (s.ackOneChecks a0 a1).line.blind = s.line.blind ∧ (s.ackOneChecks a0 a1).line.collisions = s.line.collisions ∧
    (s.ackOneChecks a0 a1).line.jam = s.line.jam ∧
    (s.ackOneChecks a0 a1).line.nextSlot = s.line.nextSlot ∧ (s.ackOneChecks a0 a1).out.phase = s.out.phase ∧
    (s.ackOneChecks a0 a1).out.testLevel = s.out.testLevel ∧ (s.ackOneChecks a0 a1).out.lampTest = s.out.lampTest ∧
    (s.ackOneChecks a0 a1).out.latch = s.out.latch ∧ (s.ackOneChecks a0 a1).journal.window = s.journal.window ∧
    (s.ackOneChecks a0 a1).pending = s.pending := by
  simp only [State.ackOneChecks]
  (repeat' split); all_goals simp

@[simp] theorem State.commitImage_keeps :
    (s.commitImage).held = s.held ∧ (s.commitImage).clock = s.clock ∧ (s.commitImage).pins = s.pins ∧
    (s.commitImage).settings = s.settings ∧ (s.commitImage).life = s.life ∧ (s.commitImage).pic = s.pic ∧
    (s.commitImage).input = s.input ∧ (s.commitImage).cond = s.cond ∧ (s.commitImage).ann = s.ann ∧
    (s.commitImage).frame = s.frame ∧ (s.commitImage).line = s.line ∧ (s.commitImage).out = s.out ∧
    (s.commitImage).journal = s.journal ∧ (s.commitImage).report = s.report ∧ (s.commitImage).pending = s.pending := by
  simp only [State.commitImage]
  (repeat' split); all_goals simp

@[simp] theorem State.runCommand_keeps (c : Command) :
    (s.runCommand c).held = s.held ∧ (s.runCommand c).clock = s.clock ∧ (s.runCommand c).pins = s.pins ∧
    (s.runCommand c).settings = s.settings ∧ (s.runCommand c).life = s.life ∧
    (s.runCommand c).pic.roster = s.pic.roster ∧ (s.runCommand c).pic.points = s.pic.points ∧
    (s.runCommand c).input = s.input ∧ (s.runCommand c).cond.run = s.cond.run ∧
    (s.runCommand c).ann.seqTruth = s.ann.seqTruth ∧ (s.runCommand c).ann.edges = s.ann.edges ∧
    (s.runCommand c).ann.attention = s.ann.attention ∧ (s.runCommand c).frame.nextSeq = s.frame.nextSeq ∧
    (s.runCommand c).frame.first = s.frame.first ∧ (s.runCommand c).frame.refresh = s.frame.refresh ∧
    (s.runCommand c).line.w = s.line.w ∧ (s.runCommand c).line.blind = s.line.blind ∧
    (s.runCommand c).line.collisions = s.line.collisions ∧ (s.runCommand c).line.jam = s.line.jam ∧
    (s.runCommand c).line.nextSlot = s.line.nextSlot ∧ (s.runCommand c).out.phase = s.out.phase ∧
    (s.runCommand c).out.testLevel = s.out.testLevel ∧ (s.runCommand c).pending = s.pending := by
  simp only [State.runCommand]
  (repeat' split); all_goals simp

@[simp] theorem State.settleCommand_keeps (code : Byte) :
    (s.settleCommand code).held = s.held ∧ (s.settleCommand code).clock = s.clock ∧
    (s.settleCommand code).pins = s.pins ∧ (s.settleCommand code).settings = s.settings ∧
    (s.settleCommand code).life = s.life ∧ (s.settleCommand code).pic.roster = s.pic.roster ∧
    (s.settleCommand code).pic.points = s.pic.points ∧ (s.settleCommand code).input = s.input ∧
    (s.settleCommand code).cond.run = s.cond.run ∧ (s.settleCommand code).ann.seqTruth = s.ann.seqTruth ∧
    (s.settleCommand code).ann.edges = s.ann.edges ∧ (s.settleCommand code).ann.attention = s.ann.attention ∧
    (s.settleCommand code).frame.nextSeq = s.frame.nextSeq ∧ (s.settleCommand code).frame.first = s.frame.first ∧
    (s.settleCommand code).frame.refresh = s.frame.refresh ∧ (s.settleCommand code).line.w = s.line.w ∧
    (s.settleCommand code).line.blind = s.line.blind ∧ (s.settleCommand code).line.collisions = s.line.collisions ∧
    (s.settleCommand code).line.jam = s.line.jam ∧
    (s.settleCommand code).line.nextSlot = s.line.nextSlot ∧ (s.settleCommand code).out.phase = s.out.phase ∧
    (s.settleCommand code).out.testLevel = s.out.testLevel ∧ (s.settleCommand code).pending = s.pending := by
  simp only [State.settleCommand]
  (repeat' split); all_goals simp

@[simp] theorem State.writeRegister_keeps (off : Nat) (b : Byte) :
    (s.writeRegister off b).held = s.held ∧ (s.writeRegister off b).clock = s.clock ∧
    (s.writeRegister off b).pins = s.pins ∧ (s.writeRegister off b).settings = s.settings ∧
    (s.writeRegister off b).life = s.life ∧ (s.writeRegister off b).pic.roster = s.pic.roster ∧
    (s.writeRegister off b).pic.points = s.pic.points ∧ (s.writeRegister off b).input = s.input ∧
    (s.writeRegister off b).cond.run = s.cond.run ∧ (s.writeRegister off b).ann.seqTruth = s.ann.seqTruth ∧
    (s.writeRegister off b).ann.edges = s.ann.edges ∧ (s.writeRegister off b).ann.attention = s.ann.attention ∧
    (s.writeRegister off b).frame.nextSeq = s.frame.nextSeq ∧ (s.writeRegister off b).frame.first = s.frame.first ∧
    (s.writeRegister off b).frame.refresh = s.frame.refresh ∧ (s.writeRegister off b).line.w = s.line.w ∧
    (s.writeRegister off b).line.blind = s.line.blind ∧ (s.writeRegister off b).line.collisions = s.line.collisions ∧
    (s.writeRegister off b).line.jam = s.line.jam ∧
    (s.writeRegister off b).line.nextSlot = s.line.nextSlot ∧ (s.writeRegister off b).out.phase = s.out.phase ∧
    (s.writeRegister off b).out.testLevel = s.out.testLevel ∧ (s.writeRegister off b).pending = s.pending := by
  simp only [State.writeRegister]
  (repeat' split); all_goals simp

@[simp] theorem State.writeByte_keeps (b : Byte) :
    (s.writeByte b).held = s.held ∧ (s.writeByte b).clock = s.clock ∧ (s.writeByte b).pins = s.pins ∧
    (s.writeByte b).settings = s.settings ∧ (s.writeByte b).life = s.life ∧
    (s.writeByte b).pic.roster = s.pic.roster ∧ (s.writeByte b).pic.points = s.pic.points ∧
    (s.writeByte b).input = s.input ∧ (s.writeByte b).cond.run = s.cond.run ∧
    (s.writeByte b).ann.seqTruth = s.ann.seqTruth ∧ (s.writeByte b).ann.edges = s.ann.edges ∧
    (s.writeByte b).ann.attention = s.ann.attention ∧ (s.writeByte b).frame.nextSeq = s.frame.nextSeq ∧
    (s.writeByte b).frame.first = s.frame.first ∧ (s.writeByte b).frame.refresh = s.frame.refresh ∧
    (s.writeByte b).line.w = s.line.w ∧ (s.writeByte b).line.blind = s.line.blind ∧
    (s.writeByte b).line.collisions = s.line.collisions ∧ (s.writeByte b).line.jam = s.line.jam ∧
    (s.writeByte b).line.nextSlot = s.line.nextSlot ∧ (s.writeByte b).out.phase = s.out.phase ∧
    (s.writeByte b).out.testLevel = s.out.testLevel ∧ (s.writeByte b).pending = s.pending := by
  simp [State.writeByte]

@[simp] theorem State.writeData_keeps (l : List Byte) :
    (s.writeData l).held = s.held ∧ (s.writeData l).clock = s.clock ∧ (s.writeData l).pins = s.pins ∧
    (s.writeData l).settings = s.settings ∧ (s.writeData l).life = s.life ∧
    (s.writeData l).pic.roster = s.pic.roster ∧ (s.writeData l).pic.points = s.pic.points ∧
    (s.writeData l).input = s.input ∧ (s.writeData l).cond.run = s.cond.run ∧
    (s.writeData l).ann.seqTruth = s.ann.seqTruth ∧ (s.writeData l).ann.edges = s.ann.edges ∧
    (s.writeData l).ann.attention = s.ann.attention ∧ (s.writeData l).frame.nextSeq = s.frame.nextSeq ∧
    (s.writeData l).frame.first = s.frame.first ∧ (s.writeData l).frame.refresh = s.frame.refresh ∧
    (s.writeData l).line.w = s.line.w ∧ (s.writeData l).line.blind = s.line.blind ∧
    (s.writeData l).line.collisions = s.line.collisions ∧ (s.writeData l).line.jam = s.line.jam ∧
    (s.writeData l).line.nextSlot = s.line.nextSlot ∧ (s.writeData l).out.phase = s.out.phase ∧
    (s.writeData l).out.testLevel = s.out.testLevel ∧ (s.writeData l).pending = s.pending := by
  simp only [State.writeData]
  split
  · refine ⟨?_, ?_, ?_, ?_, ?_, ?_, ?_, ?_, ?_, ?_, ?_, ?_, ?_, ?_, ?_, ?_, ?_, ?_, ?_, ?_, ?_, ?_, ?_⟩
    · exact (foldl_keeps (fun t : State => t.held) (fun t x => by (try dsimp only); (repeat' split); all_goals simp) _ _).trans (by simp)
    · exact (foldl_keeps (fun t : State => t.clock) (fun t x => by (try dsimp only); (repeat' split); all_goals simp) _ _).trans (by simp)
    · exact (foldl_keeps (fun t : State => t.pins) (fun t x => by (try dsimp only); (repeat' split); all_goals simp) _ _).trans (by simp)
    · exact (foldl_keeps (fun t : State => t.settings) (fun t x => by (try dsimp only); (repeat' split); all_goals simp) _ _).trans (by simp)
    · exact (foldl_keeps (fun t : State => t.life) (fun t x => by (try dsimp only); (repeat' split); all_goals simp) _ _).trans (by simp)
    · exact (foldl_keeps (fun t : State => t.pic.roster) (fun t x => by (try dsimp only); (repeat' split); all_goals simp) _ _).trans (by simp)
    · exact (foldl_keeps (fun t : State => t.pic.points) (fun t x => by (try dsimp only); (repeat' split); all_goals simp) _ _).trans (by simp)
    · exact (foldl_keeps (fun t : State => t.input) (fun t x => by (try dsimp only); (repeat' split); all_goals simp) _ _).trans (by simp)
    · exact (foldl_keeps (fun t : State => t.cond.run) (fun t x => by (try dsimp only); (repeat' split); all_goals simp) _ _).trans (by simp)
    · exact (foldl_keeps (fun t : State => t.ann.seqTruth) (fun t x => by (try dsimp only); (repeat' split); all_goals simp) _ _).trans (by simp)
    · exact (foldl_keeps (fun t : State => t.ann.edges) (fun t x => by (try dsimp only); (repeat' split); all_goals simp) _ _).trans (by simp)
    · exact (foldl_keeps (fun t : State => t.ann.attention) (fun t x => by (try dsimp only); (repeat' split); all_goals simp) _ _).trans (by simp)
    · exact (foldl_keeps (fun t : State => t.frame.nextSeq) (fun t x => by (try dsimp only); (repeat' split); all_goals simp) _ _).trans (by simp)
    · exact (foldl_keeps (fun t : State => t.frame.first) (fun t x => by (try dsimp only); (repeat' split); all_goals simp) _ _).trans (by simp)
    · exact (foldl_keeps (fun t : State => t.frame.refresh) (fun t x => by (try dsimp only); (repeat' split); all_goals simp) _ _).trans (by simp)
    · exact (foldl_keeps (fun t : State => t.line.w) (fun t x => by (try dsimp only); (repeat' split); all_goals simp) _ _).trans (by simp)
    · exact (foldl_keeps (fun t : State => t.line.blind) (fun t x => by (try dsimp only); (repeat' split); all_goals simp) _ _).trans (by simp)
    · exact (foldl_keeps (fun t : State => t.line.collisions) (fun t x => by (try dsimp only); (repeat' split); all_goals simp) _ _).trans (by simp)
    · exact (foldl_keeps (fun t : State => t.line.jam) (fun t x => by (try dsimp only); (repeat' split); all_goals simp) _ _).trans (by simp)
    · exact (foldl_keeps (fun t : State => t.line.nextSlot) (fun t x => by (try dsimp only); (repeat' split); all_goals simp) _ _).trans (by simp)
    · exact (foldl_keeps (fun t : State => t.out.phase) (fun t x => by (try dsimp only); (repeat' split); all_goals simp) _ _).trans (by simp)
    · exact (foldl_keeps (fun t : State => t.out.testLevel) (fun t x => by (try dsimp only); (repeat' split); all_goals simp) _ _).trans (by simp)
    · exact (foldl_keeps (fun t : State => t.pending) (fun t x => by (try dsimp only); (repeat' split); all_goals simp) _ _).trans (by simp)
  · simp
  · simp

@[simp] theorem State.beginTransaction_keeps (acks : List Bool) :
    (s.beginTransaction acks).held = s.held ∧ (s.beginTransaction acks).clock = s.clock ∧ (s.beginTransaction acks).pins = s.pins ∧
    (s.beginTransaction acks).settings = s.settings ∧ (s.beginTransaction acks).life = s.life ∧
    (s.beginTransaction acks).loader = s.loader ∧ (s.beginTransaction acks).pic = s.pic ∧ (s.beginTransaction acks).input = s.input ∧
    (s.beginTransaction acks).cond = s.cond ∧ (s.beginTransaction acks).ann = s.ann ∧ (s.beginTransaction acks).frame = s.frame ∧
    (s.beginTransaction acks).line = s.line ∧ (s.beginTransaction acks).out = s.out ∧ (s.beginTransaction acks).journal = s.journal ∧
    (s.beginTransaction acks).report = s.report ∧ (s.beginTransaction acks).pending = s.pending := by
  simp [State.beginTransaction]

@[simp] theorem State.writeTransaction_keeps (a : BitVec 7) (l : List Byte) :
    (s.writeTransaction a l).held = s.held ∧ (s.writeTransaction a l).clock = s.clock ∧
    (s.writeTransaction a l).pins = s.pins ∧ (s.writeTransaction a l).settings = s.settings ∧
    (s.writeTransaction a l).life = s.life ∧ (s.writeTransaction a l).pic.roster = s.pic.roster ∧
    (s.writeTransaction a l).pic.points = s.pic.points ∧ (s.writeTransaction a l).input = s.input ∧
    (s.writeTransaction a l).cond.run = s.cond.run ∧ (s.writeTransaction a l).ann.seqTruth = s.ann.seqTruth ∧
    (s.writeTransaction a l).ann.edges = s.ann.edges ∧ (s.writeTransaction a l).ann.attention = s.ann.attention ∧
    (s.writeTransaction a l).frame.nextSeq = s.frame.nextSeq ∧ (s.writeTransaction a l).frame.first = s.frame.first ∧
    (s.writeTransaction a l).frame.refresh = s.frame.refresh ∧ (s.writeTransaction a l).line.w = s.line.w ∧
    (s.writeTransaction a l).line.blind = s.line.blind ∧
    (s.writeTransaction a l).line.collisions = s.line.collisions ∧
    (s.writeTransaction a l).line.jam = s.line.jam ∧
    (s.writeTransaction a l).line.nextSlot = s.line.nextSlot ∧ (s.writeTransaction a l).out.phase = s.out.phase ∧
    (s.writeTransaction a l).out.testLevel = s.out.testLevel ∧ (s.writeTransaction a l).pending = s.pending := by
  simp only [State.writeTransaction]
  (repeat' split); all_goals simp

@[simp] theorem State.writeCommand_keeps (code : Byte) :
    (s.writeCommand code).held = s.held ∧ (s.writeCommand code).clock = s.clock ∧
    (s.writeCommand code).pins = s.pins ∧ (s.writeCommand code).settings = s.settings ∧
    (s.writeCommand code).life = s.life ∧ (s.writeCommand code).pic.roster = s.pic.roster ∧
    (s.writeCommand code).pic.points = s.pic.points ∧ (s.writeCommand code).input = s.input ∧
    (s.writeCommand code).cond.run = s.cond.run ∧ (s.writeCommand code).ann.seqTruth = s.ann.seqTruth ∧
    (s.writeCommand code).ann.edges = s.ann.edges ∧ (s.writeCommand code).ann.attention = s.ann.attention ∧
    (s.writeCommand code).frame.nextSeq = s.frame.nextSeq ∧ (s.writeCommand code).frame.first = s.frame.first ∧
    (s.writeCommand code).frame.refresh = s.frame.refresh ∧ (s.writeCommand code).line.w = s.line.w ∧
    (s.writeCommand code).line.blind = s.line.blind ∧ (s.writeCommand code).line.collisions = s.line.collisions ∧
    (s.writeCommand code).line.jam = s.line.jam ∧ (s.writeCommand code).line.nextSlot = s.line.nextSlot ∧
    (s.writeCommand code).out.phase = s.out.phase ∧ (s.writeCommand code).out.testLevel = s.out.testLevel ∧
    (s.writeCommand code).pending = s.pending := by
  simp [State.writeCommand]

@[simp] theorem State.sendByte_keeps :
    (s.sendByte).held = s.held ∧ (s.sendByte).clock = s.clock ∧ (s.sendByte).pins = s.pins ∧
    (s.sendByte).settings = s.settings ∧ (s.sendByte).life = s.life ∧ (s.sendByte).loader = s.loader ∧
    (s.sendByte).pic = s.pic ∧ (s.sendByte).input = s.input ∧ (s.sendByte).cond = s.cond ∧ (s.sendByte).ann = s.ann ∧
    (s.sendByte).frame = s.frame ∧ (s.sendByte).line = s.line ∧ (s.sendByte).out = s.out ∧
    (s.sendByte).journal = s.journal ∧ (s.sendByte).report = s.report ∧ (s.sendByte).pending = s.pending := by
  simp only [State.sendByte]
  (repeat' split); all_goals simp

@[simp] theorem State.sendBytes_keeps (n : Nat) :
    (State.sendBytes n s).held = s.held ∧ (State.sendBytes n s).clock = s.clock ∧ (State.sendBytes n s).pins = s.pins ∧
    (State.sendBytes n s).settings = s.settings ∧ (State.sendBytes n s).life = s.life ∧ (State.sendBytes n s).loader = s.loader ∧
    (State.sendBytes n s).pic = s.pic ∧ (State.sendBytes n s).input = s.input ∧ (State.sendBytes n s).cond = s.cond ∧
    (State.sendBytes n s).ann = s.ann ∧ (State.sendBytes n s).frame = s.frame ∧ (State.sendBytes n s).line = s.line ∧
    (State.sendBytes n s).out = s.out ∧ (State.sendBytes n s).journal = s.journal ∧ (State.sendBytes n s).report = s.report ∧
    (State.sendBytes n s).pending = s.pending := by
  induction n generalizing s with
  | zero => simp [State.sendBytes]
  | succ n ih => simp [State.sendBytes, ih]

@[simp] theorem State.beginRead_keeps :
    (s.beginRead).held = s.held ∧ (s.beginRead).clock = s.clock ∧ (s.beginRead).pins = s.pins ∧
    (s.beginRead).settings = s.settings ∧ (s.beginRead).life = s.life ∧ (s.beginRead).loader = s.loader ∧
    (s.beginRead).pic = s.pic ∧ (s.beginRead).input = s.input ∧ (s.beginRead).cond = s.cond ∧
    (s.beginRead).ann = s.ann ∧ (s.beginRead).frame = s.frame ∧ (s.beginRead).line = s.line ∧
    (s.beginRead).out = s.out ∧ (s.beginRead).journal = s.journal ∧ (s.beginRead).report = s.report ∧
    (s.beginRead).pending = s.pending := by
  simp only [State.beginRead]
  (repeat' split); all_goals simp

@[simp] theorem State.afterBytes_keeps (n : Nat) (acked : Bool) :
    (s.afterBytes n acked).held = s.held ∧ (s.afterBytes n acked).clock = s.clock ∧ (s.afterBytes n acked).pins = s.pins ∧
    (s.afterBytes n acked).settings = s.settings ∧ (s.afterBytes n acked).life = s.life ∧ (s.afterBytes n acked).loader = s.loader ∧
    (s.afterBytes n acked).pic = s.pic ∧ (s.afterBytes n acked).input = s.input ∧ (s.afterBytes n acked).cond = s.cond ∧
    (s.afterBytes n acked).ann = s.ann ∧ (s.afterBytes n acked).frame = s.frame ∧ (s.afterBytes n acked).line = s.line ∧
    (s.afterBytes n acked).out = s.out ∧ (s.afterBytes n acked).journal = s.journal ∧ (s.afterBytes n acked).report = s.report ∧
    (s.afterBytes n acked).pending = s.pending := by
  simp only [State.afterBytes]
  (repeat' split); all_goals simp

@[simp] theorem State.readPart_keeps (part : ReadPart) :
    (s.readPart part).held = s.held ∧ (s.readPart part).clock = s.clock ∧ (s.readPart part).pins = s.pins ∧
    (s.readPart part).settings = s.settings ∧ (s.readPart part).life = s.life ∧ (s.readPart part).loader = s.loader ∧
    (s.readPart part).pic = s.pic ∧ (s.readPart part).input = s.input ∧ (s.readPart part).cond = s.cond ∧
    (s.readPart part).ann = s.ann ∧ (s.readPart part).frame = s.frame ∧ (s.readPart part).line = s.line ∧
    (s.readPart part).out = s.out ∧ (s.readPart part).journal = s.journal ∧ (s.readPart part).report = s.report ∧
    (s.readPart part).pending = s.pending := by
  simp only [State.readPart]
  (repeat' split); all_goals simp

end Machine

end Sys2Proof
end

