-- ==== Sys2Proof/Laws/Effect.lean ====
section
/-!
SUPPORT. Every command answers a next state: `Instr.effect` names it, so that a statement about all commands can be
taken apart one command at a time; and the parts of the state that no command changes.
-/

namespace Sys2Proof

namespace Machine

/-- What a command does while the RESET pin is not held; RESET, LEAVE_RESET and the pins apart. -/
def effectRunning : Instr → State → State
  | .reset => State.resetPart
  | .leaveReset _ _ => id
  | .memoryReadEnd part => State.memoryRead part
  | .imageCheckEnd => State.imageCheckEnd
  | .inputLevelChange line active => State.inputLevel line active
  | .debounceExpiry line => State.debounceExpiry line
  | .pairTimerExpiry pair => State.pairExpiry pair
  | .controlInputChange input active => State.controlLevel input active
  | .controlDebounceExpiry input => State.controlExpiry input
  | .evaluation => State.evaluation
  | .holdExpiry cond => State.holdExpiry cond
  | .releaseExpiry cond => State.releaseExpiry cond
  | .truthEdge cond => fun s => if s.ann.edges.any (fun e => e.cond == cond) then (s.takeEdge cond).settle else s
  | .retryTimerExpiry entry => State.retryExpiry entry
  | .silenceLatchClear => State.latchClear
  | .absenceTimerExpiry station => State.absenceExpiry station
  | .refreshTimerExpiry => State.refreshExpiry
  | .listenTimerExpiry => State.listenExpiry
  | .withdrawTimerExpiry => State.withdrawExpiry
  | .patternPhaseStep => State.patternStep
  | .startupWaitEnd => State.startupWaitEnd
  | .frameEnd levels => State.frameEnd levels
  | .invalidReceptionEnd levels => State.invalidReceptionEnd levels
  | .jamEnd levels => State.jamEnd levels
  | .slotStart slot => State.slotStart slot
  | .windowEnd => State.windowEnd
  | .transmissionComplete => State.transmissionComplete
  | .ownFrameEnd => State.ownFrameEnd
  | .collision bitTime => State.collision bitTime
  | .lineStuck => State.lineStuck
  | .lineReleased => State.lineReleased
  | .take => State.writeCommand 0x01
  | .ackAll => State.writeCommand 0x02
  | .ackOne => State.writeCommand 0x03
  | .silence => State.writeCommand 0x04
  | .lampTestOn => State.writeCommand 0x05
  | .lampTestOff => State.writeCommand 0x06
  | .countClear => State.writeCommand 0x07
  | .commit => State.writeCommand 0x08
  | .unknownCommand code => State.writeCommand code
  | .readCapture part => State.readPart part
  | .imageBufferWrite offset bytes => State.writeTransaction Config.portAddress
      (BitVec.ofNat 8 ((0x1000 + offset.val) / 256) :: BitVec.ofNat 8 (0x1000 + offset.val) :: bytes)
  | .registerWrite address data => State.writeTransaction address data
  | .reportLineEnd => State.reportLineEnd
  | .receptionStart => State.receptionStart

/-- What a command does while the RESET pin is held. -/
def effectHeld : Instr → State → State
  | .reset => State.resetPart
  | .leaveReset stn source => State.leaveReset stn source
  | .inputLevelChange line active => State.inputLevel line active
  | .controlInputChange input active => State.controlLevel input active
  | _ => id

/-- The next state every command answers. -/
def effect (c : Instr) (s : State) : State := if s.held then effectHeld c s else effectRunning c s

/-- Every command answers its effect. -/
theorem exec_eq_effect (c : Instr) (s : State) : exec c s = .next (effect c s) := by
  unfold effect
  cases c <;> simp only [exec, execReset, execLeaveReset, execMemoryReadEnd, execImageCheckEnd, execInputLevelChange,
    execDebounceExpiry, execPairTimerExpiry, execControlInputChange, execControlDebounceExpiry, execEvaluation,
    execHoldExpiry, execReleaseExpiry, execTruthEdge, execRetryTimerExpiry, execSilenceLatchClear,
    execAbsenceTimerExpiry, execRefreshTimerExpiry, execListenTimerExpiry, execWithdrawTimerExpiry,
    execPatternPhaseStep, execStartupWaitEnd, execFrameEnd, execInvalidReceptionEnd, execJamEnd, execSlotStart,
    execWindowEnd, execTransmissionComplete, execOwnFrameEnd, execCollision, execLineStuck, execLineReleased, execTake,
    execAckAll, execAckOne, execSilence, execLampTestOn, execLampTestOff, execCountClear, execCommit,
    execUnknownCommand, execReadCapture, execImageBufferWrite, execRegisterWrite, execReportLineEnd,
    execReceptionStart, State.event, effectHeld, effectRunning, id] <;> (try split) <;> rfl

/-- While the RESET pin is not held a command answers its running effect. -/
theorem exec_running (c : Instr) {s : State} (h : s.held = false) : exec c s = .next (effectRunning c s) := by
  simp [exec_eq_effect, effect, h]

/-- While the RESET pin is held a command answers its held effect. -/
theorem exec_held (c : Instr) {s : State} (h : s.held = true) : exec c s = .next (effectHeld c s) := by
  simp [exec_eq_effect, effect, h]

/-- A step is the tick of an empty queue or the effect of the command in front. -/
theorem step_eq (s : State) : step s = .next (match s.pending with
    | [] => s.tick
    | c :: rest => effect c (s.withPending rest)) := by
  unfold step
  split <;> simp_all [exec_eq_effect]

/-- No command changes the queue of waiting commands. -/
@[simp] theorem effect_pending (c : Instr) (s : State) : (effect c s).pending = s.pending := by
  unfold effect
  cases c <;> simp only [effectHeld, effectRunning, id] <;> (try split) <;> (try simp) <;> (try rfl)
  · simp only [State.leaveReset]
    split <;> rfl
  · split <;> simp

end Machine

end Sys2Proof
end

