-- ==== Sys2Proof/Laws/Memory.lean ====
section
/-!
SUPPORT. The laws of the image buffer: a read after a write, a write leaves every other offset, every write keeps the
canonical form, and the empty buffer has it.
-/

namespace Sys2Proof

namespace Machine

/-- The empty buffer is canonical. -/
@[simp] theorem Memory.wf_nil : Memory.wf [] = true := rfl

/-- A canonical store lists nothing below the offset it begins at. -/
theorem Memory.read_below {m : Memory} {low a : Nat} (h : Memory.wfFrom low m = true) (ha : a < low) :
    Memory.read m a = 0 := by
  induction m generalizing low with
  | nil => rfl
  | cons e m ih =>
    obtain ⟨k, v⟩ := e
    simp only [Memory.wfFrom, Bool.and_eq_true, decide_eq_true_eq] at h
    rw [Memory.read, if_neg (by omega)]
    exact ih h.2 (by omega)

/-- A canonical store is canonical from any lower offset. -/
theorem Memory.wfFrom_le {m : Memory} {low low' : Nat} (h : Memory.wfFrom low m = true) (hl : low' ≤ low) :
    Memory.wfFrom low' m = true := by
  cases m with
  | nil => rfl
  | cons e m =>
    obtain ⟨k, v⟩ := e
    simp only [Memory.wfFrom, Bool.and_eq_true, decide_eq_true_eq] at h ⊢
    exact ⟨⟨⟨by omega, h.1.1.2⟩, h.1.2⟩, h.2⟩

/-- What an offset reads after one byte is written. -/
theorem Memory.read_write_from {m : Memory} {low : Nat} (h : Memory.wfFrom low m = true) (a : Nat) (b : Byte) (x : Nat) :
    Memory.read (Memory.write m a b) x = if x = a then b else Memory.read m x := by
  induction m generalizing low with
  | nil =>
    simp only [Memory.write]
    split
    · rename_i hb; subst hb; simp [Memory.read]
    · simp only [Memory.read, eq_comm (a := a)]
  | cons e m ih =>
    obtain ⟨k, v⟩ := e
    simp only [Memory.wfFrom, Bool.and_eq_true, decide_eq_true_eq] at h
    simp only [Memory.write]
    split
    · rename_i hak
      split
      · rename_i hb; subst hb
        split
        · rename_i hx; subst hx
          rw [Memory.read, if_neg (by omega)]
          exact Memory.read_below h.2 (by omega)
        · rfl
      · rw [Memory.read]; simp only [eq_comm (a := a)]
    · split
      · rename_i hak; subst hak
        split
        · rename_i hb; subst hb
          split
          · rename_i hx; subst hx; exact Memory.read_below h.2 (by omega)
          · rename_i hx; rw [Memory.read, if_neg (fun he => hx he.symm)]
        · rw [Memory.read]
          split
          · rename_i hx; subst hx; simp
          · rename_i hx; rw [if_neg (fun he => hx he.symm), Memory.read, if_neg hx]
      · rw [Memory.read]
        split
        · rename_i hx; subst hx; rw [if_neg (fun he => by simp_all)]; simp [Memory.read]
        · rename_i hx; rw [ih h.2, Memory.read, if_neg hx]

/-- What an offset of the canonical buffer reads after one byte is written. -/
theorem Memory.read_write {m : Memory} (h : Memory.wf m = true) (a : Nat) (b : Byte) (x : Nat) :
    Memory.read (Memory.write m a b) x = if x = a then b else Memory.read m x :=
  Memory.read_write_from h a b x

/-- A byte written at or above the first offset keeps the canonical form. -/
theorem Memory.write_wf_from {m : Memory} {low : Nat} (h : Memory.wfFrom low m = true) {a : Nat} (b : Byte)
    (hl : low ≤ a) (ha : a < bufferSize) : Memory.wfFrom low (Memory.write m a b) = true := by
  induction m generalizing low with
  | nil =>
    simp only [Memory.write]
    split
    · rfl
    · rename_i hb; simp [Memory.wfFrom, hl, ha]; exact hb
  | cons e m ih =>
    obtain ⟨k, v⟩ := e
    have h' := h
    simp only [Memory.wfFrom, Bool.and_eq_true, decide_eq_true_eq] at h
    simp only [Memory.write]
    split
    · rename_i hak
      split
      · exact h'
      · rename_i hb
        simp [Memory.wfFrom, hl, ha]
        exact ⟨hb, ⟨⟨by omega, h.1.1.2⟩, by simpa using h.1.2⟩, h.2⟩
    · split
      · rename_i hak
        subst hak
        split
        · exact Memory.wfFrom_le h.2 (by omega)
        · rename_i hb
          simp [Memory.wfFrom, hl, ha, h.2]
          exact hb
      · simp [Memory.wfFrom, h.1.1.1, h.1.1.2, ih h.2 (by omega)]
        simpa using h.1.2

/-- A byte written inside the buffer keeps the canonical form. -/
theorem Memory.write_wf {m : Memory} (h : Memory.wf m = true) {a : Nat} (b : Byte) (ha : a < bufferSize) :
    Memory.wf (Memory.write m a b) = true :=
  Memory.write_wf_from h b (Nat.zero_le a) ha

/-- The bytes from an offset on, in two runs. -/
theorem Memory.slice_append (m : Memory) (a n k : Nat) : m.slice a (n + k) = m.slice a n ++ m.slice (a + n) k := by
  simp [Memory.slice, List.range_add, Nat.add_assoc]

/-- What an edge of SCK does to the buffer: the byte whose eight levels have been sampled is written at the next offset
at the falling edge, and at every other edge the buffer stands (R141). -/
theorem Loader.clockEdge_buffer (l : Loader) (level : Bool) : (l.clockEdge level).buffer =
    if l.phase = .reading ∧ l.sck = true ∧ l.sdi.length = 8 then Memory.write l.buffer l.got (spiByte l.sdi)
    else l.buffer := by
  simp only [Loader.clockEdge, Loader.clockFalls, Loader.clockRises, Loader.memoryByte]
  (repeat' split) <;> simp_all

/-- A byte of the memory read that arrives stands at the next offset, and no other byte of the buffer moves (R141). -/
theorem Loader.clockEdge_read {l : Loader} (h : Memory.wf l.buffer = true) (level : Bool) (x : Nat) :
    Memory.read (l.clockEdge level).buffer x =
      if l.phase = .reading ∧ l.sck = true ∧ l.sdi.length = 8 ∧ x = l.got then spiByte l.sdi
      else Memory.read l.buffer x := by
  rw [Loader.clockEdge_buffer]
  split <;> rename_i hc
  · simp [hc.1, hc.2.1, hc.2.2, Memory.read_write h]
  · rw [if_neg fun hx => hc ⟨hx.1, hx.2.1, hx.2.2.1⟩]

/-- An edge of SCK keeps the canonical form, while the read has not passed the buffer's end. -/
theorem Loader.clockEdge_wf {l : Loader} (h : Memory.wf l.buffer = true) (hg : l.phase = .reading → l.got < bufferSize)
    (level : Bool) : Memory.wf (l.clockEdge level).buffer = true := by
  rw [Loader.clockEdge_buffer]
  split <;> rename_i hc
  · exact Memory.write_wf h _ (hg hc.1)
  · exact h

/-- SCK stands still while no memory read runs (R141). -/
theorem Loader.clockEdge_stands {l : Loader} (h : l.phase ≠ .reading) (level : Bool) : l.clockEdge level = l := by
  simp only [Loader.clockEdge, if_neg h]

/-- Any edges leave the loader as it stands while no memory read runs (R141). -/
theorem Loader.edges_stand {l : Loader} (h : l.phase ≠ .reading) (levels : List Bool) :
    levels.foldl Loader.clockEdge l = l := by
  induction levels with
  | nil => rfl
  | cons level levels ih => rw [List.foldl_cons, Loader.clockEdge_stands h, ih]

/-- Reading ones to the end of the read is taking that many edges with SDI high (R141). -/
theorem Loader.readOnes_eq (n : Nat) (l : Loader) :
    Loader.readOnes n l = (List.replicate n true).foldl Loader.clockEdge l := by
  induction n generalizing l with
  | zero => rfl
  | succ n ih =>
    rw [Loader.readOnes, List.replicate_succ, List.foldl_cons]
    by_cases h : l.phase = .reading
    · rw [if_pos h, ih]
    · rw [if_neg h, Loader.clockEdge_stands h, Loader.edges_stand h]

/-- Eight levels spell the byte whose bits they are, the first of them its most significant bit (R141). -/
theorem spiByte_spiLevels (b : Byte) : spiByte (spiLevels b) = b := by
  revert b; decide +kernel

end Machine

end Sys2Proof
end

