-- ==== Sys2Proof/Laws/Effects.lean ====
section
/-!
SUPPORT. What each shared operation changes: the half that `Laws/Keeps.lean` leaves out. Records handed to the journal,
picture entries with their notices, requests to the outgoing queue, and the port's transactions.
-/

namespace Sys2Proof

namespace Machine

variable (s : State)

/-- Updating the port and starting a transmission commute. -/
theorem State.startTransmission_onPort (f : Port → Port) :
    (s.onPort f).startTransmission = s.startTransmission.onPort f := by
  simp only [State.startTransmission, State.onPort_frame]
  split
  · rfl
  · rename_i e he
    cases hk : e.kind <;> simp only [State.onRequestOf]
    · rfl
    · split <;> rename_i h1 <;> split <;> rename_i h2 <;> simp at h1 h2 <;> simp [h1] at h2 <;> first | (subst h2; rfl) | rfl
    · rfl

/-- The port's registers take no part in the end of an event. -/
theorem State.settle_onPort (f : Port → Port) : (s.onPort f).settle = s.settle.onPort f := by
  have h : (s.onPort f).quietStart = s.quietStart.onPort f := by
    unfold State.quietStart
    by_cases hc : s.life.life = .active ∧ s.line.state = .quiet
    · rw [if_pos (by exact hc), if_pos hc, State.startTransmission_onPort]
    · rw [if_neg (by exact hc), if_neg hc]
  simp only [State.settle, h]; rfl

/-- The port's registers take no part in the outputs. -/
theorem State.driveOutputs_onPort (f : Port → Port) : (s.onPort f).driveOutputs = s.driveOutputs.onPort f := rfl

/-- A write of COMMAND. -/
theorem State.writeCommand_eq (code : Byte) : s.writeCommand code =
    ((s.onPort (fun p => { p with
      reading := false
      unsent := []
      acks := [true, true, true, true]
      pointer := 0x12
      command := code })).settleCommand code).onPort (fun p => { p with pointer := p.pointer + 1 }) := by
  have h : ∀ t : State, t.port.pointer.toNat = 18 →
      t.writeRegister t.port.pointer.toNat code = (t.onPort (fun p => { p with command := code })).settleCommand code := by
    intro t ht
    simp [State.writeRegister, ht]
  have e : s.writeCommand code = (((s.beginTransaction [true, true, true, true]).onPort (fun p => { p with pointer := 0x00#8 ++ 0x12#8 })).writeByte code) := by
    simp only [State.writeCommand, State.writeTransaction, if_true]; rfl
  rw [e, State.writeByte, h _ (by show (0x00#8 ++ 0x12#8).toNat = 18; decide)]
  rfl

/-! ### The journal -/

/-- The journal after a record is handed to it. -/
theorem State.record_journal (b : RecordBody) : (s.record b).journal =
    if s.scopePasses b then (s.journal.append ⟨b, s.clock⟩).driveAttn s.settings.attnEnabled else s.journal := by
  simp only [State.record]; split <;> rfl

/-- The journal's scope reads the settings, the own number and the attention set alone. -/
theorem State.scopePasses_congr {s t : State} (h1 : t.settings = s.settings) (h2 : t.life.stn = s.life.stn)
    (h3 : t.ann.attention = s.ann.attention) (b : RecordBody) : t.scopePasses b = s.scopePasses b := by
  cases b <;> simp [State.scopePasses, State.own, h1, h2, h3]

/-- Every scope passes the own points (Table 10-3). -/
theorem State.scopePasses_own_point (p : PointIx) (v f : Bool) : s.scopePasses (.pointChange s.own p v f) = true := by
  simp [State.scopePasses]

/-- Every scope passes the own conditions (Table 10-3). -/
theorem State.scopePasses_own_cond (c : CondIx) (a : AnnState) (g : Gen) :
    s.scopePasses (.condChange s.own c a g) = true := by
  simp [State.scopePasses]

/-- An event that leaves the journal hands it nothing. -/
theorem State.hands_nil {s t : State} (h : t.journal = s.journal) : s.hands t [] := h

/-- Two events in a row hand the records of the first and then those of the second. -/
theorem State.hands_append {s t u : State} {l m : List RecordBody} (h : s.hands t l) (h' : t.hands u m)
    (hc : u.clock = t.clock) (hs : u.settings.attnEnabled = t.settings.attnEnabled) : s.hands u (l ++ m) := by
  simp only [State.hands] at h h' ⊢
  rw [h', h, List.foldl_append, hc, hs]

/-- What an event hands to the journal is seen in the journal alone. -/
theorem State.hands_of_journal {s t u : State} {l : List RecordBody} (h : s.hands t l) (hj : u.journal = t.journal)
    (hc : u.clock = t.clock) (hs : u.settings.attnEnabled = t.settings.attnEnabled) : s.hands u l := by
  simp only [State.hands] at h ⊢; rw [hj, hc, hs, h]

/-- A record handed on stands in the journal where the scope passes it. -/
theorem State.hands_record (b : RecordBody) : s.hands (s.record b) (if s.scopePasses b then [b] else []) := by
  simp only [State.hands, State.record_journal, (State.record_keeps s b)]
  split <;> simp

/-! ### The picture and the queue -/

/-- A point entry set is read there, and every other point entry as before. -/
theorem Picture.pointEntry_setPoint (pic : Picture) (st p e x q) :
    (((pic.setPoint st p e).points.get x).get q) = if x = st ∧ q = p then e else (pic.points.get x).get q := by
  simp only [Picture.setPoint, Tab.get_modify]
  by_cases h : st = x
  · subst h; simp [Tab.get_set, eq_comm (a := p)]
  · simp [h, Ne.symm h]

/-- A condition entry set is read there, and every other condition entry as before. -/
theorem Picture.condEntry_setCond (pic : Picture) (st p e x q) :
    (((pic.setCond st p e).conds.get x).get q) = if x = st ∧ q = p then e else (pic.conds.get x).get q := by
  simp only [Picture.setCond, Tab.get_modify]
  by_cases h : st = x
  · subst h; simp [Tab.get_set, eq_comm (a := p)]
  · simp [h, Ne.symm h]

/-- A point entry written is read there, and every other point entry as before. -/
@[simp] theorem State.writePoint_pointEntry (st p e x q) :
    (s.writePoint st p e).pointEntry x q = if x = st ∧ q = p then e else s.pointEntry x q := by
  simp only [State.writePoint]
  split
  · rename_i h; split
    · rename_i h2; rw [h2.1, h2.2, h]
    · rfl
  · simp [State.pointEntry, State.notice, Picture.pointEntry_setPoint]

/-- A point entry that changes yields its notice (R18). -/
@[simp] theorem State.writePoint_notices (st p e) : (s.writePoint st p e).cond.notices =
    s.cond.notices ++ if e = s.pointEntry st p then [] else [.point st p (s.pointEntry st p) e] := by
  simp only [State.writePoint]; split <;> simp [State.notice]

/-- A condition entry written is read there, and every other condition entry as before. -/
@[simp] theorem State.writeCond_condEntry (st p e x q) :
    (s.writeCond st p e).condEntry x q = if x = st ∧ q = p then e else s.condEntry x q := by
  simp only [State.writeCond]
  split
  · rename_i h; split
    · rename_i h2; rw [h2.1, h2.2, h]
    · rfl
  · simp [State.condEntry, Picture.condEntry_setCond]

/-- A condition's notice joins the Condition Unit's notices. -/
@[simp] theorem State.noticeCond_notices (st p e e') : (s.noticeCond st p e e').cond.notices =
    s.cond.notices ++ [.cond st p e e'] := by
  simp only [State.noticeCond]; split <;> simp [State.notice]

/-- A condition's notice calls for a clear of the latch where its condition is in the horn set (R95). -/
@[simp] theorem State.noticeCond_clears (st p e e') : (s.noticeCond st p e e').ann.clears =
    s.ann.clears ++ if s.settings.horn.contains ⟨st, p⟩ && callsForClear e e' then [⟨st, p⟩] else [] := by
  simp only [State.noticeCond, State.notice, State.onCond_settings]
  by_cases h : (s.settings.horn.contains ⟨st, p⟩ && callsForClear e e') = true
  · simp only [h, if_true]; rfl
  · simp only [h]; simp

/-- A condition entry that changes yields its notice (R18). -/
@[simp] theorem State.writeCond_notices (st p e) : (s.writeCond st p e).cond.notices =
    s.cond.notices ++ if e = s.condEntry st p then [] else [.cond st p (s.condEntry st p) e] := by
  simp only [State.writeCond]; split <;> simp

/-- A condition entry that changes calls for a clear of the latch as R95 gives. -/
theorem State.writeCond_clears (st p e) : (s.writeCond st p e).ann.clears =
    s.ann.clears ++ if e ≠ s.condEntry st p ∧ s.settings.horn.contains ⟨st, p⟩ = true ∧
      callsForClear (s.condEntry st p) e = true then [⟨st, p⟩] else [] := by
  simp only [State.writeCond]
  split
  · rename_i h; simp [h]
  · rename_i h
    rw [State.noticeCond_clears]
    simp [h]

/-- The queue after an urgent STATE request (R104). -/
@[simp] theorem State.requestUrgent_queue : s.requestUrgent.frame.queue =
    if s.life.life.queues then urgentRequest s.frame.queue else s.frame.queue := by
  simp only [State.requestUrgent]; split <;> simp

/-- The Frame Unit after an urgent STATE request (R104). -/
theorem State.requestUrgent_frame : s.requestUrgent.frame =
    { s.frame with queue := if s.life.life.queues then urgentRequest s.frame.queue else s.frame.queue } := by
  simp only [State.requestUrgent]; split <;> simp

/-- Records of own points handed on one after the other. -/
theorem fold_record_points (l : List (PointIx × PointEntry)) : 
    s.hands (l.foldl (fun t x => t.record (.pointChange t.own x.1 x.2.value (x.2.quality == .fault))) s)
     (l.map (fun x => .pointChange s.own x.1 x.2.value (x.2.quality == .fault))) := by
  induction l generalizing s with
  | nil => rfl
  | cons x l ih =>
    simp only [List.foldl_cons, List.map_cons]
    have h := State.hands_record s (.pointChange s.own x.1 x.2.value (x.2.quality == .fault))
    rw [State.scopePasses_own_point] at h
    have h2 := ih (s.record (.pointChange s.own x.1 x.2.value (x.2.quality == .fault)))
    have ho : (s.record (.pointChange s.own x.1 x.2.value (x.2.quality == .fault))).own = s.own := by simp [State.own]
    rw [ho] at h2
    refine State.hands_append h h2 ?_ ?_
    · exact foldl_keeps (fun t : State => t.clock) (by simp) _ _
    · exact foldl_keeps (fun t : State => t.settings.attnEnabled) (by simp) _ _

/-- Own points written one after the other: each entry, and a notice of each that changes. -/
theorem fold_write_points (l : List (PointIx × PointEntry)) (hl : (l.map Prod.fst).Nodup) (own) (ho : s.own = own) :
    let t := l.foldl (fun t x => t.writePoint t.own x.1 x.2) s
    (∀ x q, t.pointEntry x q = match l.find? (fun y => y.1 = q) with
      | some y => if x = own then y.2 else s.pointEntry x q
      | none => s.pointEntry x q) ∧
    t.cond.notices = s.cond.notices ++ ((l.filter (fun y => s.pointEntry own y.1 != y.2)).map (fun y => Notice.point own y.1 (s.pointEntry own y.1) y.2)) := by
  induction l generalizing s with
  | nil => simp
  | cons x l ih =>
    simp only [List.map_cons, List.nodup_cons] at hl
    simp only [List.foldl_cons]
    have ho' : (s.writePoint s.own x.1 x.2).own = own := by simpa [State.own] using ho
    obtain ⟨h1, h2⟩ := ih (s.writePoint s.own x.1 x.2) hl.2 ho'
    constructor
    · intro y q
      rw [h1 y q]
      simp only [List.find?_cons]
      by_cases hq : x.1 = q
      · have : List.find? (fun y => decide (y.1 = q)) l = none := by
          rw [List.find?_eq_none]; intro z hz hzq; simp at hzq; apply hl.1; rw [hq, ← hzq]; exact List.mem_map_of_mem hz
        simp [this, hq, ho]
      · simp only [hq, decide_false]
        cases List.find? (fun y => decide (y.1 = q)) l <;> simp [Ne.symm hq]
    · rw [h2]
      have : ∀ y ∈ l, (s.writePoint s.own x.1 x.2).pointEntry own y.1 = s.pointEntry own y.1 := by
        intro y hy; rw [State.writePoint_pointEntry, if_neg]; rintro ⟨_, h⟩; exact hl.1 (h ▸ List.mem_map_of_mem hy)
      rw [List.filter_congr (fun y hy => by rw [this y hy]),
        List.map_congr_left (fun y hy => by rw [this y (List.mem_of_mem_filter hy)]), State.writePoint_notices,
        List.filter_cons, ho, List.append_assoc]
      by_cases hx : x.2 = s.pointEntry own x.1
      · simp [hx]
      · simp [hx, Ne.symm hx]

/-- Everything an event that writes own points does (R26, R29). -/
theorem writeOwnPoints_effect (l : List (PointIx × PointEntry)) (hl : (l.map Prod.fst).Nodup) :
    let u := s.writeOwnPoints l
    (∀ x q, u.pointEntry x q = match l.find? (fun y => y.1 = q) with
      | some y => if x = s.own then y.2 else s.pointEntry x q
      | none => s.pointEntry x q) ∧
    u.cond.notices = s.cond.notices ++ ((l.filter (fun y => s.pointEntry s.own y.1 != y.2)).map (fun y => Notice.point s.own y.1 (s.pointEntry s.own y.1) y.2)) ∧
    s.hands u (l.map (fun x => .pointChange s.own x.1 x.2.value (x.2.quality == .fault))) ∧
    u.frame = { s.frame with queue := if s.life.life.queues then urgentRequest s.frame.queue else s.frame.queue } ∧
    u.pic.roster = s.pic.roster ∧ u.pic.conds = s.pic.conds ∧ u.cond.run = s.cond.run ∧ s.changesOnly [.pic, .cond, .frame, .journal] u := by
  have hr := fold_record_points s l
  generalize hm : l.foldl (fun t x => t.record (.pointChange t.own x.1 x.2.value (x.2.quality == .fault))) s = m at hr
  have hk : ∀ {γ : Type} (g : State → γ), (∀ t b, g (State.record b t) = g t) → g m = g s := by
    intro γ g hg; rw [← hm]; exact foldl_keeps g (fun a b => hg a _) _ _
  have ho : m.own = s.own := hk (fun t => t.own) (by simp [State.own])
  obtain ⟨w1, w2⟩ := fold_write_points m l hl s.own ho
  have hu : s.writeOwnPoints l = (l.foldl (fun t x => t.writePoint t.own x.1 x.2) m).requestUrgent := by
    rw [← hm]; rfl
  generalize hw : l.foldl (fun t x => t.writePoint t.own x.1 x.2) m = w at w1 w2 hu
  rw [hu]
  have hkw : ∀ {γ : Type} (g : State → γ), (∀ t p e st, g (State.writePoint st p e t) = g t) → g w = g m := by
    intro γ g hg; rw [← hw]; exact foldl_keeps g (fun a b => hg a _ _ _) _ _
  have hpe : m.pic = s.pic := hk (fun t => t.pic) (by simp)
  have hps : ∀ x q, m.pointEntry x q = s.pointEntry x q := by intro x q; simp [State.pointEntry, hpe]
  refine ⟨?_, ?_, ?_, ?_, ?_, ?_, ?_, ?_⟩
  · intro x q
    have := w1 x q
    simp only [hps] at this
    simpa [State.pointEntry] using this
  · have hc : m.cond = s.cond := hk (fun t => t.cond) (by simp)
    simp only [hps, hc] at w2
    simpa using w2
  · refine State.hands_of_journal hr ?_ ?_ ?_ <;> simp
    · exact hkw (fun t => t.journal) (by simp)
    · exact hkw (fun t => t.clock) (by simp)
    · exact hkw (fun t => t.settings.attnEnabled) (by simp)
  · rw [State.requestUrgent_frame]
    have h1 : w.frame = s.frame := (hkw (fun t => t.frame) (by simp)).trans (hk (fun t => t.frame) (by simp))
    have h2 : w.life = s.life := (hkw (fun t => t.life) (by simp)).trans (hk (fun t => t.life) (by simp))
    rw [h1, h2]
  · simp; rw [hkw (fun t => t.pic.roster) (by simp), hpe]
  · simp; rw [hkw (fun t => t.pic.conds) (by simp), hpe]
  · simp; rw [hkw (fun t => t.cond.run) (by simp), hk (fun t => t.cond.run) (by simp)]
  · intro b hb
    cases b <;> simp at hb <;> simp only [Block.same, State.requestUrgent_keeps]
    · exact (hkw (fun t => t.held) (by simp)).trans (hk (fun t => t.held) (by simp))
    · exact (hkw (fun t => t.clock) (by simp)).trans (hk (fun t => t.clock) (by simp))
    · exact (hkw (fun t => t.pins) (by simp)).trans (hk (fun t => t.pins) (by simp))
    · exact (hkw (fun t => t.settings) (by simp)).trans (hk (fun t => t.settings) (by simp))
    · exact (hkw (fun t => t.life) (by simp)).trans (hk (fun t => t.life) (by simp))
    · exact (hkw (fun t => t.loader) (by simp)).trans (hk (fun t => t.loader) (by simp))
    · exact (hkw (fun t => t.input) (by simp)).trans (hk (fun t => t.input) (by simp))
    · exact (hkw (fun t => t.ann) (by simp)).trans (hk (fun t => t.ann) (by simp))
    · exact (hkw (fun t => t.line) (by simp)).trans (hk (fun t => t.line) (by simp))
    · exact (hkw (fun t => t.out) (by simp)).trans (hk (fun t => t.out) (by simp))
    · exact (hkw (fun t => t.port) (by simp)).trans (hk (fun t => t.port) (by simp))
    · exact (hkw (fun t => t.report) (by simp)).trans (hk (fun t => t.report) (by simp))
    · exact (hkw (fun t => t.pending) (by simp)).trans (hk (fun t => t.pending) (by simp))



/-! ### Conditions and annunciation -/

/-- Everything an edge of truth does (R52). -/
theorem truthEdge_effect (c : CondIx) (r : Bool) :
   let u := s.truthEdge c r
   (∀ x k, u.condEntry x k = if x = s.own ∧ k = c then { s.ownCond c with truth := r } else s.condEntry x k) ∧
   u.cond.notices = s.cond.notices ++ (if r = (s.ownCond c).truth then []
     else [.cond s.own c (s.ownCond c) { s.ownCond c with truth := r }]) ∧
   u.cond.run = s.cond.run ∧ u.ann.edges = s.ann.edges ++ [⟨c, r⟩] ∧ 
   u.ann.clears = s.ann.clears ∧
   u.frame = { s.frame with queue := if s.life.life.queues then urgentRequest s.frame.queue else s.frame.queue } ∧
   s.changesOnly [.pic, .cond, .ann, .frame] u := by
  simp only [State.truthEdge]
  refine ⟨?_, ?_, ?_, ?_, ?_, ?_, ?_⟩
  · intro x k
    have : ∀ t : State, t.requestUrgent.condEntry x k = t.condEntry x k := by intro t; simp [State.condEntry]
    rw [this]
    have : ∀ (t : State) f, (t.onAnn f).condEntry x k = t.condEntry x k := by intro t f; simp [State.condEntry]
    rw [this]; simp
  · simp
    have : s.condEntry s.own c = s.ownCond c := rfl
    rw [this]; cases s.ownCond c; simp
  · simp
  · simp
  · simp
    have hn : callsForClear (s.condEntry s.own c) { s.ownCond c with truth := r } = false := by
      cases h : (s.condEntry s.own c).state <;> simp [callsForClear, State.ownCond, h]
    rw [State.writeCond_clears, hn]
    simp
  · rw [State.requestUrgent_frame]; simp
  · intro b hb; cases b <;> simp at hb <;> simp [Block.same]

/-- The report job of a change, by `State.jobOf`. -/
theorem reportChange_eq (c new g) : s.reportChange c new g = match s.jobOf c new g with
   | none => s
   | some j => s.addJob j := by
  simp only [State.reportChange, State.jobOf]
  cases new <;> simp
  · cases (s.settings.conds.get c).onClear <;> rfl
  · cases (s.settings.conds.get c).onAlert <;> rfl

/-- Everything a change of an own condition's annunciation state does (R68 to R70, R186, R187). -/
theorem annChange_effect (c : CondIx) (new : AnnState) :
    let e := s.ownCond c
    let g := genAfter new e.gen
    let u := s.annChange c new
    (∀ x k, u.condEntry x k = if x = s.own ∧ k = c then { e with state := new, gen := g } else s.condEntry x k) ∧
    u.cond.notices = s.cond.notices ++ (if new = e.state ∧ g = e.gen then []
      else [.cond s.own c e { e with state := new, gen := g }]) ∧
    u.frame = { s.frame with queue := if s.life.life.queues then urgentRequest s.frame.queue else s.frame.queue } ∧
    (s.jobOf c new g = none → s.hands u [.condChange s.own c new g] ∧ u.report = s.report) ∧
    (∀ j, s.jobOf c new g = some j →
      (s.report.jobs.length < 6 → s.hands u [.condChange s.own c new g] ∧
         (s.report.line = none → s.report.jobs = [] → u.report = ⟨[], some (u.composeLine j), s.clock⟩) ∧
         (s.report.line ≠ none → u.report = { s.report with jobs := s.report.jobs ++ [j] })) ∧
      (6 ≤ s.report.jobs.length → s.hands u [.condChange s.own c new g, .reportDropped s.own j.cond j.trigger] ∧ u.report = s.report)) := by
  simp only
  have e0 : s.annChange c new = State.reportChange c new (genAfter new (s.ownCond c).gen) (((s.record (.condChange s.own c new (genAfter new (s.ownCond c).gen))).writeCond s.own c
    { s.ownCond c with state := new, gen := genAfter new (s.ownCond c).gen }).requestUrgent) := rfl
  rw [e0, reportChange_eq]
  set g := genAfter new (s.ownCond c).gen
  set x := ((s.record (.condChange s.own c new g)).writeCond s.own c { s.ownCond c with state := new, gen := g }).requestUrgent with hx
  have hjob : x.jobOf c new g = s.jobOf c new g := by simp [State.jobOf, hx]
  have hrep : x.report = s.report := by simp [hx]
  have hh : s.hands x [.condChange s.own c new g] := by
    have h := State.hands_record s (.condChange s.own c new g)
    rw [State.scopePasses_own_cond] at h
    exact State.hands_of_journal h (by simp [hx]) (by simp [hx]) (by simp [hx])
  have hce : ∀ y k, x.condEntry y k = if y = s.own ∧ k = c then { s.ownCond c with state := new, gen := g } else s.condEntry y k := by
    intro y k
    have : ∀ t : State, t.requestUrgent.condEntry y k = t.condEntry y k := by intro t; simp [State.condEntry]
    rw [hx, this]; simp; simp [State.condEntry]
  have hno : x.cond.notices = s.cond.notices ++ (if new = (s.ownCond c).state ∧ g = (s.ownCond c).gen then []
      else [.cond s.own c (s.ownCond c) { s.ownCond c with state := new, gen := g }]) := by
    rw [hx]; simp [State.condEntry]
    have : (s.ownCond c) = (s.pic.conds.get s.own).get c := rfl
    rw [← this]
    cases hcc : s.ownCond c
    simp
  have hfr : x.frame = { s.frame with queue := if s.life.life.queues then urgentRequest s.frame.queue else s.frame.queue } := by
    rw [hx, State.requestUrgent_frame]; simp
  rw [hjob]
  cases hj : s.jobOf c new g with
  | none => exact ⟨hce, hno, hfr, fun _ => ⟨hh, hrep⟩, fun j h => by cases h⟩
  | some j =>
    simp only [State.addJob, jobQueueSize, hrep]
    refine ⟨?_, ?_, ?_, (fun h => by cases h), ?_⟩
    · intro y k; rw [← hce]; split <;> simp [State.condEntry]
    · rw [← hno]; split <;> simp
    · rw [← hfr]; split <;> simp
    · intro j' hj'; cases hj'
      refine ⟨?_, ?_⟩
      · intro hl; rw [if_pos hl]
        refine ⟨?_, ?_, ?_⟩
        · exact State.hands_of_journal hh (by simp) (by simp) (by simp)
        · intro h1 h2
          simp only [State.startReport]
          simp [hrep, h1, h2]
          constructor
          · rfl
          · simp [hx]
        · intro h1; simp only [State.startReport]
          simp [hrep]
          split
          · rename_i h2 h3; exact absurd h2 h1
          · simp [hrep]
      · intro hl; rw [if_neg (by omega)]
        refine ⟨?_, by simp [hrep]⟩
        have h2 := State.hands_record x (.reportDropped x.own j.cond j.trigger)
        have : x.own = s.own := by simp [hx, State.own]
        rw [this] at h2
        simp [State.scopePasses] at h2
        have := State.hands_append hh h2 (by simp) (by simp)
        rw [‹x.own = s.own›]
        exact this

/-- The Annunciation Unit after a change of an own condition's state: a clear of the latch is called for as R95 gives. -/
theorem annChange_ann (c : CondIx) (new : AnnState) (h : new ≠ (s.ownCond c).state) : (s.annChange c new).ann =
    { s.ann with clears := s.ann.clears ++ if new = .alertUnack ∧ (s.ownCond c).quality = .good ∧
      ⟨s.own, c⟩ ∈ s.settings.horn then [⟨s.own, c⟩] else [] } := by
  have h1 : (s.annChange c new).ann = ((s.record (.condChange s.own c new (genAfter new (s.ownCond c).gen))).writeCond
      s.own c { s.ownCond c with state := new, gen := genAfter new (s.ownCond c).gen }).ann := by
    simp [State.annChange, reportChange_eq]; split <;> simp
  have h2 := State.writeCond_clears (s.record (.condChange s.own c new (genAfter new (s.ownCond c).gen))) s.own c
    { s.ownCond c with state := new, gen := genAfter new (s.ownCond c).gen }
  rw [h1]
  have h3 : ∀ (t : State) st k e, (t.writeCond st k e).ann = { t.ann with clears := (t.writeCond st k e).ann.clears } := by
    intro t st k e; simp only [State.writeCond, State.noticeCond]; (repeat' split) <;> rfl
  rw [h3, h2]
  have h4 : (s.record (.condChange s.own c new (genAfter new (s.ownCond c).gen))).condEntry s.own c = s.ownCond c := by
    simp [State.condEntry, State.ownCond]
  have h5 : ({ s.ownCond c with state := new, gen := genAfter new (s.ownCond c).gen } : CondEntry) ≠ s.ownCond c := by
    intro h6; exact h (congrArg CondEntry.state h6)
  simp only [h4, State.record_keeps]
  simp [callsForClear, h5]
  by_cases ha : new = .alertUnack
  · have : (s.ownCond c).state ≠ .alertUnack := by rw [← ha]; exact Ne.symm h
    simp [ha, this, and_comm]
  · simp [ha]

/-- A change of an own condition's annunciation state does all that `State.changesTo` says. -/
theorem annChange_changesTo (c : CondIx) (new : AnnState) (h : new ≠ (s.ownCond c).state) :
    s.changesTo c new (s.annChange c new) := by
  obtain ⟨h1, h2, h3, h4, h5⟩ := annChange_effect s c new
  have hg : ((s.annChange c new).ownCond c) =
      { s.ownCond c with state := new, gen := genAfter new (s.ownCond c).gen } := by
    have : (s.annChange c new).own = s.own := by simp [State.own]
    simp [State.ownCond, this, h1]
  have hn : ¬ (new = (s.ownCond c).state ∧ genAfter new (s.ownCond c).gen = (s.ownCond c).gen) := fun x => h x.1
  simp only [if_neg hn] at h2
  have hj : ∀ j, s.jobOf c new (genAfter new (s.ownCond c).gen) = some j → j.cond = c := by
    intro j hj; cases new <;> simp [State.jobOf] at hj <;> obtain ⟨_, _, rfl⟩ := hj <;> rfl
  refine ⟨by rw [hg]; rfl, by rw [hg]; exact h1, ?_, annChange_ann s c new h, h3, by rw [hg]; exact h4, ?_, ?_, ?_⟩
  · have : (s.annChange c new).cond = { s.cond with notices := (s.annChange c new).cond.notices } := by
      have : (s.annChange c new).cond.run = s.cond.run := by simp
      cases hc : (s.annChange c new).cond; rw [hc] at this; simp_all
    rw [this, h2, hg]
  · rw [hg]; intro j hj' hl; exact (h5 j hj').1 hl
  · rw [hg]; intro j hj' hl; have := (h5 j hj').2 hl; rw [hj j hj'] at this; exact this
  · refine ⟨by simp, by simp, ?_⟩
    intro b hb; cases b <;> simp at hb <;> simp [Block.same]

/-- The oldest edge of a condition leaves the others in their order. -/
theorem dropEdge_split (c : CondIx) (l : List Edge) (e) (h : l.find? (fun x => x.cond == c) = some e) :
    ∃ b a, l = b ++ e :: a ∧ (∀ x ∈ b, x.cond ≠ c) ∧ dropEdge c l = b ++ a ∧ e.cond = c := by
  induction l with
  | nil => simp at h
  | cons x l ih =>
    rw [List.find?_cons] at h
    by_cases hx : x.cond = c
    · simp [hx] at h; subst h; exact ⟨[], l, rfl, by simp, by simp [dropEdge, hx], hx⟩
    · simp only [show (x.cond == c) = false by simpa using hx] at h
      obtain ⟨b, a, h1, h2, h3, h4⟩ := ih h
      refine ⟨x :: b, a, by simp [h1], ?_, by simp [dropEdge, hx, h3], h4⟩
      intro y hy; rcases List.mem_cons.1 hy with rfl | hy; exact hx; exact h2 y hy

/-- An edge taken is dropped, its level becomes the sequence truth, and the state moves by the class. -/
theorem takeEdge_eq (c : CondIx) (e) (h : s.ann.edges.find? (fun x => x.cond == c) = some e) :
   ∃ t : State, s.takeEdge c = (match nextByEdge (s.classOfCond c) (s.ownCond c).state e.rising with
     | none => t | some new => t.annChange c new) ∧ s.changesOnly [.ann] t ∧
     t.ann = { s.ann with seqTruth := s.ann.seqTruth.set c e.rising, edges := dropEdge c s.ann.edges } := by
  refine ⟨(s.onAnn (fun u => { u with edges := dropEdge c u.edges })).onAnn (fun u => { u with seqTruth := u.seqTruth.set c e.rising }), ?_, ?_, rfl⟩
  · simp only [State.takeEdge, h, State.applyEdge]; rfl
  · intro b hb; cases b <;> simp at hb <;> simp [Block.same]


/-! ### Starting a transmission -/

/-- Where a search finds an element. -/
theorem find_split {α} (p : α → Bool) (l : List α) (h : ∃ x ∈ l, p x = true) :
    ∃ before e after, l = before ++ e :: after ∧ p e = true ∧ (∀ x ∈ before, p x = false) ∧ l.find? p = some e := by
  induction l with
  | nil => simp at h
  | cons x l ih =>
    by_cases hx : p x = true
    · exact ⟨[], x, l, rfl, hx, by simp, by simp [hx]⟩
    · obtain ⟨b, e, a, h1, h2, h3, h4⟩ := ih (by obtain ⟨y, hy, hp⟩ := h; rcases List.mem_cons.1 hy with rfl | hy; exact absurd hp hx; exact ⟨y, hy, hp⟩)
      refine ⟨x :: b, e, a, by simp [h1], h2, ?_, ?_⟩
      · intro y hy; rcases List.mem_cons.1 hy with rfl | hy; simpa using hx; exact h3 y hy
      · rw [List.find?_cons]; simp [hx, h4]

/-- The first entry that meets a test is changed in its place. -/
theorem changeFirst_split (p : QEntry → Bool) (f) (b : List QEntry) (e a) (he : p e = true) (hb : ∀ x ∈ b, p x = false) :
    changeFirst p f (b ++ e :: a) = b ++ f e :: a := by
  induction b with
  | nil => simp [changeFirst, he]
  | cons x b ih => 
    simp only [List.cons_append, changeFirst, hb x (by simp)]
    simp [ih (fun y hy => hb y (by simp [hy]))]

/-- With an entry WAITING a transmission starts (R106, R107, R130). -/
theorem startTransmission_starts (s : State) (h : ∃ e ∈ s.frame.queue, e.onLine = false) : s.starts s.startTransmission := by
  have hp : ∃ x ∈ s.frame.queue, pickTest s.frame.queue x = true := by
    unfold pickTest
    split
    · rename_i h1; simpa [List.any_eq_true] using h1
    · obtain ⟨e, he, h⟩ := h; exact ⟨e, he, by simp [QEntry.waits, h]⟩
  obtain ⟨b, e, a, h1, h2, h3, h4⟩ := find_split _ _ hp
  have h5 : pick s.frame.queue = some e := h4
  refine ⟨b, e, a, h1, ?_, ?_, ?_, ?_, ?_, ?_, ?_⟩
  · unfold pickTest at h2; split at h2 <;> simp [QEntry.waitsUrgent, QEntry.waits] at h2 <;> simp [h2]
  · unfold pickTest at h2 h3
    split at h2
    · rename_i hu
      simp only [hu, if_true, QEntry.waitsUrgent] at h3
      left; simp [QEntry.waitsUrgent] at h2
      refine ⟨h2.2, ?_⟩
      intro x hx hxu; simpa [hxu] using h3 x hx
    · rename_i hu
      simp only [hu, QEntry.waits] at h3
      simp [QEntry.waitsUrgent, QEntry.waits] at hu h2
      right; refine ⟨?_, ?_, ?_⟩
      · have := hu e (by simp [h1]) h2; simpa using this
      · intro x hx hxu
        cases hx2 : x.onLine
        · have := hu x hx hx2; simp [hxu] at this
        · rfl
      · intro x hx; have := h3 x hx; simpa [QEntry.waits] using this
  · simp only [State.startTransmission, h5]
    simp
    have : changeFirst (pickTest s.frame.queue) (fun x => { kind := (QEntry.setChanged false x).kind, onLine := true }) s.frame.queue = b ++ { (e.setChanged false) with onLine := true } :: a := by
      conv => lhs; arg 3; rw [h1]
      rw [changeFirst_split _ _ _ _ _ h2 h3]
    rw [this]
  · simp only [State.startTransmission, h5]
    simp
  · intro i r hi hr
    simp only [State.startTransmission, h5]
    simp [State.onRequestOf, hi, hr, State.setRequest]
  · intro hi
    simp only [State.startTransmission, h5]
    simp [State.onRequestOf]
    cases hk : e.kind <;> simp
    simp [hi _ hk]
  · intro x hx; cases x <;> simp [Block.same] <;> simp at hx


end Machine

end Sys2Proof
end

