-- ==== Sys2Proof/Tests/Slice0.lean ====
section
/-!
SUPPORT. Tests of the model on small states: words of the manual's encodings written out by hand, the worked numbers of its
tables, one ill-formed command for each check of WellFormed, and for every statement with hypotheses a state and operands
that meet them together.
-/

-- Each test is checked before the next begins, so that few threads are needed.
set_option Elab.async false

namespace Sys2Proof

namespace Tests

open Sys2Proof.Machine

/-! ### A small station -/

/-- Station 9 expects itself and station 4. Line 0 NORMAL, lines 2 and 3 a pair; C0 LOCK on P0, C1 RING on the alarm
4.C2 with hold and release, C2 FOLLOW on the presence of 4, the others unused; O0 a LAMP of 9.C0, O1 DIRECT on 4.P1. -/
def settings : Settings := { Settings.empty with
  version := 1
  refreshCode := 2
  expected := 0x210
  zone := 1
  reach := 0x3
  scope := .all
  attnEnabled := true
  lines := ((Tab.fill 16 ⟨.unused, 0⟩).set 0 ⟨.normal, 1⟩).set 2 ⟨.pair, 2⟩
  conds := (((Tab.fill 8 CondSetting.unused).set 0
    ⟨true, .lock, .any, 0, 0, 0, some 0, some 0, [.point 9 0 true false]⟩).set 1
    ⟨true, .ring, .any, 0, 2, 3, none, none, [.alarm 4 2 false]⟩).set 2
    ⟨true, .follow, .all, 0, 0, 0, none, none, [.present 4]⟩
  outs := ((Tab.fill 12 .unused).set 0 (.lamp ⟨9, 0⟩)).set 1 (.directPoint 4 1 true false)
  horn := [⟨4, 0⟩, ⟨9, 0⟩]
  templates := (Tab.fill 4 []).set 0 [0x40, 0x45] }

/-- The own row: C0 to C2 enabled and NORMAL, C2 in alert because station 4 is PRESENT, the others UNUSED. -/
def ownConds : Tab 8 CondEntry :=
  (((Tab.fill 8 ⟨.unused, false, 0, .good⟩).set 0 ⟨.normal, false, 0, .good⟩).set 1 ⟨.normal, false, 0, .good⟩).set 2
    ⟨.alertUnack, true, 1, .good⟩

/-- The row of station 4: 4.C0 stands in ALERT_UNACK with generation 3. -/
def peerConds : Tab 8 CondEntry :=
  (Tab.fill 8 ⟨.normal, false, 0, .good⟩).set 0 ⟨.alertUnack, true, 3, .good⟩

/-- The picture: 9 is SELF, 4 PRESENT at sequence 250 with refresh code 2, and no other station is expected. -/
def picture : Picture where
  roster := (Picture.reset.roster.set 9 ⟨.self, none, none, none, false, false⟩).set 4
    ⟨.present, some 250, some 2, some 2500, false, false⟩
  points := (Picture.reset.points.set 9 (.fill 16 ⟨false, .good⟩)).set 4 (.fill 16 ⟨false, .good⟩)
  conds := (Picture.reset.conds.set 9 ownConds).set 4 peerConds

/-- The station in a life state and a line state, 1000 ms after it left reset, with line 3 active beside line 2. -/
def station (life : Life) (line : LineState) : State := ({ State.reset with
  held := false
  clock := 1000
  pins := { Pins.idle with lines := Pins.idle.lines.set 3 true }
  settings := settings
  life := { LifeControl.reset with
    life := life
    stn := 9
    listen := if life = .listening then some 2000 else none
    withdraw := if life = .withdrawn then some 2000 else none
    sfault := sfaultOf life (line == .stuck)
    lineStuck := line == .stuck }
  pic := picture
  cond := { CondUnit.reset with run := CondUnit.reset.run.set 2 ⟨.isTrue, true, none, none⟩ }
  ann := { AnnUnit.reset with attention := settings.attentionSet, seqTruth := AnnUnit.reset.seqTruth.set 2 true }
  line := { LineUnit.reset with
    state := line
    w := some 12
    slot := if line = .window then some 0 else none
    rx := if line = .receiving then .frame else .none
    sending := none
    collisions := if life = .withdrawn then 16 else 0 } } : State).driveOutputs

/-- The station in ACTIVE while its window runs. -/
def active : State := station .active .window

/-- The station in ACTIVE while a reception runs. -/
def receiving : State := station .active .receiving

/-- The station in ACTIVE with its STATE on the line and a request for station 4 waiting behind it. -/
def sending : State := (((station .active .transmitting).onFrame (fun f => { f with
    queue := [⟨.state true true, true⟩, ⟨.ackreq 0, false⟩, ⟨.silence 0x3, false⟩] })).onLine (fun l => { l with
    sending := some (Frame.mk 9 (.state (station .active .transmitting).ownState)).bytes })).setRequest 0
  (some (.new 4 0x01 (.fill 8 ⟨.alert, 3⟩)))

/-- What a command answers. -/
def after (s : State) (c : Instr) : State :=
  match exec c s with
  | .next t => t
  | .fault _ => s
  | .refused _ => s

/-! ### Encodings written out by hand -/

/-- The CRC-16 of the nine characters 1 to 9 is 29B1h (R194). -/
theorem test_crc : crc16 [0x31, 0x32, 0x33, 0x34, 0x35, 0x36, 0x37, 0x38, 0x39] = 0x29B1#16 := by decide +kernel

/-- A SILENCE of station 4 for zones 0 and 1: kind 03h, origin, sequence 0, length 1, mask, check (Tables 13-2, 13-3).
-/
def silenceBytes : List Byte := [0x03, 0x04, 0x00, 0x01, 0x03, 0x36, 0x7D]

/-- An ACKREQ of station 4 to station 9 for C0, RETURN with generation 3, and C2, ALERT with generation 2. -/
def ackreqBytes : List Byte :=
  [0x02, 0x04, 0x00, 0x0A, 0x09, 0x05, 0x13, 0x00, 0x02, 0x00, 0x00, 0x00, 0x00, 0x00, 0x74, 0x7B]

/-- A STATE of station 4, sequence 251, FIRST, refresh code 2: P0, P1 and P15 at 1, P0 marked faulty, C0 ALERT_UNACK
with truth 1 and generation 3, C1 UNUSED, C3 ALERT_ACK with truth 1 and generation 1. -/
def stateBytes : List Byte := [0x01, 0x04, 0xFB, 0x0D, 0x82, 0x03, 0x80, 0x01, 0x00, 0x39, 0x04, 0x00, 0x1A, 0x00, 0x00,
  0x00, 0x00, 0x13, 0x67]

/-- The conditions of the STATE above. -/
def stateConds : Tab 8 CondReport := (((Tab.fill 8 ⟨.normal, false, 0⟩).set 0 ⟨.alertUnack, true, 3⟩).set 1
  ⟨.unused, false, 0⟩).set 3 ⟨.alertAck, true, 1⟩

/-- The content of the STATE above. -/
def stateFrame : StateFrame := ⟨0xFB, true, 2, 0x8003, 0x0001, stateConds⟩

theorem test_silence_decodes : decodeFrame silenceBytes = some ⟨4, .silence 0x3⟩ ∧ validOnLine silenceBytes = true := by
  decide +kernel

theorem test_ackreq_decodes : decodeFrame ackreqBytes = some ⟨4, .ackreq 9 0x05
    (((Tab.fill 8 ⟨.alert, 0⟩).set 0 ⟨.returned, 3⟩).set 2 ⟨.alert, 2⟩)⟩ ∧ validOnLine ackreqBytes = true := by
  decide +kernel

theorem test_state_decodes : decodeFrame stateBytes = some ⟨4, .state stateFrame⟩ ∧ validOnLine stateBytes = true := by
  decide +kernel

theorem test_state_encodes : (Frame.mk 4 (.state stateFrame)).bytes = stateBytes := by decide +kernel

/-- Refresh code 7 is taken as 4, state code 6 as UNUSED, and bits 7–5 of the origin are disregarded (R196). -/
theorem test_undefined_codes : (decodeFrame ((stateBytes.set 1 0xE4).set 4 0x87)).map Frame.origin = some 4 ∧
    decodeFrame ((stateBytes.set 4 0x87).set 9 0x3E) = some ⟨4, .state { stateFrame with
      refreshCode := 4, conds := stateConds.set 0 ⟨.unused, true, 3⟩ }⟩ := by decide +kernel

/-- A byte's levels: start bit, least significant bit first, stop bit (R117). -/
theorem test_byte_levels : byteLevels 0x05 = [.dominant, .recessive, .dominant, .recessive, .dominant, .dominant,
    .dominant, .dominant, .dominant, .recessive] := by decide

/-- Table 7-2: a STATE lasts 194 bit times to its last stop bit, a SILENCE 74. -/
theorem test_frame_durations : (driveLevels stateBytes).length = 194 ∧ (driveLevels silenceBytes).length = 74 := by
  decide +kernel

/-- The levels of a frame and its tail. -/
def heard (bytes : List Byte) : List Level := driveLevels bytes ++ tailLevels

/-- Three lead-in bits and then 16 dominant bit times: a jam after the lead-in (R123). -/
def jamLevels : List Level := driveLevels [] ++ List.replicate 16 .dominant ++ tailLevels

theorem test_reads_frame : readReception (heard silenceBytes) = .complete silenceBytes := by decide +kernel
theorem test_reads_jam : readReception jamLevels = .jammed := by decide +kernel
theorem test_reads_short_lead_in : readReception ([.dominant, .recessive] ++ List.replicate 9 .recessive) = .broken := by
  decide +kernel

/-- Table 7-6, W = 12: stations 13, 20, 4 and 12 have ranks 0, 7, 23 and 31. -/
theorem test_ranks : rank 13 12 = 0 ∧ rank 20 12 = 7 ∧ rank 4 12 = 23 ∧ rank 12 12 = 31 := by decide

/-- R158: phase 2 is cut short at the wrap, where the count modulo 1000 is 295. -/
theorem test_phase_wrap : phaseOf 0xFFFFFFFF = 2 ∧ phaseOf 0 = 0 ∧ phaseOf 999 = 7 := by decide +kernel

/-- Rows of the opcode table give no bits, so no word spells a command. -/
theorem test_no_word : decodeTableWord 8 1 = none := by decide

/-! ### WellFormed: each check refuses an ill-formed command -/

theorem test_wf_frame_end : (Instr.frameEnd (heard silenceBytes)).wf = true ∧ (Instr.frameEnd jamLevels).wf = false ∧
    (Instr.frameEnd (heard [0x03, 0x04, 0x00, 0x01, 0x03, 0x36, 0x7C])).wf = false := by decide +kernel
theorem test_wf_invalid_end : (Instr.invalidReceptionEnd (heard silenceBytes)).wf = false ∧
    (Instr.invalidReceptionEnd (heard [])).wf = true ∧ (Instr.invalidReceptionEnd jamLevels).wf = false := by
  decide +kernel
theorem test_wf_jam_end : (Instr.jamEnd jamLevels).wf = true ∧ (Instr.jamEnd []).wf = true ∧
    (Instr.jamEnd (heard silenceBytes)).wf = false := by decide +kernel
/-- Bit times 0 to 2 and the start bits are sent dominant, and no frame has a bit time 194. -/
theorem test_wf_collision : (Instr.collision 3).wf = true ∧ (Instr.collision 2).wf = false ∧
    (Instr.collision 14).wf = false ∧ (Instr.collision 194).wf = false ∧ (Instr.collision 193).wf = true := by decide
theorem test_wf_unknown_command : (Instr.unknownCommand 0x09).wf = true ∧ (Instr.unknownCommand 0x08).wf = false := by
  decide
theorem test_wf_buffer_write : (Instr.imageBufferWrite 639 [0x01]).wf = true ∧
    (Instr.imageBufferWrite 639 [0x01, 0x02]).wf = false ∧ (Instr.imageBufferWrite 0 []).wf = false := by decide
theorem test_wf_memory_read : ¬ (Instr.memoryReadEnd (.rest (List.replicate 10289 true))).wf = true ∧
    ¬ (Instr.memoryReadEnd (.next (List.replicate 10289 true))).wf = true := by
  constructor <;> rw [Instr.wf, List.length_replicate] <;> decide

/-! ### Commands on the small station -/

/-- R10: with last sequence 250 a STATE of sequence 2 has missed 7 frames. -/
theorem test_seq_gap : rosterRecord 4 (picture.roster.get 4) { stateFrame with seq := 2, first := false } =
    some (.seqGap 4 7) := by decide +kernel
/-- A PRESENT station's STATE with FIRST records PEER_RESTART and sets the flag (R11). -/
theorem test_peer_restart : (after receiving (.frameEnd (heard stateBytes))).journal.records.head? =
    some ⟨.peerRestart 4, 1000⟩ := by decide +kernel
theorem test_state_rewrites_row :
    let t := after receiving (.frameEnd (heard stateBytes))
    t.pointEntry 4 15 = ⟨true, .good⟩ ∧ t.pointEntry 4 0 = ⟨true, .fault⟩ ∧ t.line.w = some 4 := by decide +kernel
/-- Zone 1 is in the mask of the SILENCE (R94); ATTN, HORN: the horn was on for 4.C0 and goes off. -/
theorem test_silence_sets_latch :
    let t := after receiving (.frameEnd (heard silenceBytes))
    receiving.out.horn = true ∧ t.out.latch = true ∧ t.out.horn = false := by decide +kernel
/-- C2 FOLLOW in ALERT_UNACK with generation 1 is not answered by generation 2 (R61). -/
theorem test_ackreq_needs_the_generation :
    (after receiving (.frameEnd (heard ackreqBytes))).ownCond 2 = receiving.ownCond 2 := by decide +kernel
theorem test_input_change_starts_debounce :
    ((after active (.inputLevelChange 0 true)).input.lines.get 0) = ⟨false, some true, some 1010⟩ := by decide +kernel
/-- The accepted change is written, and with 10 ms of debounce the count is 1010. -/
theorem test_debounce_expiry :
    let t := after (after active (.inputLevelChange 0 true)) (.debounceExpiry 0)
    t.pointEntry 9 0 = ⟨true, .good⟩ ∧ t.clock = 1010 := by decide +kernel
/-- Line 2 active beside an active line 3 is AGREE, and FAULT after the even line's 20 ms (R28, R29). -/
theorem test_pair_fault :
    let t := after active (.inputLevelChange 2 true)
    (after t (.pairTimerExpiry 1)).pointEntry 9 3 = ⟨false, .fault⟩ := by decide +kernel
/-- A rising P0 makes C0 TRUE at the evaluation of its notice, and its edge takes LOCK to ALERT_UNACK generation 1. -/
theorem test_point_to_alert :
    let t := after (after (after (after active (.inputLevelChange 0 true)) (.debounceExpiry 0)) .evaluation) (.truthEdge 0)
    t.ownCond 0 = ⟨.alertUnack, true, 1, .good⟩ := by decide +kernel
/-- Station 9 after W = 12 has rank 28: an urgent entry is sent in slot 28 and not in slot 27. -/
theorem test_slot_start :
    let s := active.requestUrgent
    (after s (.slotStart 27)).line.state = .window ∧ (after s (.slotStart 28)).line.state = .transmitting := by
  decide +kernel
/-- The station just heard has rank 31, in slots 31 and 63; a ROUTINE STATE goes only in the second (R126). -/
theorem test_routine_slot :
    let s := (active.onLine (fun l => { l with w := some 9 })).requestRoutine
    (after s (.slotStart 31)).line.state = .window ∧ (after s (.slotStart 63)).line.state = .transmitting := by
  decide +kernel
theorem test_completion : (after sending .transmissionComplete).frame.nextSeq = 1 ∧
    (after sending .transmissionComplete).frame.queue =
      [⟨.ackreq 0, false⟩, ⟨.silence 0x3, false⟩, ⟨.state true false, false⟩] := by decide +kernel
/-- The own jam is 16 dominant bit times, after which the station drives nothing (R131). -/
theorem test_collision_jams : (after sending (.collision 3)).line.state = .jamming ∧
    (after sending (.collision 3)).line.drives 15 = .dominant ∧
    (after sending (.collision 3)).line.drives 16 = .recessive ∧
    (after sending (.collision 2)).line.state = .transmitting := by decide +kernel
/-- The sixteenth collision withdraws, with ACK_FAILED after WITHDRAWN (R150). -/
theorem test_sixteenth_collision :
    let t := after (sending.onLine (fun l => { l with collisions := 15 })) (.collision 3)
    t.journal.records.map Record.body = [.withdrawn 9, .ackFailed 4 0x01] ∧ t.life.life = .withdrawn ∧
      t.frame.queue = [⟨.state true false, false⟩] := by decide +kernel
theorem test_take_empty : (after active .take).port.result = .empty := by decide +kernel
theorem test_count_clear :
    (after (active.onFrame (fun f => { f with discarded := 7 })) .countClear).frame.discarded = 0 := by decide +kernel
theorem test_lamp_test : (after active .lampTestOn).out.levels.get 0 = true ∧
    active.out.levels.get 0 = false := by decide +kernel
theorem test_unknown_command : (after active (.unknownCommand 0x33)).port.result = .badArg := by decide +kernel
theorem test_ack_one_bad_argument :
    (after (active.onPort (fun p => { p with arg0 := 32 })) .ackOne).port.result = .badArg := by decide +kernel
theorem test_ack_all_requests : (after active .ackAll).ann.requests.get 0 =
    some (.new 4 0x01 (.build (fun c => (active.condEntry 4 c).ackPair))) := by decide +kernel
theorem test_status_block : (after active (.readCapture (.start 0x5A 3 true))).port.sent = [0x02, 0x00, 0x09] := by
  decide +kernel
/-- After a byte that the controller does not acknowledge the port sends none; after one it does, the next (R177). -/
theorem test_read_not_acknowledged :
    let s := after active (.readCapture (.start 0x5A 1 false))
    let t := after active (.readCapture (.start 0x5A 2 true))
    (after s (.readCapture (.more 2 true))).port.sent = [] ∧
      (after t (.readCapture (.more 1 false))).port.sent = [0x09] := by decide +kernel
/-- The port acknowledges its address and every byte, and no other address (R177). -/
theorem test_register_write : (after active (.registerWrite 0x5A [0x00, 0x10, 0x04, 0x02])).port.arg1 = 0x02 ∧
    (after active (.registerWrite 0x5A [0x00, 0x10])).port.acks = [true, true, true] ∧
    (after active (.registerWrite 0x5B [0x00, 0x10, 0x04])).port.arg0 = 0x00 ∧
    (after active (.registerWrite 0x5B [0x00, 0x10, 0x04])).port.acks = [false] := by decide +kernel
/-- One write transaction sets both arguments and issues ACK_ONE, and its next byte falls on RESULT (R181). -/
theorem test_write_runs_on :
    let t := after active (.registerWrite 0x5A [0x00, 0x10, 0x04, 0x00, 0x03, 0x07])
    t.port.arg0 = 0x04 ∧ t.port.command = 0x03 ∧ t.port.result = .ok ∧ t.port.pointer = 0x0014 ∧
      (t.ann.requests.get 0).map Request.target = some 4 := by decide +kernel
/-- A part that has just left reset and selected the memory. -/
def selected : State := after State.reset (.leaveReset 9 .memory)

/-- SDI at each edge of SCK: low while the read command is sent, then each bit, most significant first, at its rising
edge and the falling one after it (R141). -/
def sdiOf (bytes : List Byte) : List Bool :=
  List.replicate 48 false ++ bytes.flatMap (fun b => (spiLevels b).flatMap (fun x => [x, x]))

/-- SDO shows 03h, 00h, 00h, most significant bit first: bit 1 of 03h is the seventh level, and it stands from the sixth
falling edge of SCK to the seventh (R141). -/
theorem test_read_command :
    let sdo := fun n : Nat =>
      (after selected (.memoryReadEnd (.next (List.replicate n true)))).loader.sdo.head?
    [0, 11, 12, 13, 14, 15, 16, 47].map sdo = [some false, some false, some true, some true, some true, some true,
      some false, some false] ∧ sdo 48 = none ∧ selected.loader.scs = true ∧ selected.loader.sck = false := by
  decide +kernel
/-- SDI is sampled at the rising edge of SCK and not at the falling one: 32h, most significant bit first, with SDI at the
other level at every falling edge (R141). -/
theorem test_sdi_sampled :
    let wire := List.replicate 48 true ++ (spiLevels 0x32).flatMap (fun x => [x, !x])
    let s := after selected (.memoryReadEnd (.next (wire.take 63)))
    s.loader.sdi = [false, false, true, true, false, false, true, false] ∧ s.loader.sck = true ∧
      Memory.read (after s (.memoryReadEnd (.next [true]))).loader.buffer 0 = 0x32 := by decide +kernel
/-- The bytes of the memory read arrive one after the other, and the supervisor reads what has arrived (R141, R179). -/
theorem test_memory_bytes_arrive :
    let s := after selected (.memoryReadEnd (.next (sdiOf [0x32, 0x16])))
    (after (after s (.registerWrite 0x5A [0x10, 0x00])) (.readCapture (.start 0x5A 3 true))).port.sent =
      [0x32, 0x16, 0x00] ∧ s.loader.phase = .reading ∧ s.loader.scs = true := by decide +kernel
/-- A memory that holds two bytes reads FFh after them, so its length field stops the read after five bytes (R141). -/
theorem test_memory_end :
    let t := after selected (.memoryReadEnd (.rest (sdiOf [0x32, 0x16])))
    t.loader.got = 5 ∧ Memory.read t.loader.buffer 4 = 0xFF ∧ Memory.read t.loader.buffer 5 = 0x00 ∧
      t.loader.phase = .checking ∧ t.loader.scs = false ∧ t.loader.sck = false := by decide +kernel
/-- LF, 0Ah, as 8N1 on TXD: start bit, 0 1 0 1 0 0 0 0 from the least significant bit on, stop bit (R189). -/
theorem test_txd : txdLevels 0x0A = [.active, .active, .idle, .active, .idle, .active, .active, .active, .active,
    .idle] ∧ active.txd = .idle := by decide +kernel
theorem test_line_stuck : (after receiving .lineStuck).life.sfault = true ∧
    (after receiving .lineStuck).frame.discarded = 1 := by decide +kernel
theorem test_listen_expiry : (after (station .listening .window) .listenTimerExpiry).line.blind = true ∧
    (after (station .listening .window) .listenTimerExpiry).frame.refresh = some 2500 := by decide +kernel
theorem test_absence : (after active (.absenceTimerExpiry 4)).pointEntry 4 0 = ⟨false, .unknown⟩ ∧
    (after active (.absenceTimerExpiry 4)).clock = 2500 := by decide +kernel

/-! ### States and operands that meet the hypotheses of each statement -/

/-- A small station meets every law: in ACTIVE, with its STATE on the line and a request waiting behind it. -/
theorem witness_lawful : sending.Lawful where
  idle := by constructor <;> decide +kernel
  life := by constructor <;> decide +kernel
  sfault := by unfold State.SfaultLaw; decide +kernel
  picture := by
    refine ⟨by decide +kernel, by decide +kernel, ?_, ?_, ?_, by decide +kernel, ?_, by decide +kernel⟩
    · unfold State.rowKnown; decide +kernel
    · unfold State.rowUnknown; decide +kernel
    · unfold State.rowKnown; decide +kernel
    · intro st
      have h : ∀ st : Station, (sending.pic.roster.get st).refreshCode.isSome =
          (sending.pic.roster.get st).lastSeq.isSome ∧ ((sending.pic.roster.get st).refreshCode.getD 0) ≤ 4 := by
        decide +kernel
      refine ⟨(h st).1, fun n hn => ?_⟩
      have := (h st).2
      rw [hn] at this
      exact this
  points := by constructor <;> decide +kernel
  controls := by
    refine ⟨?_, ?_, by decide +kernel⟩
    · intro _ i; cases i <;> decide +kernel
    · intro i; cases i <;> decide +kernel
  conditions := by constructor <;> decide +kernel
  annunciation := by constructor <;> decide +kernel
  line := by constructor <;> decide +kernel
  quiet := by unfold State.QuietLaw; decide +kernel
  queue := by constructor <;> decide +kernel
  requests := by
    have h0 : ∀ i r, sending.ann.requests.get i = some r → i = 0 ∧ r = .new 4 0x01 (.fill 8 ⟨.alert, 3⟩) := by
      intro i r h
      have hn : ∀ i : ReqIx, i ≠ 0 → sending.ann.requests.get i = none := by decide +kernel
      by_cases hi : i = 0
      · subst hi
        have : sending.ann.requests.get 0 = some (.new 4 0x01 (.fill 8 ⟨.alert, 3⟩)) := by decide +kernel
        rw [this] at h
        exact ⟨rfl, (Option.some.inj h).symm⟩
      · rw [hn i hi] at h; cases h
    constructor
    · intro i r _; decide +kernel
    · intro i j r q hr hq _; rw [(h0 i r hr).1, (h0 j q hq).1]
    · intro i r h; obtain ⟨rfl, rfl⟩ := h0 i r h; decide +kernel
    · intro i r h; obtain ⟨rfl, rfl⟩ := h0 i r h; decide +kernel
    · intro i r h; obtain ⟨rfl, rfl⟩ := h0 i r h; decide +kernel
    · intro i r h; obtain ⟨rfl, rfl⟩ := h0 i r h; decide +kernel
    · intro i r h; obtain ⟨rfl, rfl⟩ := h0 i r h; decide +kernel
    · intro i r h; obtain ⟨rfl, rfl⟩ := h0 i r h; decide +kernel
    · intro i e he hi
      have : ∀ i : ReqIx, ∀ e ∈ sending.frame.queue, e.isAckreq i = true →
        (sending.ann.requests.get i).isSome = true := by decide +kernel
      exact this i e he hi
    · intro i r h; obtain ⟨rfl, rfl⟩ := h0 i r h; decide +kernel
  outputs := by constructor <;> decide +kernel
  journal := by constructor <;> decide +kernel
  reports := by
    refine ⟨by decide +kernel, by decide +kernel, fun l h => ?_⟩
    have : sending.report.line = none := by decide +kernel
    rw [this] at h; cases h
  buffer := by unfold State.BufferLaw; decide +kernel
  loader := by
    have h : sending.loader.phase ≠ .reading := by decide +kernel
    exact ⟨by decide +kernel, fun x => absurd x h, fun x => absurd x h, fun x => absurd x h, by decide +kernel,
      by decide +kernel, by decide +kernel, by decide +kernel, by decide +kernel⟩
  count := by unfold State.CountLaw; decide +kernel

/-- The front of the queue, for StepTakesTheFrontCommand. -/
theorem witness_front : (active.withPending [.take, .ackAll]).pending = [Instr.take, .ackAll] := rfl

/-- TimePasses: both empty queues, both sides of the last step before the wrap, both sides of a late expiry. -/
theorem witness_time : State.reset.pending = [] ∧ State.reset.held = true ∧ active.pending = [] ∧ active.held = false ∧
    (4294967249#32).toNat < 4294967250 ∧ 4294967250 ≤ (4294967250#32).toNat ∧
    (((2147484647#32) - active.clock).toNat < 2147483648) ∧ (2147483648 ≤ ((2147484648#32) - active.clock).toNat) := by
  decide +kernel

/-- SettleStartsAndDrives: an ACTIVE station in QUIET with a WAITING entry, and one with none; a running station and one
in LOADING; an output of each kind. -/
theorem witness_settle :
    let s := (station .active .quiet).requestUrgent
    s.life.life = .active ∧ s.line.state = .quiet ∧ (∃ e ∈ s.frame.queue, e.onLine = false) ∧
      ¬ (∃ e ∈ active.frame.queue, e.onLine = false) ∧ State.reset.life.life.running = false ∧
      active.life.life.running = true ∧ active.settings.outs.get 0 = .lamp ⟨9, 0⟩ ∧
      active.settings.outs.get 1 = .directPoint 4 1 true false ∧ active.settings.outs.get 2 = .unused ∧
      (active.onSettings (fun x => { x with outs := x.outs.set 2 (.directCond ⟨4, 0⟩ false true) })).settings.outs.get
        2 = .directCond ⟨4, 0⟩ false true := by decide +kernel

/-- EventsThatCannotOccurChangeNothing: the RESET pin held with a command that is no reset, and not held; a station for
each absent timer, notice, edge, frame and line state. -/
theorem witness_cannot_occur : State.reset.held = true ∧ Instr.take.resets = false ∧ active.held = false ∧
    active.life.life ≠ .loading ∧ active.loader.phase = .idle ∧ active.life.life ≠ .listening ∧
    active.life.life ≠ .withdrawn ∧ State.reset.life.life ≠ .active ∧ active.frame.refresh = none ∧
    (active.input.lines.get 15).timer = none ∧ (active.input.pairs.get 7).timer = none ∧
    (active.input.control .test).timer = none ∧ (active.cond.run.get 0).eval ≠ .qualifying ∧
    (active.cond.run.get 7).eval ≠ .releasing ∧ active.cond.notices = [] ∧ (∀ e ∈ active.ann.edges, e.cond ≠ 0) ∧
    active.ann.clears = [] ∧ active.ann.requests.get 7 = none ∧ (active.pic.roster.get 31).presence ≠ .present ∧
    active.line.state ≠ .receiving ∧ active.line.state ≠ .jamming ∧ receiving.line.state ≠ .window ∧
    (0 : Fin 64).val < (after active (.slotStart 0)).line.nextSlot ∧ active.line.state ≠ .transmitting ∧
    (station .active .stuck).line.state = .stuck ∧ active.line.state ≠ .stuck ∧ active.report.line = none ∧
    State.reset.life.life.running = false := by decide +kernel

/-- LifeStateMovesByItsTable: a listen timer's expiry is a change of life state. -/
theorem witness_life :
    let s := station .listening .window
    exec .listenTimerExpiry s = .next (effectRunning .listenTimerExpiry s) ∧
      (effectRunning .listenTimerExpiry s).life.life ≠ s.life.life := by
  refine ⟨exec_running _ (by decide +kernel), by decide +kernel⟩

/-- PresenceMovesByItsTable: an absence timer's expiry is a change of presence. -/
theorem witness_presence : active.IdleLaw ∧
    exec (.absenceTimerExpiry 4) active = .next (effectRunning (.absenceTimerExpiry 4) active) ∧
    ((effectRunning (.absenceTimerExpiry 4) active).pic.roster.get 4).presence ≠ (active.pic.roster.get 4).presence := by
  refine ⟨by constructor <;> decide +kernel, exec_running _ (by decide +kernel), by decide +kernel⟩

/-- SequenceAdvancesOnlyAtCompletion: the completion of a STATE. -/
theorem witness_sequence : exec .transmissionComplete sending = .next (effectRunning .transmissionComplete sending) ∧
    Instr.transmissionComplete.resets = false ∧
    (effectRunning .transmissionComplete sending).frame.nextSeq ≠ sending.frame.nextSeq := by
  refine ⟨exec_running _ (by decide +kernel), by decide, by decide +kernel⟩

/-- RecordsLeaveOnlyByTake: a stuck line records; so does ACK_ALL outside ACTIVE, a command of the port that is no TAKE.
-/
theorem witness_records : exec .lineStuck active = .next (effectRunning .lineStuck active) ∧
    Instr.lineStuck.resets = false ∧ Instr.lineStuck.writesTake = false ∧
    (effectRunning .lineStuck active).journal.records ≠ [] ∧ Instr.ackAll.writesTake = false ∧
    (after (station .listening .window) .ackAll).journal.records ≠ [] ∧
    (∀ c ∈ [Instr.ackOne, .silence, .countClear, .commit, .unknownCommand 0x33, .imageBufferWrite 0 [0x01],
      .registerWrite 0x5A [0x00, 0x12, 0x02]], c.writesTake = false ∧ c.resets = false) ∧
    (Instr.registerWrite 0x5A [0x00, 0x11, 0x00, 0x01]).writesTake = true := by
  refine ⟨exec_running _ (by decide +kernel), by decide, by decide, by decide +kernel, by decide, by decide +kernel,
    by decide +kernel, by decide⟩

/-- A journal of a number of records, with a lost count. -/
def holding32 (n lost : Nat) : Journal := ⟨List.replicate n ⟨.lineStuck, 7⟩, lost, decide (0 < lost), none, true⟩

/-- RecordsLeaveOnlyByTake: the last record that finds room, the first that does not, and the lost count at its end. -/
theorem witness_append : (holding32 31 0).records.length < 32 ∧ 32 ≤ (holding32 32 0).records.length ∧
    ((holding32 31 0).append ⟨.lineReleased, 8⟩).records.length = 32 ∧
    (holding32 32 0).append ⟨.lineReleased, 8⟩ = holding32 32 1 ∧
    (holding32 32 65534).append ⟨.lineReleased, 8⟩ = holding32 32 65535 ∧
    (holding32 32 65535).append ⟨.lineReleased, 8⟩ = holding32 32 65535 := by decide +kernel

/-- RecordsLeaveOnlyByTake: what each scope passes, with 4.C0 in the attention set and 4.C1 not (Table 10-3). -/
theorem witness_scopes :
    let passes := fun (x : Scope) (b : RecordBody) =>
      (active.onSettings (fun set => { set with scope := x })).scopePasses b
    (∀ x ∈ [Scope.own, .attention, .all], passes x (.pointChange 9 0 true false) = true ∧
      passes x (.condChange 9 1 .normal 0) = true ∧ passes x (.peerPresent 4) = true ∧
      passes x (.pointChange 4 0 true false) = (x == .all) ∧ passes x (.condChange 4 1 .normal 0) = (x == .all) ∧
      passes x (.condChange 4 0 .normal 0) = (x != .own)) ∧ (⟨4, 0⟩ : CondRef) ∈ active.ann.attention ∧
    (∀ x q v f, RecordBody.lineStuck ≠ .pointChange x q v f) ∧
    ∀ x k n h, RecordBody.lineStuck ≠ .condChange x k n h := by
  intro passes
  exact ⟨by decide +kernel, by decide +kernel, by simp, by simp⟩

/-- A station that hears a frame. -/
theorem witness_hears : receiving.hears (heard stateBytes) stateBytes ∧ receiving.hears (heard silenceBytes) silenceBytes ∧
    receiving.hears (heard ackreqBytes) ackreqBytes := by
  refine ⟨?_, ?_, ?_⟩ <;> constructor <;> decide +kernel

/-- PeersDoNotWriteTheOwnRow: a STATE of a peer, in a station outside ACTIVE and in one in ACTIVE. -/
theorem witness_own_row : readReception (heard stateBytes) = .complete stateBytes ∧
    exec (.frameEnd (heard stateBytes)) receiving = .next (effectRunning (.frameEnd (heard stateBytes)) receiving) ∧
    (station .listening .receiving).life.life ≠ .active ∧
    decodeFrame stateBytes = some ⟨4, .state stateFrame⟩ := by
  refine ⟨by decide +kernel, exec_running _ (by decide +kernel), by decide +kernel, by decide +kernel⟩

/-- A part that has left reset and reads its image. -/
def loading (source : ImageSource) (phase : LoaderPhase) (buffer : Memory) : State :=
  { State.reset with
    held := false
    life := { LifeControl.reset with stn := 9, source := source }
    loader := { Loader.reset with phase := phase, buffer := buffer } }

/-- A part whose memory read has brought some bytes, with what SDO has still to show and what SDI has brought. -/
def readingImage (buffer : Memory) (got : Nat) (sdo sdi : List Bool) (sck : Bool) : State :=
  (loading .memory .reading buffer).onLoader (fun l =>
    { l with got := got, scs := true, sdo := sdo, sdi := sdi, sck := sck })

/-- MemoryReadFillsTheBuffer: with the read command still to be sent, before the first byte, in the length field, and one
byte short of a declared end of 64 and of 640, where a byte more ends the read and none more does not. -/
theorem witness_memory_read : ∀ x ∈ [(([] : Memory), 0, memoryReadCommand.flatMap spiLevels), ([], 0, []),
    ([(0, 0x32), (1, 0x16), (2, 0x01)], 4, []), ([(0, 0x32), (1, 0x16), (4, 0x40)], 63, []),
    ([(0, 0x32), (3, 0x02), (4, 0x80)], 639, [])],
    let s := readingImage x.1 x.2.1 x.2.2 [] false
    s.held = false ∧ s.loader.phase = .reading ∧ s.life.life = .loading ∧ s.BufferLaw ∧ s.LoaderLaw ∧
      s.loader.sck = false ∧ s.loader.sdi = [] := by
  intro x hx
  simp only [List.mem_cons, List.not_mem_nil, or_false] at hx
  have absent : ∀ (m : Memory) (n : Nat), (∀ e ∈ m, e.1 < n) → ∀ a, n ≤ a → Memory.read m a = 0 := by
    intro m n h a ha
    induction m with
    | nil => rfl
    | cons e m ih =>
      have := h e (by simp)
      simp only [Memory.read]
      rw [if_neg (by omega)]
      exact ih (fun e he => h e (by simp [he]))
  rcases hx with rfl | rfl | rfl | rfl | rfl <;>
    exact ⟨rfl, rfl, rfl, (by decide +kernel : Memory.wf _ = true), ⟨fun _ => rfl, fun _ => rfl, by decide +kernel,
      fun _ => absent _ _ (by decide +kernel), by decide +kernel, by decide +kernel, by decide +kernel, by decide +kernel,
      by decide +kernel⟩, rfl, rfl⟩

/-- MemoryReadFillsTheBuffer: levels of SDI that bring one byte behind the read command; the edges of SCK with seven and
with eight levels sampled. -/
theorem witness_memory_edges :
    (sdiOf [0xA5]).length = 2 * selected.loader.sdo.length + 16 * [(0xA5 : Byte)].length ∧
    (∀ k, k < 1 → ∀ j, j < 8 → (sdiOf [0xA5])[2 * selected.loader.sdo.length + 16 * k + 2 * j]? =
      some (([(0xA5 : Byte)].getD k 0).getLsbD (7 - j))) ∧
    ∀ n ∈ [7, 8], let s := readingImage [] 0 [] (List.replicate n true) true
      s.held = false ∧ s.loader.phase = .reading ∧ s.life.life = .loading ∧ s.loader.sck = true ∧
        s.loader.sdi.length = n ∧ Memory.wf s.loader.buffer = true := by decide +kernel

/-- LeavingResetSamplesTheStraps, CommitStartsTheCheck, FailedImageStopsOrWaits. -/
theorem witness_loading : State.reset.held = true ∧
    (loading .supervisor .idle []).life.source = .supervisor ∧ (loading .memory .idle []).life.source = .memory ∧
    active.life.life ≠ .loading ∧ (loading .supervisor .checking []).loader.phase = .checking ∧
    checkImage (loading .memory .checking []).loader.buffer 9 = .error .badMagic := by
  decide +kernel

/-- An image of 278 bytes for station 9: line 0 NORMAL with 10 ms, the others UNUSED; C0 LOCK, C1 RING with a hold of
200 ms and C2 FOLLOW, each with one term; O0 a LAMP of 9.C0, O1 DIRECT on 4.P1 inverted; 9.C0 in the horn set; template
0 of two bytes. C0's term, the template's last byte and the check are given (Table 13-4). -/
def image (term last high low : Byte) : Memory :=
  [(0, 0x32), (1, 0x16), (2, 0x01), (3, 0x01), (4, 0x16), (5, 0x09), (7, 0x02), (8, 0x10), (9, 0x02), (12, 0x01),
    (13, 0x02), (15, 0x01), (16, 0x10), (17, 0x03), (18, 0x03), (19, 0x03), (20, 0x03), (21, 0x03), (22, 0x03),
    (23, 0x03), (24, 0x03), (25, 0x03), (26, 0x03), (27, 0x03), (28, 0x03), (29, 0x03), (30, 0x03), (31, 0x03),
    (32, 0x11), (33, 0x01), (36, 0xF0), (37, term), (38, 0x80), (53, 0x15), (54, 0x01), (55, 0x02), (57, 0xFF),
    (58, 0x64), (59, 0x80), (74, 0x29), (75, 0x11), (78, 0xFF), (79, 0x04), (80, 0x82), (200, 0x05), (201, 0x09),
    (203, 0x12), (204, 0x04), (205, 0x01), (236, 0x01), (237, 0x09), (269, 0x01), (270, 0x02), (271, 0x40),
    (272, last), (276, high), (277, low)]

/-- The settings that image spells, by C0's term and the template's last byte. -/
def imageSettings (term : Term) (last : Byte) : Settings where
  version := 1
  bitRate := 0
  refreshCode := 2
  expected := 0x210
  zone := 1
  reach := 0x2
  scope := .own
  attnEnabled := true
  lines := (Tab.fill 16 ⟨.unused, 0⟩).set 0 ⟨.normal, 1⟩
  conds := (((Tab.fill 8 CondSetting.unused).set 0 ⟨true, .lock, .any, 0, 0, 0, some 0, none, [term]⟩).set 1
    ⟨true, .ring, .any, 0, 2, 0, none, none, [.present 9]⟩).set 2
    ⟨true, .follow, .atLeast, 1, 0, 0, none, none, [.point 9 0 true false]⟩
  outs := ((Tab.fill 12 .unused).set 0 (.lamp ⟨9, 0⟩)).set 1 (.directPoint 4 1 true false)
  horn := [⟨9, 0⟩]
  uart := 1
  templates := (Tab.fill 4 []).set 0 [0x40, last]

/-- The check of bytes that come in five runs. -/
theorem crc_of_runs {l a b c d e : List Byte} {v w x y z : BitVec 16} (split : l = a ++ (b ++ (c ++ (d ++ e))))
    (ha : a.foldl crcByte 0xFFFF#16 = v) (hb : b.foldl crcByte v = w) (hc : c.foldl crcByte w = x)
    (hd : d.foldl crcByte x = y) (he : e.foldl crcByte y = z) : crc16 l = z := by
  rw [split, crc16, List.foldl_append, ha, List.foldl_append, hb, List.foldl_append, hc, List.foldl_append, hd, he]

/-- A store's first 276 bytes in five runs. -/
theorem slice_runs (m : Memory) : m.slice 0 276 =
    m.slice 0 56 ++ (m.slice 56 56 ++ (m.slice 112 56 ++ (m.slice 168 56 ++ m.slice 224 52))) := by
  rw [← Memory.slice_append, ← Memory.slice_append, ← Memory.slice_append, ← Memory.slice_append]

/-- The image with C0 on the presence of 9 and the template @E, with its check. -/
def richImage : Memory := image 0x64 0x45 0xC8 0x05

theorem rich_image_crc : richImage.slice 276 2 = crcBytes (richImage.slice 0 276) := by
  have h : crc16 (richImage.slice 0 276) = 51205#16 := crc_of_runs (slice_runs _)
    (v := 14940#16) (w := 6567#16) (x := 34325#16) (y := 14926#16)
    (by decide +kernel) (by decide +kernel) (by decide +kernel) (by decide +kernel) (by decide +kernel)
  rw [crcBytes, h]
  decide +kernel

/-- The image with C0 on its own alarm, with its check. -/
def selfImage : Memory := image 0x44 0x45 0xB2 0xE8

theorem self_image_crc : selfImage.slice 276 2 = crcBytes (selfImage.slice 0 276) := by
  have h : crc16 (selfImage.slice 0 276) = 45800#16 := crc_of_runs (slice_runs _)
    (v := 23270#16) (w := 36248#16) (x := 23818#16) (y := 40842#16)
    (by decide +kernel) (by decide +kernel) (by decide +kernel) (by decide +kernel) (by decide +kernel)
  rw [crcBytes, h]
  decide +kernel

/-- The image with a template that spells no reference, with its check. -/
def badImage : Memory := image 0x64 0x65 0xFF 0x4B

theorem bad_image_crc : badImage.slice 276 2 = crcBytes (badImage.slice 0 276) := by
  have h : crc16 (badImage.slice 0 276) = 65355#16 := crc_of_runs (slice_runs _)
    (v := 14940#16) (w := 6567#16) (x := 34325#16) (y := 14926#16)
    (by decide +kernel) (by decide +kernel) (by decide +kernel) (by decide +kernel) (by decide +kernel)
  rw [crcBytes, h]
  decide +kernel

/-- The image with C0 on the presence of 5, which is not expected, with its check. -/
def quietImage : Memory := image 0x62 0x45 0xB7 0xF8

theorem quiet_image_crc : quietImage.slice 276 2 = crcBytes (quietImage.slice 0 276) := by
  have h : crc16 (quietImage.slice 0 276) = 47096#16 := crc_of_runs (slice_runs _)
    (v := 56924#16) (w := 4961#16) (x := 33221#16) (y := 59570#16)
    (by decide +kernel) (by decide +kernel) (by decide +kernel) (by decide +kernel) (by decide +kernel)
  rw [crcBytes, h]
  decide +kernel

/-- Every field of the three images at its offset, but for the conditions and the template. -/
theorem images_spell : ∀ x ∈ [(richImage, Term.present 9, (0x45 : Byte)), (selfImage, .alarm 9 0 false, 0x45),
    (badImage, .present 9, 0x65)], (imageSettings x.2.1 x.2.2).spelledBy x.1 278 9 := by
  have term {m : Memory} {a : Nat} {t : Term} {cs : CondSetting} (h : cs.terms = [t])
      (ht : t.spelledBy ((Memory.read m (a + 5)).toNat * 256 + (Memory.read m (a + 6)).toNat)) :
      ∀ (n : Nat) (u : Term), cs.terms[n]? = some u →
        u.spelledBy ((Memory.read m (a + (5 + 2 * n))).toNat * 256 + (Memory.read m (a + (6 + 2 * n))).toNat) := by
    intro n u hu
    rw [h] at hu
    cases n with
    | zero => simp at hu; subst hu; exact ht
    | succ n => simp at hu
  have cond {m : Memory} {a : Nat} {cs : CondSetting} {t : Term} (h : cs.terms = [t]) (he : cs.enabled = true)
      (ht : t.spelledBy ((Memory.read m (a + 5)).toNat * 256 + (Memory.read m (a + 6)).toNat))
      (hd : let byte := fun k => (Memory.read m (a + k)).toNat
        byte 0 % 4 = 1 ∧ byte 0 / 4 % 4 = cs.annClass.code ∧ byte 0 / 16 % 4 = cs.combine.code ∧ byte 1 % 16 = 1 ∧
          byte 1 / 16 = cs.k ∧ (cs.combine = .atLeast → cs.k = 1) ∧ byte 2 = cs.hold ∧ byte 3 = cs.release ∧
          byte 4 % 16 = reportCode cs.onAlert ∧ byte 4 / 16 = reportCode cs.onClear) : cs.spelledAt m a := by
    obtain ⟨h0, h1, h2, h3, h4, h5, h6, h7, h8, h9⟩ := hd
    refine ⟨by rw [he]; exact h0, by simp [he], fun _ => ⟨h1, h2, by rw [h]; exact h3, h4, by simp [h], by simp [h],
      fun hc => by simp [h, h5 hc], h6, h7, h8, h9, term h ht⟩⟩
  have lamp {m : Memory} {a : Nat} {o : OutSetting} {r : CondRef} (h : o = .lamp r)
      (hd : let byte := fun k => (Memory.read m (a + k)).toNat
        byte 0 % 4 = 1 ∧ byte 0 / 4 % 4 = 1 ∧ byte 1 = r.station.val ∧ byte 2 = r.cond.val) : o.spelledAt m a := by
    subst h; exact hd
  have direct {m : Memory} {a : Nat} {o : OutSetting} {st : Station} {p : PointIx} {invert doubt : Bool}
      (h : o = .directPoint st p invert doubt) (hd : let byte := fun k => (Memory.read m (a + k)).toNat
        byte 0 % 4 = 2 ∧ byte 0 / 4 % 4 = 0 ∧ byte 0 / 16 % 2 = flag invert ∧ byte 0 / 32 % 2 = flag doubt ∧
          byte 1 = st.val ∧ byte 2 = p.val) : o.spelledAt m a := by
    subst h; exact hd
  have empty {m : Memory} {a : Nat} (k : Nat) (b : Byte) (h : ([] : List Byte)[k]? = some b) :
      Memory.read m (a + 1 + k) = b := by simp at h
  have spelled : ∀ x ∈ [(richImage, Term.present 9, (0x45 : Byte)), (selfImage, .alarm 9 0 false, 0x45),
      (badImage, .present 9, 0x65)], (∀ c : CondIx, 3 ≤ c.val →
        ((imageSettings x.2.1 x.2.2).conds.get c) = .unused ∧ (Memory.read x.1 (32 + 21 * c.val)).toNat % 4 = 0) ∧
      (∀ o : OutIx, 2 ≤ o.val → ((imageSettings x.2.1 x.2.2).outs.get o) = .unused ∧
        (Memory.read x.1 (200 + 3 * o.val)).toNat % 4 = 0) := by decide +kernel
  intro x hx
  obtain ⟨unusedConds, unusedOuts⟩ := spelled x hx
  simp only [List.mem_cons, List.not_mem_nil, or_false] at hx
  rcases hx with rfl | rfl | rfl <;> constructor <;> first
    | decide +kernel
    | (refine ⟨by decide +kernel, by decide +kernel, fun k r h => ?_⟩
       cases k with
       | zero => cases h; decide +kernel
       | succ k => cases h)
    | (intro c
       by_cases hc : 3 ≤ c.val
       · rw [(unusedConds c hc).1]
         exact ⟨(unusedConds c hc).2, fun _ => rfl, fun h => by cases h⟩
       · have : c = 0 ∨ c = 1 ∨ c = 2 := by omega
         rcases this with rfl | rfl | rfl <;> refine cond rfl rfl ?_ ?_ <;>
           first | decide +kernel | (simp only [Term.spelledBy]; decide +kernel))
    | (intro o
       by_cases ho : 2 ≤ o.val
       · rw [(unusedOuts o ho).1]; exact (unusedOuts o ho).2
       · have : o = 0 ∨ o = 1 := by omega
         rcases this with rfl | rfl
         · exact lamp (r := ⟨9, 0⟩) rfl (by decide +kernel)
         · exact direct (st := 4) (p := 1) (invert := true) (doubt := false) rfl (by decide +kernel))
    | (refine ⟨by decide +kernel, by decide +kernel, by decide +kernel, ?_, by decide +kernel, by decide +kernel,
         by decide +kernel, empty, by decide +kernel, by decide +kernel, by decide +kernel, empty, by decide +kernel,
         by decide +kernel, by decide +kernel, empty, trivial⟩
       intro k b h
       match k with
       | 0 => cases h; decide +kernel
       | 1 => cases h; decide +kernel
       | k + 2 => simp at h)

/-- An image of 278 bytes for station 9 that passes each of the seven checks is accepted with its settings. -/
theorem image_passes {m : Memory} {set : Settings} (crc : m.slice 276 2 = crcBytes (m.slice 0 276))
    (h : settingsOf m 278 9 = some set) (magic : ¬ m.word 0 ≠ 0x3216) (length : m.word 3 = 278)
    (number : ¬ m.num 5 ≠ (9 : Station).val) (itself : ¬ selfReferring set 9 = true)
    (parse : set.templates.list.all templateOk = true) : checkImage m 9 = .ok set := by
  unfold checkImage
  rw [length]
  rw [if_neg magic, if_neg (by decide), if_neg (by rw [not_not]; exact crc), if_neg number]
  simp only [h]
  rw [if_neg itself, if_pos parse]

/-- The image passes the seven checks, and its settings are the ones it spells. -/
theorem test_image_passes : checkImage richImage 9 = .ok (imageSettings (.present 9) 0x45) :=
  image_passes rich_image_crc (by decide +kernel) (by decide +kernel) (by decide +kernel) (by decide +kernel)
    (by decide +kernel) (by decide +kernel)
theorem test_quiet_image_passes : checkImage quietImage 9 = .ok (imageSettings (.present 5) 0x45) :=
  image_passes quiet_image_crc (by decide +kernel) (by decide +kernel) (by decide +kernel) (by decide +kernel)
    (by decide +kernel) (by decide +kernel)

/-- ImageChecksRunInOrder: a buffer that fails each of the first four checks, an image too short for its fields, one
that refers to itself, one with a template that does not parse, and one that passes. -/
theorem witness_checks : Memory.word [] 0 ≠ 0x3216 ∧
    (let m : Memory := [(0, 0x32), (1, 0x16), (4, 0x3F)];
      m.word 0 = 0x3216 ∧ ¬ (64 ≤ m.word 3 ∧ m.word 3 ≤ 640)) ∧
    (let m : Memory := [(0, 0x32), (1, 0x16), (4, 0x40)];
      64 ≤ m.word 3 ∧ m.word 3 ≤ 640 ∧ m.slice (m.word 3 - 2) 2 ≠ crcBytes (m.slice 0 (m.word 3 - 2))) ∧
    (let m : Memory := [(0, 0x32), (1, 0x16), (4, 0x40), (5, 0x09), (62, 0xF6), (63, 0x01)];
      m.word 0 = 0x3216 ∧ m.word 3 = 64 ∧ m.slice 62 2 = crcBytes (m.slice 0 62) ∧
        (Memory.read m 5).toNat = (9 : Station).val ∧ (Memory.read m 5).toNat ≠ (8 : Station).val ∧
        ∀ set : Settings, ¬ set.spelledBy m 64 9) := by
  refine ⟨by decide +kernel, by decide +kernel, by decide +kernel, by decide +kernel, by decide +kernel,
    by decide +kernel, by decide +kernel, by decide +kernel, fun set h => ?_⟩
  exact absurd h.sections (by decide)

/-- ImageChecksRunInOrder: the last two checks, over images whose fields are sound. -/
theorem witness_last_checks : (∀ m ∈ [richImage, selfImage, badImage], m.word 0 = 0x3216 ∧ m.word 3 = 278 ∧
      m.slice (278 - 2) 2 = crcBytes (m.slice 0 (278 - 2)) ∧ (Memory.read m 5).toNat = (9 : Station).val) ∧
    (∃ c d, ((imageSettings (.alarm 9 0 false) 0x45).conds.get c).enabled = true ∧
      .alarm 9 c d ∈ ((imageSettings (.alarm 9 0 false) 0x45).conds.get c).terms) ∧
    (∀ last, ¬ ∃ c d, ((imageSettings (.present 9) last).conds.get c).enabled = true ∧
      .alarm 9 c d ∈ ((imageSettings (.present 9) last).conds.get c).terms) ∧
    (∀ k, ∃ pieces, spells pieces ((imageSettings (.present 9) 0x45).templates.get k) ∧
      (pieces.filter Piece.isReference).length ≤ 8) ∧
    ¬ ∃ pieces, spells pieces ((imageSettings (.present 9) 0x65).templates.get 0) := by
  refine ⟨fun m hm => ?_, ⟨0, false, by decide +kernel⟩, fun last => ?_, fun k => ?_, fun ⟨pieces, h, legal⟩ => ?_⟩
  · simp only [List.mem_cons, List.not_mem_nil, or_false] at hm
    rcases hm with rfl | rfl | rfl
    · exact ⟨by decide +kernel, by decide +kernel, rich_image_crc, by decide +kernel⟩
    · exact ⟨by decide +kernel, by decide +kernel, self_image_crc, by decide +kernel⟩
    · exact ⟨by decide +kernel, by decide +kernel, bad_image_crc, by decide +kernel⟩
  · have : ∀ (c : CondIx) (d : Bool), .alarm 9 c d ∉ ((imageSettings (.present 9) 0).conds.get c).terms := by
      decide +kernel
    exact fun ⟨c, d, _, h⟩ => this c d h
  · by_cases hk : k = 0
    · subst hk
      exact ⟨[.event], ⟨by decide +kernel, fun p hp => by simp at hp; subst hp; trivial⟩, by decide⟩
    · have : (imageSettings (.present 9) 0x45).templates.get k = [] := by revert k; decide +kernel
      rw [this]
      exact ⟨[], ⟨rfl, fun p hp => by simp at hp⟩, by decide⟩
  · have e : (imageSettings (.present 9) 0x65).templates.get 0 = [0x40, 0x65] := by decide +kernel
    rw [e] at h
    cases pieces with
    | nil => simp at h
    | cons q rest =>
      have hq := legal q (by simp)
      cases q <;> simp [Piece.text, ascii, twoDigits, Piece.legal] at h hq
      rw [h.1] at hq
      simp at hq

/-- The picture's conditions replaced leaves the rest of the picture. -/
theorem onPic_conds_rest (t : State) (c : Tab 32 (Tab 8 CondEntry)) :
    (t.onPic (fun pic => { pic with conds := c })).pic.roster = t.pic.roster ∧
      (t.onPic (fun pic => { pic with conds := c })).pic.points = t.pic.points := ⟨rfl, rfl⟩

/-- The state an accepted image leads to. -/
def accepted (m : Memory) (set : Settings) : State :=
  (State.passImage set ((loading .supervisor .checking m).onLoader (fun l =>
    { l with phase := .idle, check := .none }))).settle

theorem accepted_next {m : Memory} {set : Settings} (h : checkImage m 9 = .ok set) :
    exec .imageCheckEnd (loading .supervisor .checking m) = .next (accepted m set) := by
  have e : effectRunning .imageCheckEnd (loading .supervisor .checking m) = accepted m set := by
    simp only [effectRunning, State.imageCheckEnd]
    have hb : (loading .supervisor .checking m).loader.buffer = m := rfl
    have ho : (loading .supervisor .checking m).own = 9 := rfl
    rw [if_pos ⟨rfl, rfl⟩, hb, ho, h]
    rfl
  rw [exec_running _ (show (loading .supervisor .checking m).held = false from rfl), e]

/-- AcceptedImageEntersListening: the check over the image, with the picture in which its conditions were evaluated: C0
true at once, C1 with a hold, C2 false and C3 not enabled; and with the one report job that C0's change makes. -/
theorem witness_accepted :
    let s := loading .supervisor .checking richImage
    let set := imageSettings (.present 9) 0x45
    let start := fun (st : Station) (c : CondIx) => (if st = s.own
      then ⟨if (set.conds.get c).enabled then .normal else .unused, false, 0, .good⟩
      else ⟨.normal, false, 0, .unknown⟩ : CondEntry)
    (s.IdleLaw ∧ s.held = false ∧ s.life.life = .loading ∧ s.loader.phase = .checking ∧ s.journal.records = [] ∧
      checkImage s.loader.buffer s.own = .ok set) ∧
    ∃ t p : State, exec .imageCheckEnd s = .next t ∧ p.pic.roster = t.pic.roster ∧ p.pic.points = t.pic.points ∧
      (∀ x k, p.condEntry x k = start x k) ∧ p.rawResult (set.conds.get 0) = true ∧ (set.conds.get 0).hold = 0 ∧
      p.rawResult (set.conds.get 1) = true ∧ (set.conds.get 1).hold ≠ 0 ∧ p.rawResult (set.conds.get 2) = false ∧
      (set.conds.get 2).enabled = true ∧ (set.conds.get 3).enabled = false ∧
      (t.cond.run.get 0).eval = .isTrue ∧ (t.cond.run.get 3).eval ≠ .isTrue ∧
      ((indices 8).filter (fun c => (t.cond.run.get c).eval == .isTrue)).filterMap
        (fun c => t.jobOf c .alertUnack 1) = [⟨0, .alert, 0, 1, 0⟩] := by
  intro s set start
  let t := accepted richImage set
  refine ⟨⟨by constructor <;> decide, by decide +kernel, by decide +kernel, by decide +kernel, by decide +kernel,
    test_image_passes⟩, t, t.onPic (fun pic => { pic with conds := .build (fun x => .build (start x)) }),
    accepted_next test_image_passes, (onPic_conds_rest t _).1, (onPic_conds_rest t _).2, ?_, ?_⟩
  · intro x k; simp [State.condEntry]
  · decide +kernel

/-- AcceptedImageEntersListening: a state whose settings, count, own number and points are those of the acceptance and
whose conditions behind C0 are as they stood before their edges, for the composing of the first report line. -/
theorem witness_accepted_line :
    let t := accepted richImage (imageSettings (.present 9) 0x45)
    t.settings = imageSettings (.present 9) 0x45 ∧ t.clock = (loading .supervisor .checking richImage).clock ∧
      t.own = 9 ∧ (t.report.line = some (t.composeLine ⟨0, .alert, 0, 1, 0⟩)) ∧
      (∀ k : CondIx, 0 < k → t.ownCond k =
        ⟨if ((imageSettings (.present 9) 0x45).conds.get k).enabled then .normal else .unused, (t.ownCond k).truth, 0,
          .good⟩) := by
  decide +kernel

/-- AcceptedImageEntersListening: an acceptance in which no condition is true, and so no report job. -/
theorem witness_accepted_quiet :
    let t := accepted quietImage (imageSettings (.present 5) 0x45)
    (loading .supervisor .checking quietImage).IdleLaw ∧
      exec .imageCheckEnd (loading .supervisor .checking quietImage) = .next t ∧
      (∀ c, (t.cond.run.get c).eval ≠ .isTrue) ∧ t.report.line = none ∧
      ((indices 8).filter (fun c => (t.cond.run.get c).eval == .isTrue)).filterMap
        (fun c => t.jobOf c .alertUnack 1) = [] :=
  ⟨by constructor <;> decide, accepted_next test_quiet_image_passes, by decide +kernel, by decide +kernel,
    by decide +kernel⟩

/-- LevelChangeIsSensed: a departure and a return of line 0, a line that is not debounced, and the two lines of a pair.
-/
theorem witness_level_change :
    let d := after active (.inputLevelChange 0 true)
    active.pins.lines.get 0 ≠ true ∧ active.held = false ∧ active.life.life.running = true ∧
      active.settings.debounces 0 = true ∧ (active.input.lines.get 0).candidate = none ∧
      true ≠ (active.input.lines.get 0).accepted ∧ d.pins.lines.get 0 ≠ false ∧
      (d.input.lines.get 0).candidate ≠ none ∧ false = (d.input.lines.get 0).accepted ∧
      active.settings.debounces 15 = false ∧ active.pins.lines.get 2 ≠ true ∧ active.pins.lines.get 3 ≠ false ∧
      active.settings.isPair (pairOf 2) = true ∧ active.settings.isPair (pairOf 3) = true ∧
      State.reset.life.life.running = false := by decide +kernel

/-- DebounceExpiryWritesTheValue, for a line of its own and for a pair. -/
theorem witness_debounce :
    let s := after (after active (.inputLevelChange 0 true)) (.inputLevelChange 2 true)
    s.held = false ∧ (s.input.lines.get 0).candidate = some true ∧ (s.input.lines.get 0).timer = some 1010 ∧
      s.settings.isPair (pairOf 0) = false ∧ (s.input.lines.get 2).candidate = some true ∧
      (s.input.lines.get 2).timer = some 1020 ∧ s.settings.isPair (pairOf 2) = true := by decide +kernel

/-- PairExpiryWritesTheQuality, from COMPLEMENT and from AGREE. -/
theorem witness_pair :
    let s := after active (.inputLevelChange 2 true)
    let t := after (after s (.pairTimerExpiry 1)) (.inputLevelChange 2 false)
    s.held = false ∧ (s.input.pairs.get 1).timer = some 1020 ∧ (s.input.pairs.get 1).accepted = .complement ∧
      (t.input.pairs.get 1).timer = some 1040 ∧ (t.input.pairs.get 1).accepted = .agree := by decide +kernel

/-- A station whose ACK, SILENCE and TEST are pressed and not yet accepted. -/
def pressed : State := [Control.ack, .silence, .test].foldl (fun s i => after s (.controlInputChange i true)) active

/-- ControlChangeStartsOrDropsACandidate and ControlExpiryHandsOnPressOrLevel, and the press of ACK. -/
theorem witness_controls : active.pins.control .ack ≠ true ∧ active.held = false ∧ active.life.life.running = true ∧
    (active.input.control .ack).candidate = none ∧ true ≠ (active.input.control .ack).accepted ∧
    pressed.pins.control .test ≠ false ∧ (pressed.input.control .test).candidate ≠ none ∧
    false = (pressed.input.control .test).accepted ∧ State.reset.held = true ∧ pressed.held = false ∧
    (pressed.input.control .silence).candidate = some true ∧ (pressed.input.control .silence).timer = some 1020 ∧
    ¬ (Control.silence = .ack ∧ true = true) ∧ pressed.input.ack.candidate = some true ∧
    pressed.input.ack.timer = some 1020 := by decide +kernel

/-- EvaluationMovesEachReaderOnce: P0 has risen, and C0 reads it. -/
theorem witness_evaluation :
    let s := after (after active (.inputLevelChange 0 true)) (.debounceExpiry 0)
    s.held = false ∧ s.ConditionLaw ∧ s.cond.notices = [.point 9 0 ⟨false, .good⟩ ⟨true, .good⟩] ∧
      (s.settings.conds.get 0).enabled = true ∧
      (s.settings.conds.get 0).terms.any (fun m => m.reads (.point 9 0)) = true ∧
      s.rawResult (s.settings.conds.get 0) ≠ (s.cond.run.get 0).raw ∧ (s.cond.run.get 0).eval = .isFalse := by
  refine ⟨by decide +kernel, by constructor <;> decide +kernel, ?_⟩
  decide +kernel

/-- C1 with its hold timer running, and with its release timer running. -/
def holding (eval : EvalState) : State :=
  (active.setRun 1 ⟨eval, eval.raw, if eval = .qualifying then some 1200 else none,
    if eval = .releasing then some 1300 else none⟩).onPic
      (Picture.setCond 9 1 ⟨.normal, eval.truth, 0, .good⟩)

/-- HoldAndReleaseExpiryMoveTruth, and the other two moves of an evaluation. -/
theorem witness_hold_release : (holding .qualifying).held = false ∧ (holding .qualifying).ConditionLaw ∧
    ((holding .qualifying).cond.run.get 1).eval = .qualifying ∧
    ((holding .qualifying).cond.run.get 1).hold = some 1200 ∧ (holding .releasing).held = false ∧
    (holding .releasing).ConditionLaw ∧ ((holding .releasing).cond.run.get 1).eval = .releasing ∧
    ((holding .releasing).cond.run.get 1).release = some 1300 ∧ ((holding .isTrue).cond.run.get 1).eval = .isTrue := by
  refine ⟨by decide +kernel, by constructor <;> decide +kernel, by decide +kernel, by decide +kernel, by decide +kernel,
    by constructor <;> decide +kernel, by decide +kernel, by decide +kernel, by decide +kernel⟩

/-- A station whose condition is of a class, in a state, with an edge handed and not yet taken. -/
def withEdge (k : AnnClass) (a : AnnState) (rising : Bool) : State :=
  ((active.onSettings (fun x => { x with conds := x.conds.modify 0 (fun c => { c with annClass := k }) })).onPic
    (Picture.setCond 9 0 ⟨a, rising, 15, .good⟩)).onAnn (fun u => { u with
      edges := [⟨1, true⟩, ⟨0, rising⟩]
      seqTruth := u.seqTruth.set 0 (!rising) })

/-- EdgesMoveByClass and StateChangeRecordsAndReports: each class, each of its states, with the generation at its top.
-/
theorem witness_edges : ∀ x ∈ [(AnnClass.lock, AnnState.normal, true), (.lock, .alertUnack, false), (.lock, .alertAck, false),
    (.ring, .normal, true), (.ring, .alertUnack, false), (.ring, .alertAck, false), (.ring, .returnUnack, true),
    (.follow, .normal, true), (.follow, .alertUnack, false), (.follow, .alertAck, false)],
    let s := withEdge x.1 x.2.1 x.2.2
    s.held = false ∧ s.ann.edges.find? (fun e => e.cond == 0) = some ⟨0, x.2.2⟩ ∧
      (s.settings.conds.get 0).annClass = x.1 ∧ (s.ownCond 0).state = x.2.1 ∧ s.report.jobs.length < 6 ∧
      s.report.line = none := by decide +kernel

/-- EdgesMoveByClass: an UNUSED condition in a running station that meets the law. -/
theorem witness_unused : (sending.ownCond 3).state = .unused ∧ sending.AnnunciationLaw ∧
    sending.life.life.running = true := ⟨by decide +kernel, witness_lawful.annunciation, by decide +kernel⟩

/-- StateChangeRecordsAndReports: a report queue within the law, with room and full, and an edge that waits. -/
theorem witness_report_jobs : (withEdge .lock .normal true).ReportLaw ∧
    ((withEdge .lock .normal true).onReport (fun _ =>
      ⟨List.replicate 6 ⟨0, .clear, 0, 0, 0⟩, some [0x0D, 0x0A], 0⟩)).ReportLaw ∧
    (∃ e ∈ (withEdge .lock .normal true).ann.edges, e.cond = 0) ∧
    (withEdge .lock .normal true).jobOf 0 .alertUnack 0 ≠ none := by
  refine ⟨⟨by decide +kernel, by decide +kernel, fun l h => ?_⟩, ⟨by decide +kernel, by decide +kernel, fun l h => ?_⟩,
    by decide +kernel, by decide +kernel⟩
  · have : (withEdge .lock .normal true).report.line = none := by decide +kernel
    rw [this] at h; cases h
  · injection h with h; subst h; decide

/-- StateChangeRecordsAndReports: C2 is FOLLOW in ALERT_UNACK with generation 1, so that an ALERT of that generation
moves it and one of the next generation, or a RETURN, does not. -/
theorem witness_acknowledged : active.acknowledged 2 ⟨.alert, 1⟩ ≠ active.ownCond 2 ∧
    active.acknowledged 2 ⟨.alert, 2⟩ = active.ownCond 2 ∧
    active.acknowledged 2 ⟨.returned, 1⟩ = active.ownCond 2 := by decide +kernel

/-- LatchClearLetsTheHornSound. -/
theorem witness_latch_clear :
    let s := active.onAnn (fun u => { u with clears := [⟨4, 0⟩] })
    s.held = false ∧ s.life.life.running = true ∧ s.ann.clears = [⟨4, 0⟩] := by decide +kernel

/-- PressAnswersTheAttentionSet and PressFormsOneRequestPerOwner: station 4 owns the one selected condition. -/
theorem witness_press : active.held = false ∧ active.life.life = .active ∧
    (∀ i, active.ann.requests.get i = none) ∧ [(4 : Station)].length ≤ 8 ∧ [(4 : Station)].Pairwise (· < ·) ∧
    (∀ st, st ∈ [(4 : Station)] ↔ st ≠ active.own ∧ ∃ c : CondIx, (⟨st, c⟩ : CondRef) ∈ active.ann.attention ∧
      (active.condEntry st c).quality = .good ∧
      ((active.condEntry st c).state = .alertUnack ∨ (active.condEntry st c).state = .returnUnack)) ∧
    (station .listening .window).life.life ≠ .active := by decide +kernel

/-- PressAnswersTheAttentionSet: the one request of a press, for station 4, in ACTIVE and outside it. -/
theorem witness_press_requests : ∀ s ∈ [active, station .listening .window],
    let requests : List (Station × BitVec 8 × Tab 8 AckPair) := [(4, 0x01, .build (fun c => (s.condEntry 4 c).answer))]
    s.held = false ∧ s.life.life.running = true ∧ (requests.map Prod.fst).Pairwise (· < ·) ∧
      (∀ st, st ∈ requests.map Prod.fst ↔ st ≠ s.own ∧ ∃ c, s.pressSelects st c) ∧
      (∀ x ∈ requests, (∀ c : CondIx, x.2.1.getLsbD c.val = true ↔ s.pressSelects x.1 c) ∧
        ∀ c, x.2.2.get c = (s.condEntry x.1 c).answer) := by
  simp only [State.pressSelects]
  decide +kernel

/-- PressFormsOneRequestPerOwner: a request for a target that has an entry with its frame at rest, queued or on the
line, one that takes the first free entry, and one that finds the table full. -/
theorem witness_hand_request : (∀ p ∈ [FramePending.none, .queued, .onLine],
      let r : Request := { Request.new 4 0x80 (.fill 8 ⟨.alert, 3⟩) with pending := p }
      let s := active.setRequest 7 (some r)
      s.requestFor 4 = some 7 ∧ s.ann.requests.get 7 = some r ∧ r.pending = p) ∧
    (active.requestFor 4 = none ∧ active.freePlace = some 0) ∧
    (let s := active.onAnn (fun u => { u with
        requests := .build (fun i => some (.new (Fin.ofNat 32 (10 + i.val)) 1 (.fill 8 ⟨.alert, 0⟩))) });
      s.requestFor 4 = none ∧ s.freePlace = none) := by decide +kernel

/-- RetryExpiryResendsOrFails, with retries left and with none. -/
theorem witness_retry : ∀ n ∈ [0, 1, 3],
    let r : Request := { Request.new 4 0x01 (.fill 8 ⟨.alert, 3⟩) with retries := n, timer := some 1200, pending := .none }
    (active.setRequest 7 (some r)).held = false ∧ (active.setRequest 7 (some r)).ann.requests.get 7 = some r ∧
      r.timer = some 1200 := by decide +kernel

/-- StationTimersExpire: each of the three timers in its life state. -/
theorem witness_station_timers : (station .listening .window).held = false ∧
    (station .listening .window).life.life = .listening ∧ (station .listening .window).life.listen = some 2000 ∧
    (station .withdrawn .window).life.life = .withdrawn ∧ (station .withdrawn .window).life.withdraw = some 2000 ∧
    (active.onFrame (fun f => { f with refresh := some 1500 })).frame.refresh = some 1500 := by decide +kernel

/-- StationTimersExpire: queues without a STATE entry, and with one between two others. -/
theorem witness_requests_of_state : (∀ e ∈ [(⟨.ackreq 0, true⟩ : QEntry), ⟨.silence 0x3, false⟩], e.isState = false) ∧
    urgentRequest [⟨.ackreq 0, true⟩, ⟨.state false false, false⟩, ⟨.silence 0x3, false⟩] =
      [⟨.ackreq 0, true⟩, ⟨.silence 0x3, false⟩, ⟨.state true false, false⟩] ∧
    urgentRequest [⟨.state false false, true⟩] = [⟨.state false true, true⟩] ∧
    urgentRequest [⟨.state true true, false⟩] = [⟨.state true true, false⟩] := by decide

/-- AbsenceExpiryTurnsTheRowUnknown, with no request for the station and with one. -/
theorem witness_absence : active.held = false ∧ (active.pic.roster.get 4).presence = .present ∧
    (active.pic.roster.get 4).absence = some 2500 ∧ active.requestFor 4 = none ∧
    (sending.pic.roster.get 4).absence = some 2500 ∧ sending.requestFor 4 = some 0 := by decide +kernel

/-- WindowsBeginAndEnd: a station in each of the states an event of it needs. -/
theorem witness_windows : (station .active .quiet).held = false ∧ (station .active .quiet).life.life.running = true ∧
    (station .active .quiet).line.state = .quiet ∧ active.line.state = .window ∧
    (receiving.onLine (fun l => { l with rx := .startupWait })).line.rx = .startupWait ∧
    (station .active .transmitting).line.state = .transmitting ∧ (station .active .transmitting).line.sending = none ∧
    (station .active .stuck).line.state = .stuck ∧ (station .active .jamming).line.state = .jamming := by decide +kernel

/-- A SILENCE whose kind byte names no kind: valid on the line, and discarded. -/
def strangeBytes : List Byte := let body := [0x04, 0x04, 0x00, 0x01, 0x03]; body ++ crcBytes body

/-- FrameEndTakesW: a frame that is taken and one that is discarded. -/
theorem witness_frame_end : decodeFrame silenceBytes ≠ none ∧ decodeFrame strangeBytes = none ∧
    validOnLine strangeBytes = true ∧ readReception (heard strangeBytes) = .complete strangeBytes ∧
    frameOrigin strangeBytes ≠ receiving.own := by decide +kernel

/-- StateFromPeerRewritesItsRow and StrangerStateOnlySetsItsFlag: station 4 PRESENT, and not expected. -/
theorem witness_state_frames : decodeFrame stateBytes = some ⟨4, .state stateFrame⟩ ∧ (4 : Station) ≠ receiving.own ∧
    (receiving.pic.roster.get 4).presence = .present ∧
    (let s := receiving.onPic (fun _ => Picture.reset);
      (s.pic.roster.get 4).presence = .notExpected ∧ s.held = false ∧ s.life.life.running = true ∧
        s.line.state = .receiving ∧ s.line.rx = .frame) := by decide +kernel

/-- DuplicateFrameHaltsTheStation: a SILENCE that bears the own number. -/
theorem witness_duplicate :
    let bytes := (Frame.mk 9 (.silence 0x3)).bytes
    receiving.hears (heard bytes) bytes ∧ frameOrigin bytes = receiving.own ∧ receiving.RequestLaw ∧
      receiving.life.life = .active ∧ (station .withdrawn .receiving).life.life = .withdrawn := by
  refine ⟨by constructor <;> decide +kernel, by decide +kernel, ?_, by decide +kernel, by decide +kernel⟩
  have hn : ∀ i : ReqIx, receiving.ann.requests.get i = none := by decide +kernel
  have hq : receiving.frame.queue = [] := by decide +kernel
  constructor <;> intros <;> simp_all

/-- AckreqAppliedByItsOwner and ReceivedSilenceSetsTheLatch: the own station named in ACTIVE, a peer's request outside
ACTIVE, a present origin. -/
theorem witness_other_frames : decodeFrame ackreqBytes = some ⟨4, .ackreq 9 0x05
      (((Tab.fill 8 ⟨.alert, 0⟩).set 0 ⟨.returned, 3⟩).set 2 ⟨.alert, 2⟩)⟩ ∧ (4 : Station) ≠ receiving.own ∧
    (9 : Station) = receiving.own ∧ receiving.life.life = .active ∧
    (station .withdrawn .receiving).life.life ≠ .active ∧ decodeFrame silenceBytes = some ⟨4, .silence 0x3⟩ ∧
    (receiving.pic.roster.get 4).presence = .present ∧ (receiving.pic.roster.get 4).refreshCode = some 2 := by
  decide +kernel

/-- UnusableReceptionsAreCounted: a framing error, bytes that form no frame, and a jam, in a peer's reception. -/
theorem witness_unusable : receiving.held = false ∧ receiving.life.life.running = true ∧
    receiving.line.state = .receiving ∧ receiving.line.rx = .frame ∧
    readReception ([.dominant, .recessive] ++ List.replicate 9 .recessive) = .broken ∧
    readReception (heard []) = .complete [] ∧ validOnLine [] = false ∧ readReception jamLevels = .jammed := by
  decide +kernel

/-- UnusableReceptionsAreCounted: levels that end with their first ten recessive bit times, and each framing error at the
ends of its range. -/
theorem witness_framing_errors : endsOnce (.recessive :: List.replicate 9 .recessive) ∧
    endsOnce (.dominant :: tailLevels) ∧ (List.replicate 8 Level.dominant).length = 8 ∧ [(0x00 : Byte)] ≠ [] ∧
    (∀ n ∈ [1, 2], readReception (List.replicate n .dominant ++ tailLevels) = .broken) ∧
    readReception (List.replicate 7 .dominant ++ tailLevels) = .broken ∧
    readReception (List.replicate 8 .dominant ++ tailLevels) = .jammed ∧
    (∀ n ∈ [1, 9], readReception (driveLevels [0x00] ++ List.replicate n .recessive ++ .dominant :: tailLevels) =
      .broken) := by
  refine ⟨⟨[], rfl, fun n hn h => ?_⟩, ⟨[.dominant], rfl, fun n hn h => ?_⟩, rfl, by decide, by decide +kernel,
    by decide +kernel, by decide +kernel, by decide +kernel⟩
  · have := h.length_le
    simp [tailLevels] at this hn
    omega
  · have hl := h.length_le
    simp [tailLevels] at hl hn
    have : n = 10 := by omega
    subst this
    revert h
    decide +kernel

/-- SlotStartSendsInItsOwnSlots: the own urgent slot with an urgent entry, and a slot that is not its own. -/
theorem witness_slots :
    let s := active.requestUrgent
    s.held = false ∧ s.life.life.running = true ∧ s.line.state = .window ∧ s.line.nextSlot ≤ (28 : Fin 64).val ∧
      s.line.blind = false ∧ s.line.w = some 12 ∧ (28 : Fin 64).val = (s.own.val + 31 - (12 : Station).val) % 32 ∧
      (60 : Fin 64).val = 32 + (s.own.val + 31 - (12 : Station).val) % 32 ∧
      (∃ e ∈ s.frame.queue, e.onLine = false ∧ e.urgent = true) ∧ (63 : Fin 64).val ≠ 60 := by decide +kernel

/-- TransmissionCompletes: a STATE with its changed mark, an ACKREQ, a SILENCE, and no entry. -/
theorem witness_completion : sending.held = false ∧ sending.transmitting = true ∧
    sending.onLineEntry = some ⟨.state true true, true⟩ ∧
    (let s := sending.onFrame (fun f => { f with queue := [⟨.ackreq 0, true⟩] });
      s.transmitting = true ∧ s.onLineEntry = some ⟨.ackreq 0, true⟩ ∧
        s.ann.requests.get 0 = some (.new 4 0x01 (.fill 8 ⟨.alert, 3⟩))) ∧
    (let s := sending.onFrame (fun f => { f with queue := [⟨.silence 0xF, true⟩] });
      s.onLineEntry = some ⟨.silence 0xF, true⟩) ∧
    (sending.onFrame (fun f => { f with queue := [] })).onLineEntry = none := by decide +kernel

/-- CollisionJamsOrWithdraws: a recessive bit time of the own frame, below and at the last collision before 16. -/
theorem witness_collision : sending.held = false ∧ sending.life.life = .active ∧ sending.line.state = .transmitting ∧
    (∃ bytes, sending.line.sending = some bytes ∧ (driveLevels bytes)[3]? = some .recessive) ∧ sending.QueueLaw ∧
    sending.RequestLaw ∧ sending.line.collisions < 15 ∧
    (15 ≤ (sending.onLine (fun l => { l with collisions := 15 })).line.collisions) := by
  refine ⟨by decide +kernel, by decide +kernel, by decide +kernel, ?_, witness_lawful.queue, witness_lawful.requests,
    by decide +kernel, by decide +kernel⟩
  exact ⟨(Frame.mk 9 (.state (station .active .transmitting).ownState)).bytes, rfl, by decide +kernel⟩

/-- The station with its ACKREQ to station 4 on the line, asked for again meanwhile. -/
def asking : State := (((station .active .transmitting).onFrame (fun f => { f with queue := [⟨.ackreq 0, true⟩] })).onLine
    (fun l => { l with sending := some ackreqBytes })).setRequest 0
  (some { Request.new 4 0x01 (.fill 8 ⟨.alert, 3⟩) with pending := .onLine, sendAgain := true })

/-- DominantLineIsStuck, in the middle of a transmission of a STATE and of an ACKREQ, and with no own frame under way. -/
theorem witness_stuck : sending.held = false ∧ sending.life.life.running = true ∧ sending.line.state ≠ .stuck ∧
    sending.QueueLaw ∧ sending.RequestLaw ∧ sending.line.sending ≠ none ∧
    (∀ i, sending.onLineEntry ≠ some ⟨.ackreq i, true⟩) ∧ active.line.sending = none := by
  exact ⟨by decide +kernel, by decide +kernel, by decide +kernel, witness_lawful.queue, witness_lawful.requests,
    by decide +kernel, by decide +kernel, by decide +kernel⟩
theorem witness_stuck_ackreq : asking.held = false ∧ asking.life.life.running = true ∧ asking.line.state ≠ .stuck ∧
    asking.QueueLaw ∧ asking.line.sending ≠ none ∧ asking.onLineEntry = some ⟨.ackreq 0, true⟩ ∧
    (asking.ann.requests.get 0).map (fun r => (r.pending, r.sendAgain)) = some (.onLine, true) ∧
    ((after asking .lineStuck).ann.requests.get 0).map (fun r => (r.pending, r.sendAgain)) = some (.queued, false) := by
  refine ⟨by decide +kernel, by decide +kernel, by decide +kernel, ?_, by decide +kernel, by decide +kernel,
    by decide +kernel, by decide +kernel⟩
  constructor <;> decide +kernel

/-- TakeMovesTheOldestRecord: an empty journal, and a full one that has lost a record. -/
theorem witness_take : active.held = false ∧ active.committing = false ∧ active.journal.records = [] ∧
    (let s := active.onJournal (fun j => { j with
        records := List.replicate 32 ⟨.lineStuck, 7⟩, lost := 65535, overflowPending := true });
      s.journal.records = ⟨.lineStuck, 7⟩ :: List.replicate 31 ⟨.lineStuck, 7⟩ ∧ s.journal.overflowPending = true) := by
  decide +kernel

/-- TakeMovesTheOldestRecord: a window that holds no record and one that holds an OVERFLOW of the greatest count. -/
theorem witness_window : active.journal.window = none ∧
    (active.onJournal (fun j => { j with window := some ⟨.overflow 65535, 7⟩ })).journal.window =
      some ⟨.overflow 65535, 7⟩ ∧
    (⟨.overflow 65535, 7⟩ : Record).bytes = [0x11, 0xFF, 0xFF, 0xFF, 0, 0, 0, 7] := by decide +kernel

/-- A station whose ARG0 and ARG1 name a condition. -/
def arguments (s : State) (a0 a1 : Byte) : State := s.onPort (fun p => { p with arg0 := a0, arg1 := a1 })

/-- AckOneFollowsItsChecks: both bad arguments, own and peer conditions, a table with room and a full one. -/
theorem witness_ack_one : active.held = false ∧ active.life.life.running = true ∧
    32 ≤ (arguments active 32 0).port.arg0.toNat ∧ 8 ≤ (arguments active 0 8).port.arg1.toNat ∧
    (arguments active 31 7).port.arg0.toNat = (31 : Station).val ∧
    (arguments active 31 7).port.arg1.toNat = (7 : CondIx).val ∧
    (active.condEntry 9 7).state = .unused ∧ (active.condEntry 9 0).state = .normal ∧
    (active.condEntry 9 2).state = .alertUnack ∧ (9 : Station) = active.own ∧
    (active.pic.roster.get 31).presence = .notExpected ∧ (active.condEntry 4 0).quality = .good ∧
    (active.condEntry 4 0).state = .alertUnack ∧ (active.condEntry 4 7).state = .normal ∧
    active.requestFor 4 = none ∧ active.freePlace ≠ none ∧ sending.requestFor 4 ≠ none ∧
    (let s := active.onAnn (fun u => { u with
        requests := .build (fun i => some (.new (Fin.ofNat 32 (10 + i.val)) 1 (.fill 8 ⟨.alert, 0⟩))) });
      s.requestFor 4 = none ∧ s.freePlace = none) ∧
    ((after active (.absenceTimerExpiry 4)).condEntry 4 0).quality ≠ .good ∧
    (station .listening .window).life.life ≠ .active := by decide +kernel

/-- SimpleCommandsActAndAnswerOk: with a SILENCE entry held and without. -/
theorem witness_simple_commands : active.held = false ∧ active.life.life.running = true ∧ active.life.life = .active ∧
    (∀ e ∈ active.frame.queue, e.isSilence = false) ∧
    sending.frame.queue = [⟨.state true true, true⟩, ⟨.ackreq 0, false⟩] ++ ⟨.silence 0x3, false⟩ :: [] ∧
    (station .duplicate .window).life.life ≠ .active := by decide +kernel

/-- RefusedCommandsChangeThePortAlone: a check that runs, and LOADING and CONFIG_FAULT without one. -/
theorem witness_refused : (loading .supervisor .checking []).committing = true ∧
    (loading .supervisor .checking []).held = false ∧ (loading .memory .reading []).committing = false ∧
    (loading .memory .reading []).life.life = .loading ∧
    (let s := (loading .memory .idle []).onLife (fun l => { l with life := .configFault, fault := .badCrc });
      s.committing = false ∧ s.life.life = .configFault) ∧
    (Instr.unknownCommand 0x00).wf = true ∧ (Instr.unknownCommand 0x09).wf = true := by decide +kernel

/-- ReadsCaptureTheirUnit: the first and the last byte of a unit, a byte inside one, and a read in progress. -/
theorem witness_reads :
    let at' := fun n : BitVec 16 => active.onPort (fun p => { p with pointer := n })
    unitOf (at' 0x0000).port.pointer.toNat = some (0, 11) ∧ unitOf (at' 0x017C).port.pointer.toNat = some (0x17C, 4) ∧
      unitOf (at' 0x03FF).port.pointer.toNat = some (0x3FF, 1) ∧
      unitOf (at' 0x000A).port.pointer.toNat = some (0, 11) ∧ unitOf (at' 0x000B).port.pointer.toNat = none ∧
      (after (at' 0x0020) (.readCapture (.start 0x5A 3 true))).port.reading = true ∧
      5 ≤ (after (at' 0x0020) (.readCapture (.start 0x5A 3 true))).port.unsent.length ∧
      (after (at' 0x0020) (.readCapture (.start 0x5A 8 true))).port.unsent = [] ∧
      (after (at' 0x0020) (.readCapture (.start 0x5A 8 false))).port.reading = false ∧ active.port.reading = false ∧
      unitOf 0x0F = none ∧ unitOf 0x400 = none ∧ unitOf 0xFFF = none ∧ unitOf 0x1280 = none ∧ (0x5B : BitVec 7) ≠ 0x5A := by
  decide +kernel

/-- WritesReachTheWritableRegisters: a buffer that is writable, and the boundaries of the regions that are not. -/
theorem witness_writes : (loading .supervisor .idle []).held = false ∧ (loading .supervisor .idle []).BufferLaw ∧
    (639 : Fin 640).val + [(0xFF : Byte)].length ≤ 640 ∧ (0x00#8 ++ 0x0F#8 : BitVec 16).toNat < 0x10 ∧
    0x13 ≤ (0x00#8 ++ 0x13#8 : BitVec 16).toNat ∧ (0x0F#8 ++ 0xFF#8 : BitVec 16).toNat < 0x1000 ∧
    0x1280 ≤ (0x12#8 ++ 0x80#8 : BitVec 16).toNat ∧ (0x00 : BitVec 7) ≠ 0x5A := by
  unfold State.BufferLaw
  decide +kernel

/-- WritesReachTheWritableRegisters: data bytes that leave the pointer on each register, at the ends of the buffer and of
the regions that take no byte. -/
theorem witness_write_parts :
    let at' := fun (hi lo : Byte) (data : List Byte) =>
      (after active (.registerWrite 0x5A (hi :: lo :: data))).port.pointer.toNat
    at' 0x00 0x10 [] = 0x10 ∧ at' 0x00 0x10 [0x04] = 0x11 ∧ at' 0x00 0x10 [0x04, 0x00] = 0x12 ∧
      at' 0x00 0x11 [0x00, 0x03] = 0x13 ∧ at' 0x0F 0xFF [0x00] = 0x1000 ∧ at' 0x12 0x7E [0x00] = 0x127F ∧
      at' 0x12 0x7F [0x00] = 0x1280 ∧ at' 0xFF 0xFF [0x00] = 0x0000 ∧ at' 0x00 0x0F [] = 0x0F ∧
      at' 0x0F 0xFE [0x00] = 0x0FFF := by decide +kernel

/-- ReportLineEndStartsTheNextJob: a line with a job behind it, and lines on both sides of 96 characters. -/
theorem witness_report :
    let s := active.onReport (fun _ => ⟨[⟨0, .alert, 0, 1, 1000⟩], some [0x0D, 0x0A], 900⟩)
    s.held = false ∧ s.report.line = some [0x0D, 0x0A] ∧ s.report.jobs ≠ [] ∧
      parseTemplate (s.settings.templates.get 0) = some [.event] ∧ parseTemplate (s.settings.templates.get 1) = some [] ∧
      (([Piece.event].foldl (s.addPiece ⟨0, .alert, 0, 1, 1000⟩) []).length ≤ 96) ∧
      96 < ((List.replicate 13 (Piece.literal 0x09)).foldl (s.addPiece ⟨0, .alert, 0, 1, 1000⟩) []).length := by
  decide +kernel

/-- ReportLineEndStartsTheNextJob: a template that spells its pieces and one that spells none, characters that are no
tab, and TXD at rest, at a start bit, at both data bits, at a stop bit and after the last. -/
theorem witness_rendering : spells [.event] [0x40, 0x45] ∧ parseTemplate [0x40, 0x45] = some [.event] ∧
    parseTemplate [0x40] = none ∧ (0x08 : Byte) ≠ 0x09 ∧
    (let r : ReportUnit := ⟨[], some [0x0D, 0x0A], 0⟩;
      r.line = some ([0x0D] ++ 0x0A :: []) ∧ 10 * ([0x0D, 0x0A] : List Byte).length ≤ 20 ∧
        r.txdAt 10 = .active ∧ r.txdAt 11 = .active ∧ r.txdAt 12 = .idle ∧ r.txdAt 19 = .idle ∧ r.txdAt 20 = .idle) ∧
    active.report.line = none := by
  refine ⟨⟨by decide, fun p hp => ?_⟩, by decide, by decide, by decide, by decide, by decide +kernel⟩
  simp at hp; subst hp; trivial

/-- FramesAreReadAsSent: a frame of each kind that a station can send. -/
theorem witness_sendable : (Frame.mk 4 (.state stateFrame)).sendable ∧ (Frame.mk 4 (.silence 0xF)).sendable ∧
    (Frame.mk 4 (.ackreq 9 0x81 ((Tab.fill 8 ⟨.alert, 0⟩).set 7 ⟨.returned, 15⟩))).sendable := by
  refine ⟨?_, trivial, ?_⟩ <;> unfold Frame.sendable <;> decide +kernel

/-- FramesAreReadAsSent: a code at its greatest, eight entries, and bytes of no kind or of another kind's length. -/
theorem witness_frame_forms : { stateFrame with refreshCode := 4 }.refreshCode ≤ 4 ∧
    (List.replicate 8 (0xFF : Byte)).length = 8 ∧
    ∀ bytes ∈ [([0x00, 0x04, 0x00, 0x01] : List Byte), [0x04, 0x04, 0x00, 0x0D], [0x01, 0x04, 0x00, 0x0C],
      [0x02, 0x04, 0x00, 0x0D], [0x03, 0x04, 0x00, 0x02], []],
      ∀ k ∈ [((0x01 : Byte), (13 : Byte)), (0x02, 10), (0x03, 1)],
        ¬ (bytes.getD 0 0 = k.1 ∧ bytes.getD 3 0 = k.2) := by
  refine ⟨by decide, rfl, ?_⟩
  simp

/-- FramesAreReadAsSent: a request that is held. -/
theorem witness_payload : sending.ann.requests.get 0 = some (.new 4 0x01 (.fill 8 ⟨.alert, 3⟩)) := by decide +kernel

/-- JamIsAlwaysRecognised: before the first bit time, after the first and after the last, with 16 bit times and more. -/
theorem witness_jam : ∀ n ∈ [0, 1, 74], n ≤ (driveLevels silenceBytes).length ∧ ∀ k ∈ [16, 17, 40], 16 ≤ k := by
  decide +kernel

end Tests

end Sys2Proof
end

section
namespace Sys2Proof
namespace Machine

/-- While the RESET pin is held a command other than the resets acts as it does otherwise, or not at all (R140). -/
theorem effectHeld_of_not_resets {c : Instr} (hc : c.resets = false) (s : State) :
    effectHeld c s = s ∨ effectHeld c s = effectRunning c s := by
  cases c <;> first | exact .inl rfl | exact .inr rfl | cases hc

/-- A command other than the resets whose effect leaves the state as it is answers that state, held or not. -/
theorem exec_eq_self {c : Instr} {s : State} (hc : c.resets = false) (h : effectRunning c s = s) :
    exec c s = .next s := by
  rw [exec_eq_effect, effect]
  split
  · rcases effectHeld_of_not_resets hc s with hs | hs <;> simp [hs, h]
  · rw [h]

/-- Nothing changes from a state to itself. -/
theorem State.changesOnly_refl (l : List Block) (s : State) : s.changesOnly l s := by
  intro b _; cases b <;> rfl

/-- A level at the pins that changes while the RESET pin is held moves nothing but the pins (R140, log entry 4). -/
theorem inputLevel_changesOnly_of_held {s : State} (held : s.held = true) (n : PointIx) (active : Bool) :
    s.changesOnly [.pins] (s.inputLevel n active) := by
  by_cases same : s.pins.lines.get n = active
  · simpa [State.inputLevel, same] using s.changesOnly_refl _
  · intro b hb
    cases b <;> simp at hb <;> simp [Block.same, State.inputLevel, same, held]

/-- A level at a control input that changes while the RESET pin is held moves nothing but the pins. -/
theorem controlLevel_changesOnly_of_held {s : State} (held : s.held = true) (i : Control) (active : Bool) :
    s.changesOnly [.pins] (s.controlLevel i active) := by
  by_cases same : s.pins.control i = active
  · simpa [State.controlLevel, same] using s.changesOnly_refl _
  · intro b hb
    cases b <;> simp at hb <;> simp [Block.same, State.controlLevel, same, held]

/-- While the RESET pin is held no command but the resets changes anything but the levels at the pins (R140). -/
theorem effectHeld_changesOnly_pins {c : Instr} {s : State} (held : s.held = true) (hc : c.resets = false) :
    s.changesOnly [.pins] (effectHeld c s) := by
  cases c
  case inputLevelChange line active => exact inputLevel_changesOnly_of_held held line active
  case controlInputChange input active => exact controlLevel_changesOnly_of_held held input active
  case reset => cases hc
  case leaveReset => cases hc
  all_goals exact s.changesOnly_refl _

/-- The ends of a reception do nothing where none is under way. -/
theorem receptionEnds_eq_self {s : State} (h : ∀ rx, s.receiving rx = false) (levels : List Level) :
    s.frameEnd levels = s ∧ s.invalidReceptionEnd levels = s := by
  constructor
  · simp only [State.frameEnd, h]; split <;> simp
  · have : s.invalidEnd = s := by simp [State.invalidEnd, h]
    simp only [State.invalidReceptionEnd, this]; split <;> simp

/-- A jam end does nothing where no reception and no own jam is under way. -/
theorem jamEnd_eq_self {s : State} (h : ∀ rx, s.receiving rx = false)
    (hj : ¬ (s.life.life.running = true ∧ s.line.state = .jamming)) (levels : List Level) : s.jamEnd levels = s := by
  simp [State.jamEnd, hj, h]

/-- Settles O4: each command's guard, read off its meaning, fails where the statement says the event cannot occur. -/
theorem eventsThatCannotOccurChangeNothing : Obligations.EventsThatCannotOccurChangeNothing := by
  refine ⟨?_, ?_, ?_⟩
  · intro c s t held notReset h
    rw [exec_held c held] at h
    cases h
    exact effectHeld_changesOnly_pins held notReset
  · intro stn source s held
    exact exec_running _ held
  intro s
  have notReceiving : s.line.state ≠ .receiving → ∀ rx, s.receiving rx = false := by
    intro h rx; simp [State.receiving, h]
  have notRunning : s.life.life.running = false → ∀ rx, s.receiving rx = false := by
    intro h rx; simp [State.receiving, h]
  refine ⟨fun h => ⟨fun l => exec_eq_self rfl ?_, exec_eq_self rfl ?_⟩, fun h l => exec_eq_self rfl ?_,
    fun h => exec_eq_self rfl ?_, fun h => exec_eq_self rfl ?_, fun h => exec_eq_self rfl ?_,
    fun h => exec_eq_self rfl ?_, fun h => exec_eq_self rfl ?_, fun n h => exec_eq_self rfl ?_,
    fun k h => exec_eq_self rfl ?_, fun i h => exec_eq_self rfl ?_, fun n => exec_eq_self rfl ?_,
    fun i => exec_eq_self rfl ?_, fun c h => exec_eq_self rfl ?_, fun c h => exec_eq_self rfl ?_,
    fun h => exec_eq_self rfl ?_, fun c h => exec_eq_self rfl ?_, fun h => exec_eq_self rfl ?_,
    fun i h => exec_eq_self rfl ?_, fun st h => exec_eq_self rfl ?_, ?_, ?_, ?_, ?_, ?_, ?_, ?_, ?_⟩
  · simp [effectRunning, State.memoryRead, h]
  · simp [effectRunning, State.imageCheckEnd, h]
  · simp [effectRunning, State.memoryRead, h]
  · simp [effectRunning, State.imageCheckEnd, h]
  · simp [effectRunning, State.listenExpiry, h]
  · simp [effectRunning, State.withdrawExpiry, h]
  · simp [effectRunning, State.refreshExpiry, h]
  · simp [effectRunning, State.refreshExpiry, h]
  · simp [effectRunning, State.debounceExpiry, h]
  · simp [effectRunning, State.pairExpiry, h]
  · simp [effectRunning, State.controlExpiry, h]
  · simp [effectRunning, State.inputLevel]
  · simp [effectRunning, State.controlLevel]
  · simp [effectRunning, State.holdExpiry, h]
  · simp [effectRunning, State.releaseExpiry, h]
  · simp [effectRunning, State.evaluation, h]
  · simpa [effectRunning] using fun e he hc => absurd hc (h e he)
  · simp [effectRunning, State.latchClear, h]
  · cases hr : s.ann.requests.get i with
    | none => simp [effectRunning, State.retryExpiry, hr]
    | some r => simp [effectRunning, State.retryExpiry, hr, h r hr]
  · simp [effectRunning, State.absenceExpiry, h]
  · intro h
    refine ⟨exec_eq_self rfl ?_, fun l => exec_eq_self rfl ?_, fun l => exec_eq_self rfl ?_,
      fun hj l => exec_eq_self rfl ?_⟩
    · simp [effectRunning, State.startupWaitEnd, h]
    · exact (receptionEnds_eq_self (notReceiving h) l).1
    · exact (receptionEnds_eq_self (notReceiving h) l).2
    · exact jamEnd_eq_self (notReceiving h) (by simp [hj]) l
  · intro h
    exact ⟨exec_eq_self rfl (by simp [effectRunning, State.windowEnd, h]),
      fun k => exec_eq_self rfl (by simp [effectRunning, State.slotStart, h])⟩
  · intro k h
    exact exec_eq_self rfl (by simp [effectRunning, State.slotStart, Nat.not_le.2 h])
  · intro h
    have notSending : s.transmitting = false := by simp [State.transmitting, h]
    exact ⟨exec_eq_self rfl (by simp [effectRunning, State.transmissionComplete, notSending]),
      exec_eq_self rfl (by simp [effectRunning, State.ownFrameEnd, h]),
      fun n => exec_eq_self rfl (by simp [effectRunning, State.collision, notSending])⟩
  · intro h
    exact ⟨exec_eq_self rfl (by simp [effectRunning, State.lineStuck, h]),
      exec_eq_self rfl (by simp [effectRunning, State.receptionStart, h])⟩
  · intro h
    exact exec_eq_self rfl (by simp [effectRunning, State.lineReleased, h])
  · intro h
    exact exec_eq_self rfl (by simp [effectRunning, State.reportLineEnd, h])
  · intro h
    refine ⟨exec_eq_self rfl ?_, exec_eq_self rfl ?_, exec_eq_self rfl ?_, exec_eq_self rfl ?_, exec_eq_self rfl ?_,
      exec_eq_self rfl ?_, fun l => exec_eq_self rfl ?_, fun l => exec_eq_self rfl ?_, fun l => exec_eq_self rfl ?_,
      fun k => exec_eq_self rfl ?_⟩
    · simp [effectRunning, State.startupWaitEnd, h]
    · simp [effectRunning, State.receptionStart, h]
    · simp [effectRunning, State.windowEnd, h]
    · simp [effectRunning, State.ownFrameEnd, h]
    · simp [effectRunning, State.lineStuck, h]
    · simp [effectRunning, State.lineReleased, h]
    · exact (receptionEnds_eq_self (notRunning h) l).1
    · exact (receptionEnds_eq_self (notRunning h) l).2
    · exact jamEnd_eq_self (notRunning h) (by simp [h]) l
    · simp [effectRunning, State.slotStart, h]

/-- Settles O10: RESET answers `State.resetPart`, whose blocks are the literals of `State.reset`. -/
theorem resetGivesTheResetValues : Obligations.ResetGivesTheResetValues := by
  intro s
  have unchanged : s.changesOnly [.held, .clock, .settings, .life, .loader, .pic, .input, .cond, .ann, .frame, .line,
      .out, .journal, .port, .report] s.resetPart := by
    intro b hb
    cases b <;> simp at hb <;> rfl
  have control : ∀ i, s.resetPart.input.control i = ⟨false, none, none⟩ := by intro i; cases i <;> rfl
  refine ⟨s.resetPart, rfl, rfl, unchanged, ?_⟩
  simp [State.resetPart, State.reset, LifeControl.reset, Settings.empty, Loader.reset, Picture.reset,
    State.pointEntry, State.condEntry, PointUnit.reset, Debouncer.reset, CondUnit.reset, AnnUnit.reset,
    FrameUnit.reset, LineUnit.reset, LineUnit.drives, OutputUnit.reset, Journal.reset, Port.reset, ReportUnit.reset,
    State.txd, ReportUnit.txdAt, Memory.read]
  exact control
end Machine
end Sys2Proof
end

section
namespace Sys2Proof
namespace Machine

/-! ### The station's timers -/

/-- What an urgent STATE request makes of a queue without a STATE entry (Table 6-5). -/
theorem urgentRequest_of_no_state {q : List QEntry} (h : ∀ e ∈ q, e.isState = false) :
    urgentRequest q = q ++ [.urgentState] := by
  have : q.find? QEntry.isState = none := by simpa using h
  simp [urgentRequest, this]

/-- A routine STATE request adds an entry exactly where the queue holds no STATE entry (Table 6-5). -/
theorem routineRequest_eq (q : List QEntry) :
    routineRequest q = if q.any QEntry.isState then q else q ++ [.routineState] := by
  unfold routineRequest
  split
  · rename_i h
    rw [if_neg (by simpa using h)]
  · rename_i e h
    rw [if_pos (List.any_eq_true.2 ⟨e, List.mem_of_find?_eq_some h, List.find?_some h⟩)]

/-- A search passes over a part of the queue without a STATE entry. -/
theorem find_state_of_split {before after : List QEntry} {e : QEntry} (h : ∀ x ∈ before, x.isState = false)
    (he : e.isState = true) : (before ++ e :: after).find? QEntry.isState = some e := by
  have : before.find? QEntry.isState = none := by simpa using h
  simp [List.find?_append, this, he]

/-- What an urgent STATE request makes of a queue with one STATE entry, by how the entry stands (Table 6-5). -/
theorem urgentRequest_of_state {before after : List QEntry} (urgent changed onLine : Bool)
    (hb : ∀ e ∈ before, e.isState = false) (ha : ∀ e ∈ after, e.isState = false) :
    urgentRequest (before ++ ⟨.state urgent changed, onLine⟩ :: after) =
      if onLine then before ++ ⟨.state urgent true, true⟩ :: after
      else if urgent then before ++ ⟨.state urgent changed, onLine⟩ :: after
      else before ++ after ++ [.urgentState] := by
  have others : ∀ l : List QEntry, (∀ e ∈ l, e.isState = false) → l.filter (fun x => !x.isState) = l := by
    intro l h
    exact List.filter_eq_self.2 (fun e he => by simp [h e he])
  have isState : ∀ u c o, QEntry.isState ⟨.state u c, o⟩ = true := fun _ _ _ => rfl
  rw [urgentRequest, find_state_of_split hb rfl]
  cases onLine
  · cases urgent
    · simp [QEntry.urgent, others _ hb, others _ ha, isState]
    · simp [QEntry.urgent]
  · simp [changeFirst_split _ _ _ _ _ (isState urgent changed true) hb,
      QEntry.setChanged]

/-- The listen timer's expiry, up to the end of its event (R147). -/
theorem enterActive_effect (s : State) (due : Ms) :
    let u := (s.reachTime due).enterActive
    u.clock = (s.reachTime due).clock ∧
      u.life = { s.life with life := .active, listen := none, sfault := s.life.lineStuck } ∧
      u.frame = { s.frame with queue := urgentRequest s.frame.queue, refresh := some (u.after s.period) } ∧
      u.line = { s.line with blind := true } ∧ u.out = (s.reachTime due).out ∧
      s.changesOnly [.clock, .out, .life, .frame, .line] u := by
  refine ⟨by simp, ?_, ?_, ?_, by simp, ?_⟩
  · simp [State.enterActive, LifeControl.driveSfault]
  · simp [State.enterActive, State.requestUrgent_frame, Life.queues, State.period, State.after]
  · simp [State.enterActive]
  · intro b hb
    cases b <;> simp at hb <;> simp [Block.same]

/-- The withdraw timer's expiry, up to the end of its event (R151). -/
theorem enterListening_effect (s : State) (due : Ms) :
    let u := (s.reachTime due).enterListening
    u.clock = (s.reachTime due).clock ∧
      u.life = { s.life with
        life := .listening
        listen := some (u.after (2 * s.period))
        withdraw := none
        sfault := s.life.lineStuck } ∧
      u.line = { s.line with w := none } ∧ u.out = (s.reachTime due).out ∧
      s.changesOnly [.clock, .out, .life, .line] u := by
  refine ⟨by simp, ?_, ?_, by simp, ?_⟩
  · simp [State.enterListening, LifeControl.driveSfault, State.after, State.period]
  · simp [State.enterListening]
  · intro b hb
    cases b <;> simp at hb <;> simp [Block.same]

/-- Settles O30. -/
theorem stationTimersExpire : Obligations.StationTimersExpire := by
  refine ⟨?_, by decide, fun s ms => ⟨rfl, rfl⟩, fun l => by cases l <;> simp [Life.queues], ?_, ?_⟩
  · intro due s held
    refine ⟨fun life timer => ?_, fun life timer => ?_, fun life timer => ?_⟩
    · refine ⟨(s.reachTime due).enterActive, ?_, enterActive_effect s due⟩
      simp [exec_running _ held, effectRunning, State.listenExpiry, life, timer]
    · refine ⟨(s.reachTime due).enterListening, ?_, enterListening_effect s due⟩
      simp [exec_running _ held, effectRunning, State.withdrawExpiry, life, timer]
    · refine ⟨((s.reachTime due).onFrame (fun f => { f with refresh := none })).requestRoutine, ?_, by simp, ?_,
        by simp, ?_⟩
      · simp [exec_running _ held, effectRunning, State.refreshExpiry, life, timer]
      · simp [State.requestRoutine, life, Life.queues, routineRequest_eq, QEntry.routineState]
      · intro b hb
        cases b <;> simp at hb <;> simp [Block.same]
  · intro queue h
    exact ⟨urgentRequest_of_no_state h, by
      simp [routineRequest_eq, List.any_eq_false.2 (by simpa using h), QEntry.routineState]⟩
  · intro before after urgent changed onLine hb ha
    refine ⟨?_, urgentRequest_of_state urgent changed onLine hb ha⟩
    rw [routineRequest_eq, if_pos (by simp [QEntry.isState])]

/-! ### Debounce -/

/-- The points a line's accepted level is written to: its own, or both of its pair. -/
theorem acceptedChange_eq (s : State) (n : PointIx) (level : Bool) :
    let points := if s.settings.isPair (pairOf n) then [evenLine (pairOf n), oddLine (pairOf n)] else [n]
    let value := (s.settings.lines.get n).mode.value level
    points.Nodup ∧ s.acceptedChange n level =
      s.writeOwnPoints (points.map (fun p => (p, { s.pointEntry s.own p with value := value }))) := by
  have distinct : evenLine (pairOf n) ≠ oddLine (pairOf n) := by simp [evenLine, oddLine]
  simp only [State.acceptedChange]
  split <;> simp [distinct]

/-- A search for a point among points paired with their entries. -/
theorem find_point_pair (points : List PointIx) (entry : PointIx → PointEntry) (q : PointIx) :
    (points.map (fun p => (p, entry p))).find? (fun y => y.1 = q) = if q ∈ points then some (q, entry q) else none := by
  induction points with
  | nil => rfl
  | cons p points ih =>
    by_cases h : p = q
    · subst h; simp
    · simp [h, Ne.symm h, ih]

/-- A point entry whose value alone is written changes exactly where the value does. -/
theorem PointEntry.changed_by_value (e : PointEntry) (value : Bool) :
    (e != { e with value := value }) = (e.value != value) := by
  cases e; simp [bne]

/-- Settles O18. -/
theorem debounceExpiryWritesTheValue : Obligations.DebounceExpiryWritesTheValue := by
  refine ⟨?_, fun active => ⟨rfl, rfl, rfl, rfl⟩, fun set n => rfl⟩
  intro n level due s held candidate timer points value
  let m := (s.reachTime due).setLine n ⟨level, none, none⟩
  let entry := fun p => ({ s.pointEntry s.own p with value := value } : PointEntry)
  obtain ⟨nodup, accepted⟩ : points.Nodup ∧ m.acceptedChange n level =
      m.writeOwnPoints (points.map (fun p => (p, entry p))) := by
    simpa [m, points, entry, value, State.pointEntry, State.own] using acceptedChange_eq m n level
  obtain ⟨entries, notices, records, frame, -⟩ :=
    writeOwnPoints_effect m (points.map (fun p => (p, entry p))) (by simpa [Function.comp_def] using nodup)
  rw [← accepted] at entries notices records frame
  have own : m.own = s.own := by simp [m, State.own]
  have before : ∀ x p, m.pointEntry x p = s.pointEntry x p := by simp [m, State.pointEntry]
  have after : ∀ st p, (m.acceptedChange n level).pointEntry st p =
      if st = s.own ∧ p ∈ points then ⟨value, (s.pointEntry st p).quality⟩ else s.pointEntry st p := by
    intro st p
    rw [entries, find_point_pair, own, before]
    by_cases hp : p ∈ points
    · by_cases hs : st = s.own <;> simp [hp, hs, entry]
    · simp [hp]
  have same : ∀ b, b ∉ ([.clock, .out, .input, .pic, .cond, .frame, .journal] : List Block) →
      b.same s (m.acceptedChange n level) := by
    intro b hb
    cases b <;> simp at hb <;> simp [Block.same, m]
  refine ⟨m.acceptedChange n level, ?_, ?_, ?_, after, ?_, ?_, ?_, ?_, ?_, ?_, same, ?_⟩
  · simp [exec_running _ held, effectRunning, State.debounceExpiry, candidate, timer, Debouncer.expire, m]
  · simp [m]
  · simp [m, State.setLine]
  · simp [m]
  · simp [m]
  · simp [m]
  · have changed : ∀ p, ((s.pointEntry s.own p != entry p) = ((s.pointEntry s.own p).value != value)) :=
      fun p => PointEntry.changed_by_value _ value
    rw [notices, List.filter_map, List.map_map]
    simp only [Function.comp_def, own, before, changed]
    congr 1
    · simp [m]
    · refine List.map_congr_left (fun p hp => ?_)
      simp [after, entry, List.mem_of_mem_filter hp]
  · simpa [State.hands, m, own, Function.comp_def, entry] using records
  · simp [frame, m]
  · simp [m]
end Machine
end Sys2Proof
end

section
namespace Sys2Proof
namespace Machine

/-! ### What a fold over a row adds up to -/

/-- Folded steps that each append to a list, as long as what they read stays as it was, append in order. -/
theorem foldl_appends {α β γ : Type} {f : α → β → α} (g : α → List γ) (reads : α → Prop) (added : β → List γ)
    (h : ∀ a b, reads a → g (f a b) = g a ++ added b ∧ reads (f a b)) (l : List β) (a : α) (ha : reads a) :
    g (l.foldl f a) = g a ++ l.flatMap added := by
  induction l generalizing a with
  | nil => simp
  | cons b l ih =>
    obtain ⟨step, kept⟩ := h a b ha
    rw [List.foldl_cons, ih _ kept, step, List.flatMap_cons, List.append_assoc]

/-- One element from each index that meets a test. -/
theorem flatMap_if_eq_map_filter {β γ : Type} (test : β → Bool) (x : β → γ) (l : List β) :
    l.flatMap (fun b => if test b then [x b] else []) = (l.filter test).map x := by
  induction l with
  | nil => rfl
  | cons b l ih => cases h : test b <;> simp [h, ih]

/-- Folded steps that each hand records to the Journal hand them in order, as long as what they read stays as it was and
the count and ATTN's setting stand. -/
theorem foldl_hands {β : Type} {f : State → β → State} (reads : State → Prop) (handed : β → List RecordBody)
    (h : ∀ t b, reads t → t.hands (f t b) (handed b) ∧ reads (f t b)) (clock : ∀ t b, (f t b).clock = t.clock)
    (attn : ∀ t b, (f t b).settings = t.settings) (l : List β) (s : State) (hs : reads s) :
    s.hands (l.foldl f s) (l.flatMap handed) := by
  induction l generalizing s with
  | nil => exact s.hands_nil rfl
  | cons b l ih =>
    obtain ⟨step, kept⟩ := h s b hs
    rw [List.foldl_cons, List.flatMap_cons]
    refine State.hands_append step (ih _ kept) (foldl_keeps (fun t : State => t.clock) clock _ _) ?_
    exact congrArg Settings.attnEnabled (foldl_keeps (fun t : State => t.settings) attn _ _)

/-! ### Failing the request of a target (R87) -/

/-- The place of a target's entry is read from the request table alone. -/
theorem State.requestFor_congr {s t : State} (h : t.ann.requests = s.ann.requests) (st : Station) :
    t.requestFor st = s.requestFor st := by
  simp only [State.requestFor, h]

/-- The entry found for a target is one, and it is that target's. -/
theorem State.requestFor_some {s : State} {st : Station} {i : ReqIx} (h : s.requestFor st = some i) :
    ∃ r, s.ann.requests.get i = some r ∧ r.target = st := by
  have := List.find?_some h
  cases hr : s.ann.requests.get i with
  | none => simp [hr] at this
  | some r => exact ⟨r, rfl, by simpa [hr] using this⟩

/-- A target without an entry has none to fail. -/
theorem State.failTarget_of_none {s : State} {st : Station} (h : s.requestFor st = none) : s.failTarget st = s := by
  simp [State.failTarget, h]

/-- A target's entry fails with the record of its target and remaining mask. -/
theorem State.failTarget_of_some {s : State} {st : Station} {i : ReqIx} {r : Request} (h : s.requestFor st = some i)
    (hr : s.ann.requests.get i = some r) : s.failTarget st = (s.record (.ackFailed st r.mask)).freeRequest i := by
  obtain ⟨r', hr', target⟩ := s.requestFor_some h
  cases hr.symm.trans hr'
  simp [State.failTarget, h, State.failRequest, hr, target]

/-- An entry freed leaves the table, and its ACKREQ the queue (R110). -/
theorem State.freeRequest_effect (i : ReqIx) (s : State) :
    (s.freeRequest i).ann = { s.ann with requests := s.ann.requests.set i none } ∧
      (s.freeRequest i).frame = { s.frame with queue := s.frame.queue.filter (fun e => !e.isAckreq i) } := ⟨rfl, rfl⟩

/-! ### A row that becomes UNKNOWN (R16) -/

/-- The picture once a station is ABSENT: its row UNKNOWN with every value kept. -/
def Picture.absent (st : Station) (pic : Picture) : Picture :=
  { roster := pic.roster.set st { pic.roster.get st with presence := .absent, absence := none, restartSeen := false }
    points := pic.points.modify st (fun row => .build (fun p => { row.get p with quality := .unknown }))
    conds := pic.conds.modify st (fun row => .build (fun c => { row.get c with quality := .unknown })) }

/-- The notice of a point entry that differs from what it was. -/
def State.noticePointFrom (st : Station) (before : PointIx → PointEntry) (t : State) (p : PointIx) : State :=
  if before p = t.pointEntry st p then t else t.notice (.point st p (before p) (t.pointEntry st p))

/-- The notice of a condition entry that differs from what it was. -/
def State.noticeCondFrom (st : Station) (before : CondIx → CondEntry) (t : State) (c : CondIx) : State :=
  if before c = t.condEntry st c then t else t.noticeCond st c (before c) (t.condEntry st c)

/-- The station becomes ABSENT, up to the failing of its request. -/
def State.rowAbsent (st : Station) (s : State) : State :=
  let t := ((s.onPic (Picture.absent st)).record (.peerAbsent st)).notice
    (.presence st (s.pic.roster.get st).presence .absent)
  (indices 8).foldl (State.noticeCondFrom st (s.condEntry st))
    ((indices 16).foldl (State.noticePointFrom st (s.pointEntry st)) t)

/-- A peer's absence is the row's and then the request's. -/
theorem State.becomeAbsent_eq (st : Station) (s : State) : s.becomeAbsent st = (s.rowAbsent st).failTarget st := rfl

/-- An absent row keeps its values, and every other row stands. -/
theorem Picture.absent_entries (st : Station) (pic : Picture) :
    (∀ x p, ((pic.absent st).points.get x).get p =
      if x = st then { (pic.points.get x).get p with quality := .unknown } else (pic.points.get x).get p) ∧
    (∀ x c, ((pic.absent st).conds.get x).get c =
      if x = st then { (pic.conds.get x).get c with quality := .unknown } else (pic.conds.get x).get c) := by
  constructor <;> intro x k <;> simp only [Picture.absent, Tab.get_modify, eq_comm (a := st)] <;> split <;> simp

@[simp] theorem State.noticePointFrom_keeps (st : Station) (before : PointIx → PointEntry) (t : State) (p : PointIx) :
    (t.noticePointFrom st before p).pic = t.pic ∧ (t.noticePointFrom st before p).journal = t.journal ∧
    (t.noticePointFrom st before p).ann = t.ann ∧ (t.noticePointFrom st before p).frame = t.frame ∧
    (t.noticePointFrom st before p).cond.run = t.cond.run ∧ (t.noticePointFrom st before p).clock = t.clock ∧
    (t.noticePointFrom st before p).settings = t.settings ∧ (t.noticePointFrom st before p).life = t.life := by
  simp only [State.noticePointFrom]; split <;> simp

@[simp] theorem State.noticeCondFrom_keeps (st : Station) (before : CondIx → CondEntry) (t : State) (c : CondIx) :
    (t.noticeCondFrom st before c).pic = t.pic ∧ (t.noticeCondFrom st before c).journal = t.journal ∧
    (t.noticeCondFrom st before c).frame = t.frame ∧
    (t.noticeCondFrom st before c).cond.run = t.cond.run ∧ (t.noticeCondFrom st before c).clock = t.clock ∧
    (t.noticeCondFrom st before c).settings = t.settings ∧ (t.noticeCondFrom st before c).life = t.life := by
  simp only [State.noticeCondFrom]; split <;> simp

/-- An entry that becomes UNKNOWN calls for no clear of the silence latch. -/
theorem noticeCondFrom_ann_of_unknown {st : Station} {before : CondIx → CondEntry} {t : State} {c : CondIx}
    (h : (t.condEntry st c).quality = .unknown) : (t.noticeCondFrom st before c).ann = t.ann := by
  simp only [State.noticeCondFrom]
  split
  · rfl
  · simp [State.noticeCond, callsForClear, h, State.notice]

/-- The notices of the point entries of a row that becomes UNKNOWN. -/
theorem noticePointFrom_notices {st : Station} {s t : State} (h : t.pic = s.pic.absent st) (p : PointIx) :
    (t.noticePointFrom st (s.pointEntry st) p).cond.notices = t.cond.notices ++
      if (s.pointEntry st p).quality != .unknown
        then [.point st p (s.pointEntry st p) { s.pointEntry st p with quality := .unknown }] else [] := by
  have after : t.pointEntry st p = { s.pointEntry st p with quality := .unknown } := by
    simp [State.pointEntry, h, Picture.absent_entries]
  rw [State.noticePointFrom, after]
  cases he : s.pointEntry st p with
  | mk value quality => by_cases hq : quality = .unknown <;> simp [hq, State.notice]

/-- The notices of the condition entries of a row that becomes UNKNOWN. -/
theorem noticeCondFrom_notices {st : Station} {s t : State} (h : t.pic = s.pic.absent st) (c : CondIx) :
    (t.noticeCondFrom st (s.condEntry st) c).cond.notices = t.cond.notices ++
      if (s.condEntry st c).quality != .unknown
        then [.cond st c (s.condEntry st c) { s.condEntry st c with quality := .unknown }] else [] := by
  have after : t.condEntry st c = { s.condEntry st c with quality := .unknown } := by
    simp [State.condEntry, h, Picture.absent_entries]
  rw [State.noticeCondFrom, after]
  cases he : s.condEntry st c with
  | mk state truth gen quality => by_cases hq : quality = .unknown <;> simp [hq]

/-- A row that becomes UNKNOWN: the picture, PEER_ABSENT, and a notice of each of its entries that changes (R16, R18). -/
theorem rowAbsent_effect (st : Station) (s : State) :
    let u := s.rowAbsent st
    u.pic = s.pic.absent st ∧ u.cond.run = s.cond.run ∧ u.ann = s.ann ∧ u.frame = s.frame ∧
      s.hands u [.peerAbsent st] ∧
      u.cond.notices = s.cond.notices ++ .presence st (s.pic.roster.get st).presence .absent ::
        (((indices 16).filter (fun p => (s.pointEntry st p).quality != .unknown)).map
            (fun p => .point st p (s.pointEntry st p) { s.pointEntry st p with quality := .unknown }) ++
          ((indices 8).filter (fun c => (s.condEntry st c).quality != .unknown)).map
            (fun c => .cond st c (s.condEntry st c) { s.condEntry st c with quality := .unknown })) := by
  intro u
  set start := ((s.onPic (Picture.absent st)).record (.peerAbsent st)).notice
    (.presence st (s.pic.roster.get st).presence .absent) with hstart
  set mid := (indices 16).foldl (State.noticePointFrom st (s.pointEntry st)) start with hmid
  have hu : u = (indices 8).foldl (State.noticeCondFrom st (s.condEntry st)) mid := rfl
  have startPic : start.pic = s.pic.absent st := by simp [hstart]
  have records : s.hands start [.peerAbsent st] :=
    State.hands_of_journal (State.hands_record (s.onPic (Picture.absent st)) (.peerAbsent st)) (by simp [hstart])
      (by simp [hstart]) (by simp [hstart])
  have midKeeps := foldl_keeps
    (fun t : State => (t.pic, t.ann, t.frame, t.journal, t.cond.run, t.clock, t.settings))
    (fun t p => by simp) (indices 16) start (f := State.noticePointFrom st (s.pointEntry st))
  have endKeeps := foldl_keeps (fun t : State => (t.pic, t.frame, t.journal, t.cond.run, t.clock, t.settings))
    (fun t p => by simp) (indices 8) mid (f := State.noticeCondFrom st (s.condEntry st))
  simp only [Prod.mk.injEq, ← hmid] at midKeeps
  simp only [Prod.mk.injEq, ← hu] at endKeeps
  obtain ⟨midPic, midAnn, midFrame, midJournal, midRun, midClock, midSettings⟩ := midKeeps
  obtain ⟨endPic, endFrame, endJournal, endRun, endClock, endSettings⟩ := endKeeps
  have ann : u.pic = s.pic.absent st ∧ u.ann = s.ann := by
    rw [hu]
    refine List.foldlRecOn (motive := fun t : State => t.pic = s.pic.absent st ∧ t.ann = s.ann) _ _
      ⟨midPic.trans startPic, by simp [midAnn, hstart]⟩ ?_
    rintro t ⟨hpic, hann⟩ c -
    refine ⟨by simp [hpic], ?_⟩
    rw [noticeCondFrom_ann_of_unknown (by simp [State.condEntry, hpic, Picture.absent_entries]), hann]
  refine ⟨ann.1, by simp [endRun, midRun, hstart], ann.2, by simp [endFrame, midFrame, hstart], ?_, ?_⟩
  · exact State.hands_of_journal records (endJournal.trans midJournal) (endClock.trans midClock)
      (by rw [endSettings, midSettings])
  · rw [hu, foldl_appends (fun t : State => t.cond.notices) (fun t => t.pic = s.pic.absent st) _
        (fun t c h => ⟨noticeCondFrom_notices h c, by simp [h]⟩) _ _ (midPic.trans startPic),
      hmid, foldl_appends (fun t : State => t.cond.notices) (fun t => t.pic = s.pic.absent st) _
        (fun t p h => ⟨noticePointFrom_notices h p, by simp [h]⟩) _ _ startPic,
      flatMap_if_eq_map_filter, flatMap_if_eq_map_filter]
    simp [hstart, State.notice]

/-- Settles O31. -/
theorem absenceExpiryTurnsTheRowUnknown : Obligations.AbsenceExpiryTurnsTheRowUnknown := by
  intro st due s held present timer
  obtain ⟨m, hm⟩ : ∃ m, m = s.reachTime due := ⟨_, rfl⟩
  have keeps : m.pic = s.pic ∧ m.cond = s.cond ∧ m.ann = s.ann ∧ m.frame = s.frame ∧ m.journal = s.journal := by
    simp [hm]
  obtain ⟨pic, run, ann, frame, records, notices⟩ := rowAbsent_effect st m
  have points : ∀ x p, m.pointEntry x p = s.pointEntry x p := by simp [keeps, State.pointEntry]
  have conds : ∀ x c, m.condEntry x c = s.condEntry x c := by simp [keeps, State.condEntry]
  have pointsAfter : ∀ x p, (m.becomeAbsent st).pointEntry x p =
      if x = st then ⟨(s.pointEntry x p).value, .unknown⟩ else s.pointEntry x p := by
    intro x p
    rw [← points]
    simp [State.becomeAbsent_eq, State.pointEntry, pic, Picture.absent_entries]
  have condsAfter : ∀ x c, (m.becomeAbsent st).condEntry x c =
      if x = st then { s.condEntry x c with quality := .unknown } else s.condEntry x c := by
    intro x c
    rw [← conds]
    simp [State.becomeAbsent_eq, State.condEntry, pic, Picture.absent_entries]
  have requestFor : (m.rowAbsent st).requestFor st = s.requestFor st :=
    State.requestFor_congr (by rw [ann, keeps.2.2.1]) st
  refine ⟨m.becomeAbsent st, ?_, by simp [hm], ?_, pointsAfter, condsAfter, ?_, ?_, ?_, ?_, by simp [hm], ?_⟩
  · simp [exec_running _ held, effectRunning, State.absenceExpiry, present, timer, hm]
  · simp [State.becomeAbsent_eq, pic, Picture.absent, keeps]
  · simp [State.becomeAbsent_eq, run, keeps]
  · have cond : (m.becomeAbsent st).cond = (m.rowAbsent st).cond := by simp [State.becomeAbsent_eq]
    rw [cond, notices]
    simp [points, conds, pointsAfter, condsAfter, present, keeps]
  · intro none
    rw [State.becomeAbsent_eq, State.failTarget_of_none (requestFor.trans none), ann, frame]
    exact ⟨by simpa [State.hands, keeps] using records, by simp [keeps], by simp [keeps]⟩
  · intro i r some entry
    have entry' : (m.rowAbsent st).ann.requests.get i = .some r := by rw [ann]; simpa [keeps] using entry
    have failed := State.hands_append records
      (State.hands_record (m.rowAbsent st) (.ackFailed st r.mask)) (by simp) (by simp)
    rw [State.becomeAbsent_eq, State.failTarget_of_some (requestFor.trans some) entry']
    refine ⟨by simpa [State.hands, keeps, State.scopePasses] using failed, ?_, ?_⟩
    · simp [State.freeRequest_effect, ann, keeps]
    · simp [State.freeRequest_effect, frame, keeps]
  · intro b hb
    cases b <;> simp at hb <;> simp [Block.same, hm]
end Machine
end Sys2Proof
end

section
namespace Sys2Proof
namespace Machine

/-! ### A frame valid on the line reaches the Frame Unit (R100, R121) -/

/-- A frame that decodes bears the origin its bytes name. -/
theorem decodeFrame_origin {bytes : List Byte} {f : Frame} (h : decodeFrame bytes = some f) :
    f.origin = frameOrigin bytes := by
  simp only [decodeFrame] at h
  split at h
  · cases h; rfl
  split at h
  · cases h; rfl
  split at h
  · cases h; rfl
  · cases h

/-- A STATE that decodes carries a refresh code of 0–4 (R13, R196). -/
theorem decodeFrame_refreshCode {bytes : List Byte} {st : Station} {f : StateFrame}
    (h : decodeFrame bytes = some ⟨st, .state f⟩) : f.refreshCode ≤ 4 := by
  simp only [decodeFrame] at h
  split at h
  · cases h; exact Nat.min_le_left _ _
  split at h
  · cases h
  split at h <;> cases h

/-- The station as a valid frame end hands the frame to the Frame Unit: W the origin, not blind, a window begun. -/
def State.atFrameEnd (bytes : List Byte) (s : State) : State :=
  (s.onLine (fun l => { l with w := some (frameOrigin bytes), blind := false })).beginWindow

/-- A valid frame end changes the line alone before the frame is taken (R121). -/
@[simp] theorem State.atFrameEnd_keeps (bytes : List Byte) (s : State) :
    (s.atFrameEnd bytes).held = s.held ∧ (s.atFrameEnd bytes).clock = s.clock ∧ (s.atFrameEnd bytes).pins = s.pins ∧
    (s.atFrameEnd bytes).settings = s.settings ∧ (s.atFrameEnd bytes).life = s.life ∧
    (s.atFrameEnd bytes).loader = s.loader ∧ (s.atFrameEnd bytes).pic = s.pic ∧
    (s.atFrameEnd bytes).input = s.input ∧ (s.atFrameEnd bytes).cond = s.cond ∧ (s.atFrameEnd bytes).ann = s.ann ∧
    (s.atFrameEnd bytes).frame = s.frame ∧ (s.atFrameEnd bytes).out = s.out ∧
    (s.atFrameEnd bytes).journal = s.journal ∧ (s.atFrameEnd bytes).port = s.port ∧
    (s.atFrameEnd bytes).report = s.report ∧ (s.atFrameEnd bytes).pending = s.pending := by
  simp [State.atFrameEnd]

/-- FRAME_END where a frame is heard: the Frame Unit takes it, and the outputs follow (R121). -/
theorem exec_frameEnd_of_hears {s : State} {levels : List Level} {bytes : List Byte} (h : s.hears levels bytes) :
    exec (.frameEnd levels) s = .next ((s.atFrameEnd bytes).receiveFrame bytes).driveOutputs := by
  have receiving : s.receiving .frame = true := by simp [State.receiving, h.running, h.state, h.rx]
  simp [exec_running _ h.notHeld, effectRunning, State.frameEnd, h.read, h.valid, receiving, State.validEnd,
    State.atFrameEnd]

/-- What the Frame Unit does with a frame of another station, by its kind (R100). -/
theorem receiveFrame_eq {s : State} {bytes : List Byte} {st : Station} {p : Payload}
    (h : decodeFrame bytes = some ⟨st, p⟩) (other : st ≠ s.own) :
    s.receiveFrame bytes = match p with
      | .state f => s.takeState st f
      | .ackreq target mask pairs => (s.heard st).takeAckreq target mask pairs
      | .silence zones => (s.heard st).takeSilence zones := by
  have origin : frameOrigin bytes ≠ s.own := by rw [← decodeFrame_origin h]; exact other
  simp only [State.receiveFrame, h, Option.isNone_some, Bool.false_eq_true, if_false, if_neg origin]
  cases p <;> rfl

/-! ### Strangers (R9) -/

/-- Settles O35. -/
theorem strangerStateOnlySetsItsFlag : Obligations.StrangerStateOnlySetsItsFlag := by
  intro levels bytes st f s hears decoded other stranger
  obtain ⟨m, hm⟩ : ∃ m, m = s.atFrameEnd bytes := ⟨_, rfl⟩
  have keeps : m.pic = s.pic ∧ m.journal = s.journal ∧ m.own = s.own := by simp [hm, State.own]
  have taken : m.receiveFrame bytes = m.strangerState st := by
    rw [receiveFrame_eq decoded (by rwa [keeps.2.2])]
    simp [State.takeState, keeps, stranger]
  refine ⟨m.strangerState st, by rw [exec_frameEnd_of_hears hears, ← hm, taken], ?_, fun logged => ?_, fun logged => ?_⟩
  · intro b hb
    cases b <;> simp at hb <;> simp [Block.same, hm]
  · have handed := State.hands_record m (.stranger st)
    simp only [State.strangerState, keeps, logged]
    exact ⟨by simpa [State.hands, State.scopePasses, keeps] using handed, by simp [keeps, Picture.setRoster]⟩
  · simp [State.strangerState, keeps, logged]

/-! ### A row taken (R10 to R14, R18, R20) -/

/-- A number made of a table of bits holds each bit in its place. -/
theorem getLsbD_ofFn {n : Nat} (bits : Fin n → Bool) (k : Fin n) :
    ((BitVec.ofBoolListLE (List.ofFn bits)).setWidth n).getLsbD k.val = bits k := by
  rw [BitVec.getLsbD_setWidth, BitVec.getLsbD_ofBoolListLE]
  simp

/-- A mask of the conditions that meet a test holds the bit of each that does, and no other. -/
theorem getLsbD_maskWhere (test : CondIx → Bool) (c : CondIx) : (maskWhere test).getLsbD c.val = test c :=
  getLsbD_ofFn test c

/-- A row taken, up to the resolving of the request for its station. -/
def State.rowTaken (st : Station) (f : StateFrame) (s : State) : State :=
  let r := s.pic.roster.get st
  let t := s.onPic (Picture.takeRow st (s.rosterAfter r f) f)
  let t := match rosterRecord st r f with
    | some b => t.record b
    | none => t
  let t := if r.presence = .present then t else t.notice (.presence st r.presence .present)
  let t := (indices 16).foldl (fun t p => t.pointRewritten st p (s.pointEntry st p) (f.point p)) t
  (indices 8).foldl (fun t c => t.condRewritten st c (s.condEntry st c) (f.cond c)) t

/-- A STATE is taken as its row and then the request for its station. -/
theorem State.takeRow_eq (st : Station) (f : StateFrame) (s : State) :
    s.takeRow st f = (s.rowTaken st f).resolveRequest st f.first := rfl

/-- A row taken reads as its frame says, and every other row stands. -/
theorem Picture.takeRow_entries (st : Station) (r : RosterEntry) (f : StateFrame) (pic : Picture) :
    (∀ x p, ((pic.takeRow st r f).points.get x).get p = if x = st then f.point p else (pic.points.get x).get p) ∧
    (∀ x c, ((pic.takeRow st r f).conds.get x).get c = if x = st then f.cond c else (pic.conds.get x).get c) := by
  constructor <;> intro x k <;> simp only [Picture.takeRow, Tab.get_set, eq_comm (a := st)] <;> split <;> simp

/-- What a record made where a test holds hands to the journal, through the scope (R170). -/
theorem hands_record_if (t : State) (test : Bool) (b : RecordBody) :
    t.hands (if test then t.record b else t) ((if test then [b] else []).filter t.scopePasses) := by
  cases test
  · exact t.hands_nil rfl
  · have := t.hands_record b
    simpa [List.filter_cons] using this

/-- What one point of a row taken hands to the journal and to the Condition Unit (R18, R20). -/
theorem pointRewritten_effect (t : State) (st : Station) (p : PointIx) (before after : PointEntry) :
    t.hands (t.pointRewritten st p before after) ((if pointRecorded before after
      then [.pointChange st p after.value (after.quality == .fault)] else []).filter t.scopePasses) ∧
    (t.pointRewritten st p before after).cond.notices =
      t.cond.notices ++ if before != after then [.point st p before after] else [] := by
  have handed := hands_record_if t (pointRecorded before after) (.pointChange st p after.value (after.quality == .fault))
  obtain ⟨m, hm⟩ : ∃ m, m = if pointRecorded before after
      then t.record (.pointChange st p after.value (after.quality == .fault)) else t := ⟨_, rfl⟩
  have keeps : m.cond = t.cond := by rw [hm]; split <;> simp
  have rewritten : t.pointRewritten st p before after =
      if before = after then m else m.notice (.point st p before after) := by rw [hm]; rfl
  rw [← hm] at handed
  by_cases same : before = after
  · rw [rewritten, if_pos same]
    exact ⟨handed, by simp [keeps, same]⟩
  · rw [rewritten, if_neg same]
    exact ⟨State.hands_of_journal handed (by simp) (by simp) (by simp), by simp [State.notice, keeps, same]⟩

/-- An entry that does not change calls for no clear of the silence latch. -/
theorem callsForClear_self (e : CondEntry) : callsForClear e e = false := by
  simp +contextual [callsForClear]

/-- What one condition of a row taken hands to the journal, to the Condition Unit and to the latch (R18, R20, R95). -/
theorem condRewritten_effect (t : State) (st : Station) (c : CondIx) (before after : CondEntry) :
    t.hands (t.condRewritten st c before after) ((if condRecorded before after
      then [.condChange st c after.state after.gen] else []).filter t.scopePasses) ∧
    (t.condRewritten st c before after).cond.notices =
      t.cond.notices ++ (if before != after then [.cond st c before after] else []) ∧
    (t.condRewritten st c before after).ann.clears = t.ann.clears ++
      if t.settings.horn.contains ⟨st, c⟩ && callsForClear before after then [⟨st, c⟩] else [] := by
  have handed := hands_record_if t (condRecorded before after) (.condChange st c after.state after.gen)
  obtain ⟨m, hm⟩ : ∃ m, m = if condRecorded before after
      then t.record (.condChange st c after.state after.gen) else t := ⟨_, rfl⟩
  have keeps : m.cond = t.cond ∧ m.ann = t.ann ∧ m.settings = t.settings := by rw [hm]; split <;> simp
  have rewritten : t.condRewritten st c before after =
      if before = after then m else m.noticeCond st c before after := by rw [hm]; rfl
  rw [← hm] at handed
  by_cases same : before = after
  · rw [rewritten, if_pos same]
    exact ⟨handed, by simp [keeps, same], by simp [keeps, same, callsForClear_self]⟩
  · rw [rewritten, if_neg same]
    exact ⟨State.hands_of_journal handed (by simp) (by simp) (by simp), by simp [keeps, same], by simp [keeps]⟩

/-- Every scope passes the record a STATE makes for its origin's roster entry (Table 10-3). -/
theorem scopePasses_rosterRecord (s : State) {st : Station} {r : RosterEntry} {f : StateFrame} {b : RecordBody}
    (h : rosterRecord st r f = some b) : s.scopePasses b = true := by
  simp only [rosterRecord] at h
  repeat' split at h
  all_goals cases h
  all_goals rfl

/-- The points and conditions of a row taken, after its roster entry: the records, the notices and the clears of the
latch, in the order of the indices (R18, R20, R95). -/
theorem rowRewritten_effect (s t : State) (st : Station) (f : StateFrame) (scope : t.scopePasses = s.scopePasses)
    (settings : t.settings = s.settings) :
    let u := (indices 8).foldl (fun t c => t.condRewritten st c (s.condEntry st c) (f.cond c))
      ((indices 16).foldl (fun t p => t.pointRewritten st p (s.pointEntry st p) (f.point p)) t)
    t.hands u ((((indices 16).filter (fun p => pointRecorded (s.pointEntry st p) (f.point p))).map
          (fun p => RecordBody.pointChange st p (f.point p).value ((f.point p).quality == .fault)) ++
        ((indices 8).filter (fun c => condRecorded (s.condEntry st c) (f.cond c))).map
          (fun c => RecordBody.condChange st c (f.cond c).state (f.cond c).gen)).filter s.scopePasses) ∧
      u.cond.notices = t.cond.notices ++
        ((indices 16).filter (fun p => s.pointEntry st p != f.point p)).map
          (fun p => .point st p (s.pointEntry st p) (f.point p)) ++
        ((indices 8).filter (fun c => s.condEntry st c != f.cond c)).map
          (fun c => .cond st c (s.condEntry st c) (f.cond c)) ∧
      u.ann.clears = t.ann.clears ++ ((indices 8).filter (fun c => s.settings.horn.contains ⟨st, c⟩ &&
        callsForClear (s.condEntry st c) (f.cond c))).map (fun c => ⟨st, c⟩) ∧
      u.pic = t.pic ∧ u.ann.requests = t.ann.requests ∧ u.frame = t.frame ∧ u.clock = t.clock ∧
      u.settings = t.settings := by
  let reads := fun t : State => t.scopePasses = s.scopePasses ∧ t.settings = s.settings
  have pointReads : ∀ t p b a, reads t → reads (t.pointRewritten st p b a) := by
    rintro t p b a ⟨h1, h2⟩
    refine ⟨?_, by simp [h2]⟩
    rw [← h1]; funext x
    exact State.scopePasses_congr (by simp) (by simp) (by simp) x
  have condReads : ∀ t p b a, reads t → reads (t.condRewritten st p b a) := by
    rintro t p b a ⟨h1, h2⟩
    refine ⟨?_, by simp [h2]⟩
    rw [← h1]; funext x
    exact State.scopePasses_congr (by simp) (by simp) (by simp) x
  intro u
  set mid := (indices 16).foldl (fun t p => t.pointRewritten st p (s.pointEntry st p) (f.point p)) t with hmid
  have hu : u = (indices 8).foldl (fun t c => t.condRewritten st c (s.condEntry st c) (f.cond c)) mid := rfl
  have midKeeps := foldl_keeps (fun t : State => (t.pic, t.ann, t.frame, t.clock, t.settings))
    (f := fun t p => t.pointRewritten st p (s.pointEntry st p) (f.point p)) (fun t p => by simp) (indices 16) t
  have endKeeps := foldl_keeps (fun t : State => (t.pic, t.ann.requests, t.frame, t.clock, t.settings))
    (f := fun t c => t.condRewritten st c (s.condEntry st c) (f.cond c)) (fun t c => by simp) (indices 8) mid
  have midReads : reads mid := List.foldlRecOn (motive := reads) _ _ ⟨scope, settings⟩
    (fun t h p _ => pointReads t p _ _ h)
  simp only [Prod.mk.injEq, ← hmid] at midKeeps
  simp only [Prod.mk.injEq, ← hu] at endKeeps
  obtain ⟨midPic, midAnn, midFrame, midClock, midSettings⟩ := midKeeps
  obtain ⟨endPic, endRequests, endFrame, endClock, endSettings⟩ := endKeeps
  refine ⟨?_, ?_, ?_, by rw [endPic, midPic], by rw [endRequests, midAnn], by rw [endFrame, midFrame],
    by rw [endClock, midClock], by rw [endSettings, midSettings]⟩
  · have points := foldl_hands reads (f := fun t p => t.pointRewritten st p (s.pointEntry st p) (f.point p)) _
      (fun t p h => ⟨h.1 ▸ (pointRewritten_effect t st p (s.pointEntry st p) (f.point p)).1, pointReads t p _ _ h⟩)
      (by simp) (by simp) (indices 16) t ⟨scope, settings⟩
    have conds := foldl_hands reads (f := fun t c => t.condRewritten st c (s.condEntry st c) (f.cond c)) _
      (fun t c h => ⟨h.1 ▸ (condRewritten_effect t st c (s.condEntry st c) (f.cond c)).1, condReads t c _ _ h⟩)
      (by simp) (by simp) (indices 8) mid midReads
    rw [← List.filter_flatMap, flatMap_if_eq_map_filter] at points conds
    rw [List.filter_append]
    exact State.hands_append points conds endClock (congrArg Settings.attnEnabled endSettings)
  · have points := foldl_appends (fun t : State => t.cond.notices) reads _
      (fun t p h => ⟨(pointRewritten_effect t st p (s.pointEntry st p) (f.point p)).2, pointReads t p _ _ h⟩)
      (indices 16) t ⟨scope, settings⟩
    have conds := foldl_appends (fun t : State => t.cond.notices) reads _
      (fun t c h => ⟨(condRewritten_effect t st c (s.condEntry st c) (f.cond c)).2.1, condReads t c _ _ h⟩)
      (indices 8) mid midReads
    rw [flatMap_if_eq_map_filter] at points conds
    rw [hu, conds, hmid, points]
  · have clears := foldl_appends (fun t : State => t.ann.clears) reads _
      (fun t c h => ⟨h.2 ▸ (condRewritten_effect t st c (s.condEntry st c) (f.cond c)).2.2, condReads t c _ _ h⟩)
      (indices 8) mid midReads
    rw [hu, clears, flatMap_if_eq_map_filter, midAnn]

/-- What a row taken does before its points and conditions are gone through: the picture, the record of the roster entry
and the notice of the presence item (R10 to R12, R18). -/
def State.rosterTaken (st : Station) (f : StateFrame) (s : State) : State :=
  let r := s.pic.roster.get st
  let t := s.onPic (Picture.takeRow st (s.rosterAfter r f) f)
  let t := match rosterRecord st r f with
    | some b => t.record b
    | none => t
  if r.presence = .present then t else t.notice (.presence st r.presence .present)

/-- The roster entry of a row taken: its record and its notice. -/
theorem rosterTaken_effect (st : Station) (f : StateFrame) (s : State) :
    let old := s.pic.roster.get st
    let u := s.rosterTaken st f
    u.pic = s.pic.takeRow st (s.rosterAfter old f) f ∧ s.hands u (rosterRecord st old f).toList ∧
      u.cond.notices = s.cond.notices ++
        (if old.presence = .present then [] else [.presence st old.presence .present]) ∧
      u.ann = s.ann ∧ u.frame = s.frame ∧ u.clock = s.clock ∧ u.settings = s.settings ∧ u.life = s.life := by
  intro old u
  obtain ⟨m, hm⟩ : ∃ m, m = match rosterRecord st old f with
    | some b => (s.onPic (Picture.takeRow st (s.rosterAfter old f) f)).record b
    | none => s.onPic (Picture.takeRow st (s.rosterAfter old f) f) := ⟨_, rfl⟩
  have records : s.hands m (rosterRecord st old f).toList := by
    cases hr : rosterRecord st old f with
    | none => rw [hm, hr]; exact s.hands_nil rfl
    | some b =>
      have handed := (s.onPic (Picture.takeRow st (s.rosterAfter old f) f)).hands_record b
      rw [if_pos (scopePasses_rosterRecord _ hr)] at handed
      rw [hm, hr]
      exact handed
  have keeps : m.pic = s.pic.takeRow st (s.rosterAfter old f) f ∧ m.cond = s.cond ∧ m.ann = s.ann ∧
      m.frame = s.frame ∧ m.clock = s.clock ∧ m.settings = s.settings ∧ m.life = s.life := by
    rw [hm]; split <;> simp
  have hu : u = if old.presence = .present then m else m.notice (.presence st old.presence .present) := by
    rw [hm]; rfl
  rw [hu]
  split
  · exact ⟨keeps.1, records, by simp [keeps], by simp [keeps]⟩
  · exact ⟨by simp [keeps], State.hands_of_journal records (by simp) (by simp) (by simp),
      by simp [State.notice, keeps], by simp [keeps]⟩

/-- A row taken, up to the resolving of the request for its station (R10 to R14, R18, R20). -/
theorem rowTaken_effect (st : Station) (f : StateFrame) (s : State) :
    let old := s.pic.roster.get st
    let u := s.rowTaken st f
    u.pic = s.pic.takeRow st (s.rosterAfter old f) f ∧
      s.hands u (((rosterRecord st old f).toList ++
        ((indices 16).filter (fun p => pointRecorded (s.pointEntry st p) (f.point p))).map
          (fun p => RecordBody.pointChange st p (f.point p).value ((f.point p).quality == .fault)) ++
        ((indices 8).filter (fun c => condRecorded (s.condEntry st c) (f.cond c))).map
          (fun c => RecordBody.condChange st c (f.cond c).state (f.cond c).gen)).filter s.scopePasses) ∧
      u.cond.notices = s.cond.notices ++
        (if old.presence = .present then [] else [.presence st old.presence .present]) ++
        ((indices 16).filter (fun p => s.pointEntry st p != f.point p)).map
          (fun p => .point st p (s.pointEntry st p) (f.point p)) ++
        ((indices 8).filter (fun c => s.condEntry st c != f.cond c)).map
          (fun c => .cond st c (s.condEntry st c) (f.cond c)) ∧
      u.ann.clears = s.ann.clears ++ ((indices 8).filter (fun c => s.settings.horn.contains ⟨st, c⟩ &&
        callsForClear (s.condEntry st c) (f.cond c))).map (fun c => ⟨st, c⟩) ∧
      u.ann.requests = s.ann.requests ∧ u.frame = s.frame := by
  intro old u
  obtain ⟨pic, records, notices, ann, frame, clock, settings, life⟩ := rosterTaken_effect st f s
  have scope : (s.rosterTaken st f).scopePasses = s.scopePasses := by
    funext b
    exact State.scopePasses_congr settings (congrArg _ life) (congrArg _ ann) b
  obtain ⟨rowRecords, rowNotices, rowClears, rowPic, rowRequests, rowFrame, rowClock, rowSettings⟩ :=
    rowRewritten_effect s (s.rosterTaken st f) st f scope settings
  have first : (rosterRecord st old f).toList.filter s.scopePasses = (rosterRecord st old f).toList := by
    rw [List.filter_eq_self]
    intro b hb
    exact scopePasses_rosterRecord s (Option.mem_toList.1 hb)
  refine ⟨rowPic.trans pic, ?_, ?_, ?_, ?_, rowFrame.trans frame⟩
  · rw [List.append_assoc, List.filter_append, first]
    exact State.hands_append records rowRecords rowClock (congrArg _ rowSettings)
  · exact rowNotices.trans (by rw [notices])
  · exact rowClears.trans (by rw [ann])
  · exact rowRequests.trans (by rw [ann])

/-- The conditions of a request that still show what it asked for, once a STATE of its target is taken (R86). -/
def stillAsked (r : Request) (first : Bool) (row : CondIx → CondEntry) : BitVec 8 :=
  if first then 0 else maskWhere (fun c => r.mask.getLsbD c.val && (r.pairs.get c).shown (row c))

/-- A condition is still asked for where the frame is no FIRST, the request masks it and its entry shows the pair. -/
theorem getLsbD_stillAsked (r : Request) (first : Bool) (row : CondIx → CondEntry) (c : CondIx) :
    (stillAsked r first row).getLsbD c.val = true ↔ first = false ∧ r.mask.getLsbD c.val = true ∧
      (r.pairs.get c).gen = (row c).gen ∧ (((r.pairs.get c).phase = .alert ∧ (row c).state = .alertUnack) ∨
        ((r.pairs.get c).phase = .returned ∧ (row c).state = .returnUnack)) := by
  cases first
  · rw [stillAsked, if_neg Bool.false_ne_true, getLsbD_maskWhere]
    cases h : (r.pairs.get c).phase <;> simp [AckPair.shown, h, eq_comm (a := (r.pairs.get c).gen)] <;>
      exact fun _ => and_comm
  · simp [stillAsked]

/-- A station without a request has none to resolve. -/
theorem resolveRequest_of_none {s : State} {st : Station} (first : Bool) (h : s.requestFor st = none) :
    s.resolveRequest st first = s := by
  simp [State.resolveRequest, h]

/-- A station's request keeps the conditions still asked for, and is freed with none (R86). -/
theorem resolveRequest_of_some {s : State} {st : Station} {i : ReqIx} {r : Request} (first : Bool)
    (h : s.requestFor st = some i) (hr : s.ann.requests.get i = some r) :
    s.resolveRequest st first = if stillAsked r first (s.condEntry st) = 0 then s.freeRequest i
      else s.setRequest i (some { r with mask := stillAsked r first (s.condEntry st) }) := by
  simp only [State.resolveRequest, h, hr]
  rfl

/-- The record of an expected peer's roster entry, as Section 1.4 lists it (R10 to R12). -/
theorem rosterRecord_toList {st : Station} {r : RosterEntry} (f : StateFrame)
    (h : r.presence = .unheard ∨ r.presence = .present ∨ r.presence = .absent) :
    (rosterRecord st r f).toList = if r.presence = .present then
        if f.first then (if r.restartSeen then [] else [.peerRestart st])
        else match r.lastSeq with
          | some last => if f.seq = last + 1 then [] else [.seqGap st (f.seq - last - 1)]
          | none => []
      else [.peerPresent st] := by
  rcases h with h | h | h <;> simp only [rosterRecord, h]
  · rfl
  · simp only [if_true]
    split
    · split <;> rfl
    · cases r.lastSeq with
      | none => rfl
      | some last => simp only; split <;> rfl
  · rfl

/-- The roster entry a STATE of an expected peer leaves (R10 to R13, R15). -/
theorem rosterAfter_eq {s : State} {r : RosterEntry} {f : StateFrame} (code : f.refreshCode ≤ 4)
    (h : r.presence = .unheard ∨ r.presence = .present ∨ r.presence = .absent) :
    s.rosterAfter r f =
      { presence := .present
        lastSeq := some f.seq
        refreshCode := some f.refreshCode
        absence := some (s.after (3 * periodMs f.refreshCode))
        restartSeen := if r.presence = .present then f.first else r.restartSeen
        strangerLogged := r.strangerLogged } := by
  rcases h with h | h | h <;> simp [State.rosterAfter, h, Nat.min_eq_right code, absenceMs]

/-- A STATE of an expected peer is taken as a row. -/
theorem takeState_of_expected {s : State} {st : Station} (f : StateFrame)
    (h : (s.pic.roster.get st).presence = .unheard ∨ (s.pic.roster.get st).presence = .present ∨
      (s.pic.roster.get st).presence = .absent) : s.takeState st f = s.takeRow st f := by
  rcases h with h | h | h <;> simp [State.takeState, h]

/-- Settles O34. -/
theorem stateFromPeerRewritesItsRow : Obligations.StateFromPeerRewritesItsRow := by
  intro levels bytes st f s hears decoded other old point cond first points conds expected
  obtain ⟨m, hm⟩ : ∃ m, m = s.atFrameEnd bytes := ⟨_, rfl⟩
  have keeps : m.pic = s.pic ∧ m.journal = s.journal ∧ m.cond = s.cond ∧ m.ann = s.ann ∧ m.frame = s.frame ∧
      m.own = s.own ∧ m.clock = s.clock ∧ m.settings = s.settings := by simp [hm, State.own]
  obtain ⟨mPic, mJournal, mCond, mAnn, mFrame, mOwn, mClock, mSettings⟩ := keeps
  have mPoint : m.pointEntry = s.pointEntry := by funext x p; simp [State.pointEntry, mPic]
  have mCondEntry : m.condEntry = s.condEntry := by funext x c; simp [State.condEntry, mPic]
  have mScope : m.scopePasses = s.scopePasses := by
    funext b; exact State.scopePasses_congr mSettings mOwn (congrArg _ mAnn) b
  have mOld : m.pic.roster.get st = old := by rw [mPic]
  have code := decodeFrame_refreshCode decoded
  have taken : m.receiveFrame bytes = (m.rowTaken st f).resolveRequest st f.first := by
    rw [receiveFrame_eq decoded (by rwa [mOwn]), ← State.takeRow_eq]
    exact takeState_of_expected f (by rwa [mOld])
  obtain ⟨pic, records, notices, clears, requests, frame⟩ := rowTaken_effect st f m
  rw [mOld, rosterAfter_eq code expected] at pic
  rw [mOld, rosterRecord_toList f expected, mPoint, mCondEntry, mScope] at records
  rw [mOld, mPoint, mCondEntry, mCond] at notices
  rw [mCondEntry, mAnn, mSettings] at clears
  have requestFor : (m.rowTaken st f).requestFor st = s.requestFor st :=
    State.requestFor_congr (by rw [requests, mAnn]) st
  obtain ⟨u, hu⟩ : ∃ u, u = (m.rowTaken st f).resolveRequest st f.first := ⟨_, rfl⟩
  have uKeeps : u.pic = (m.rowTaken st f).pic ∧ u.cond = (m.rowTaken st f).cond ∧
      u.journal = (m.rowTaken st f).journal ∧ u.ann.clears = (m.rowTaken st f).ann.clears := by simp [hu]
  obtain ⟨uPic, uCond, uJournal, uClears⟩ := uKeeps
  have row : u = m.takeRow st f := hu.trans (State.takeRow_eq st f m).symm
  have rowEntry : (m.rowTaken st f).condEntry st = cond := by
    funext c
    simp only [State.condEntry, pic, Picture.takeRow_entries, if_true]
    rfl
  refine ⟨u, by rw [exec_frameEnd_of_hears hears, ← hm, taken, hu], ?_, ?_, ?_, ?_, ?_, ?_, ?_, ?_, ?_, ?_, ?_, ?_, ?_⟩
  · rw [uPic, pic, mPic]
    simp [Picture.takeRow, State.after, mClock, old]
  · intro x p
    simp only [State.pointEntry, uPic, pic, mPic, Picture.takeRow_entries]
    rfl
  · intro x c
    simp only [State.condEntry, uPic, pic, mPic, Picture.takeRow_entries]
    rfl
  · simp [row, hm]
  · rw [uCond, notices]
    rfl
  · have clock : u.clock = (m.rowTaken st f).clock := by simp [hu]
    have settings : u.settings = (m.rowTaken st f).settings := by simp [hu]
    have handed := State.hands_of_journal records uJournal clock (congrArg _ settings)
    simp only [State.hands, mJournal] at handed
    exact handed
  · intro none
    rw [hu, resolveRequest_of_none f.first (requestFor.trans none)]
    exact ⟨by rw [requests, mAnn], by rw [frame, mFrame]⟩
  · intro i r some entry
    have entry' : (m.rowTaken st f).ann.requests.get i = .some r := by rw [requests, mAnn]; exact entry
    rw [hu, resolveRequest_of_some f.first (requestFor.trans some) entry', rowEntry]
    refine ⟨stillAsked r f.first cond, getLsbD_stillAsked r f.first cond, fun empty => ?_, fun left => ?_⟩
    · rw [if_pos empty]
      simp [State.freeRequest_effect, requests, frame, mAnn, mFrame]
    · rw [if_neg left]
      exact ⟨by simp [State.setRequest, requests, mAnn], by simp [frame, mFrame]⟩
  · rw [uClears, clears]
    simp [callsForClear, StateFrame.cond, cond, Bool.and_assoc]
  · simp [row, hm]
  · simp [row, hm]
  · simp [row, hm]
  · intro b hb
    cases b <;> simp at hb <;> simp [Block.same, row, hm]
end Machine
end Sys2Proof
end

section
namespace Sys2Proof
namespace Machine

/-! ### Acknowledgements (R61, R63 to R65) -/

/-- No acknowledgement leads into ALERT_UNACK, so none advances a generation (R59, Tables 4-2 to 4-4). -/
theorem nextByAck_ne_alert {k : AnnClass} {a new : AnnState} {truth : Bool} (h : nextByAck k a truth = some new) :
    new ≠ .alertUnack := by
  rintro rfl
  cases k <;> cases a <;> cases truth <;> simp [nextByAck] at h

/-- What an acknowledgement makes of an own condition's entry, by the table `applyAck` looks its move up in. -/
theorem acknowledged_eq (s : State) (c : CondIx) (a : AckPair) :
    s.acknowledged c a = if a.shown (s.ownCond c) then
      match nextByAck (s.classOfCond c) (s.ownCond c).state (s.ann.seqTruth.get c) with
      | none => s.ownCond c
      | some new => { s.ownCond c with state := new }
    else s.ownCond c := by
  obtain ⟨phase, gen⟩ := a
  simp only [State.acknowledged, State.classOfCond, AckPair.shown]
  generalize s.ownCond c = e, (s.settings.conds.get c).annClass = k, s.ann.seqTruth.get c = truth
  obtain ⟨state, entryTruth, entryGen, quality⟩ := e
  by_cases hg : entryGen = gen
  · subst hg
    cases k <;> cases state <;> cases phase <;> simp [nextByAck]
  · simp [hg]

/-- An acknowledgement that matches an entry its class moves is a change of the entry's state, and any other leaves the
station as it is (R61). -/
theorem applyAck_cases (s : State) (c : CondIx) (a : AckPair) :
    (s.applyAck c a = s ∧ s.acknowledged c a = s.ownCond c) ∨
    ∃ new, new ≠ .alertUnack ∧ s.applyAck c a = s.annChange c new ∧
      s.acknowledged c a = { s.ownCond c with state := new } := by
  rw [acknowledged_eq, State.applyAck]
  by_cases shown : a.shown (s.ownCond c) = true
  · simp only [shown, if_true]
    cases h : nextByAck (s.classOfCond c) (s.ownCond c).state (s.ann.seqTruth.get c) with
    | none => exact .inl ⟨rfl, rfl⟩
    | some new => exact .inr ⟨new, nextByAck_ne_alert h, rfl, rfl⟩
  · exact .inl ⟨by rw [if_neg shown], by rw [if_neg shown]⟩

/-- An acknowledgement writes its own condition's entry, as its class table says, and no other (R61). -/
theorem applyAck_condEntry (s : State) (c : CondIx) (a : AckPair) (x : Station) (k : CondIx) :
    (s.applyAck c a).condEntry x k = if x = s.own ∧ k = c then s.acknowledged c a else s.condEntry x k := by
  rcases applyAck_cases s c a with ⟨applied, result⟩ | ⟨new, hnew, applied, result⟩ <;> rw [applied, result]
  · split
    · rename_i h; rw [h.1, h.2]; rfl
    · rfl
  · rw [(annChange_effect s c new).1]
    simp [genAfter, hnew]

/-- An acknowledgement asks for an urgent STATE or leaves the queue (R68, R104). -/
theorem applyAck_frame (s : State) (c : CondIx) (a : AckPair) :
    (s.applyAck c a).frame = s.frame ∨ (s.applyAck c a).frame =
      { s.frame with queue := if s.life.life.queues then urgentRequest s.frame.queue else s.frame.queue } := by
  rcases applyAck_cases s c a with ⟨applied, -⟩ | ⟨new, -, applied, -⟩ <;> rw [applied]
  · exact .inl rfl
  · exact .inr (annChange_effect s c new).2.2.1

/-- What an acknowledgement of a condition comes to depends on that condition's entry and its sequence truth. -/
theorem acknowledged_congr {s t : State} {c : CondIx} (a : AckPair) (entry : t.ownCond c = s.ownCond c)
    (seq : t.ann.seqTruth = s.ann.seqTruth) (set : t.settings = s.settings) :
    t.acknowledged c a = s.acknowledged c a := by
  simp only [State.acknowledged, entry, seq, set]

/-- The acknowledgements of an ACKREQ, one per condition of a list that its mask holds. -/
def State.ackMasked (mask : BitVec 8) (pairs : Tab 8 AckPair) (l : List CondIx) (s : State) : State :=
  l.foldl (fun t c => if mask.getLsbD c.val then t.applyAck c (pairs.get c) else t) s

/-- An ACKREQ of the station's own in ACTIVE is its acknowledgements and an urgent STATE request (R90). -/
theorem takeAckreq_eq (target : Station) (mask : BitVec 8) (pairs : Tab 8 AckPair) (s : State) :
    s.takeAckreq target mask pairs =
      if target = s.own ∧ s.life.life = .active then (s.ackMasked mask pairs (indices 8)).requestUrgent else s := rfl

/-- The acknowledgements of a mask are those of the conditions it holds, in their order. -/
theorem ackMasked_eq_answersAll (mask : BitVec 8) (pairs : Tab 8 AckPair) (l : List CondIx) (s : State) :
    s.ackMasked mask pairs l = s.answersAll ((l.filter (fun c => mask.getLsbD c.val)).map (fun c => (c, pairs.get c))) := by
  rw [State.answersAll, List.foldl_map, List.foldl_filter]
  rfl

/-- Acknowledgements of different conditions each write their own entry, from what it was before them all. -/
theorem ackMasked_condEntry (mask : BitVec 8) (pairs : Tab 8 AckPair) {l : List CondIx} (distinct : l.Nodup)
    (s : State) (x : Station) (k : CondIx) :
    (s.ackMasked mask pairs l).condEntry x k = if x = s.own ∧ k ∈ l ∧ mask.getLsbD k.val = true
      then s.acknowledged k (pairs.get k) else s.condEntry x k := by
  induction l generalizing s with
  | nil => simp [State.ackMasked]
  | cons c l ih =>
    obtain ⟨notIn, distinct⟩ := List.nodup_cons.1 distinct
    have cons : s.ackMasked mask pairs (c :: l) =
        (if mask.getLsbD c.val then s.applyAck c (pairs.get c) else s).ackMasked mask pairs l := rfl
    rw [cons]
    by_cases masked : mask.getLsbD c.val = true
    · have own : (s.applyAck c (pairs.get c)).own = s.own := by simp [State.own]
      rw [if_pos masked, ih distinct, applyAck_condEntry, own]
      by_cases hk : k = c
      · subst hk
        simp only [notIn, masked, List.mem_cons, true_or, and_false, and_true, if_false]
      · have kept : (s.applyAck c (pairs.get c)).ownCond k = s.ownCond k := by
          rw [State.ownCond, own, applyAck_condEntry, if_neg (by simp [hk])]
          rfl
        rw [acknowledged_congr _ kept (by simp) (by simp)]
        simp only [List.mem_cons, hk, false_or, and_false, if_false]
    · rw [if_neg masked, ih distinct]
      by_cases hk : k = c
      · subst hk
        simp only [notIn, masked, Bool.false_eq_true, and_false, if_false]
      · simp only [List.mem_cons, hk, false_or]

/-- An urgent STATE asked for twice is asked for once (Table 6-5). -/
theorem urgentRequest_idem (q : List QEntry) : urgentRequest (urgentRequest q) = urgentRequest q := by
  have again : ∀ l : List QEntry, (∀ e ∈ l, e.isState = false) →
      urgentRequest (l ++ [.urgentState]) = l ++ [.urgentState] := by
    intro l h
    simpa [QEntry.urgentState] using urgentRequest_of_state true false false h (after := []) (by simp)
  by_cases held : ∃ e ∈ q, e.isState = true
  · obtain ⟨before, e, after, split, isState, notBefore, found⟩ := find_split _ q held
    obtain ⟨kind, onLine⟩ := e
    obtain ⟨urgent, changed, rfl⟩ : ∃ u c, kind = .state u c := by
      cases kind <;> simp [QEntry.isState] at isState ⊢
    have marked : changeFirst QEntry.isState (QEntry.setChanged true)
        (before ++ ⟨.state urgent changed, onLine⟩ :: after) =
        before ++ ⟨.state urgent true, onLine⟩ :: after := changeFirst_split _ _ _ _ _ rfl notBefore
    have markedAgain : changeFirst QEntry.isState (QEntry.setChanged true)
        (before ++ ⟨.state urgent true, onLine⟩ :: after) =
        before ++ ⟨.state urgent true, onLine⟩ :: after := changeFirst_split _ _ _ _ _ rfl notBefore
    subst split
    cases onLine
    · cases urgent
      · have rest : urgentRequest (before ++ ⟨.state false changed, false⟩ :: after) =
            (before ++ ⟨.state false changed, false⟩ :: after).filter (fun x => !x.isState) ++ [.urgentState] := by
          simp [urgentRequest, found, QEntry.urgent]
        rw [rest]
        exact again _ (fun e he => by simpa using (List.mem_filter.1 he).2)
      · simp [urgentRequest, found, QEntry.urgent]
    · have once : urgentRequest (before ++ ⟨.state urgent changed, true⟩ :: after) =
          before ++ ⟨.state urgent true, true⟩ :: after := by simp [urgentRequest, found, marked]
      rw [once, urgentRequest, find_state_of_split notBefore rfl]
      simp [markedAgain]
  · have none : ∀ e ∈ q, e.isState = false := by simpa using held
    rw [urgentRequest_of_no_state none]
    exact again q none

/-! ### Acknowledgements read neither the line nor the roster -/

/-- The station with another line and another roster. -/
def State.withLineRoster (l : LineUnit) (r : Tab 32 RosterEntry) (s : State) : State :=
  { s with line := l, pic := { s.pic with roster := r } }

section
variable (l : LineUnit) (r : Tab 32 RosterEntry) (s : State)

theorem record_withLineRoster (b : RecordBody) :
    (s.withLineRoster l r).record b = (s.record b).withLineRoster l r := by
  unfold State.record
  change (if s.scopePasses b then _ else _) = _
  split <;> rfl

theorem writeCond_withLineRoster (st : Station) (c : CondIx) (e : CondEntry) :
    (s.withLineRoster l r).writeCond st c e = (s.writeCond st c e).withLineRoster l r := by
  unfold State.writeCond
  change (if e = s.condEntry st c then _ else _) = _
  split
  · rfl
  · unfold State.noticeCond
    change (if s.settings.horn.contains ⟨st, c⟩ && callsForClear (s.condEntry st c) e then _ else _) =
      State.withLineRoster l r (if s.settings.horn.contains ⟨st, c⟩ && callsForClear (s.condEntry st c) e then _ else _)
    split <;> rfl

theorem requestUrgent_withLineRoster :
    (s.withLineRoster l r).requestUrgent = s.requestUrgent.withLineRoster l r := by
  unfold State.requestUrgent
  change (if s.life.life.queues then _ else _) = _
  split <;> rfl

theorem startReport_withLineRoster : (s.withLineRoster l r).startReport = s.startReport.withLineRoster l r := by
  simp only [State.startReport, show (s.withLineRoster l r).report = s.report from rfl]
  split <;> rfl

theorem addJob_withLineRoster (j : Job) : (s.withLineRoster l r).addJob j = (s.addJob j).withLineRoster l r := by
  unfold State.addJob
  change (if s.report.jobs.length < jobQueueSize then _ else _) = _
  split
  · exact startReport_withLineRoster l r (s.onReport (fun q => { q with jobs := q.jobs ++ [j] }))
  · exact record_withLineRoster l r s _

theorem reportChange_withLineRoster (c : CondIx) (new : AnnState) (g : Gen) :
    (s.withLineRoster l r).reportChange c new g = (s.reportChange c new g).withLineRoster l r := by
  rw [reportChange_eq, reportChange_eq, show (s.withLineRoster l r).jobOf c new g = s.jobOf c new g from rfl]
  cases s.jobOf c new g with
  | none => rfl
  | some j => exact addJob_withLineRoster l r s j

theorem annChange_withLineRoster (c : CondIx) (new : AnnState) :
    (s.withLineRoster l r).annChange c new = (s.annChange c new).withLineRoster l r := by
  simp only [State.annChange, record_withLineRoster, writeCond_withLineRoster, requestUrgent_withLineRoster,
    reportChange_withLineRoster]
  rfl

/-- An acknowledgement leaves another line and roster aside. -/
theorem applyAck_withLineRoster (c : CondIx) (a : AckPair) :
    (s.withLineRoster l r).applyAck c a = (s.applyAck c a).withLineRoster l r := by
  rw [State.applyAck, State.applyAck, show (s.withLineRoster l r).ownCond c = s.ownCond c from rfl,
    show (s.withLineRoster l r).classOfCond c = s.classOfCond c from rfl,
    show (s.withLineRoster l r).ann = s.ann from rfl]
  split
  · cases nextByAck (s.classOfCond c) (s.ownCond c).state (s.ann.seqTruth.get c) with
    | none => rfl
    | some new => exact annChange_withLineRoster l r s c new
  · rfl

end

/-- The acknowledgements of an ACKREQ leave another line and roster aside. -/
theorem ackMasked_withLineRoster (l : LineUnit) (r : Tab 32 RosterEntry) (mask : BitVec 8) (pairs : Tab 8 AckPair)
    (cs : List CondIx) (s : State) :
    (s.withLineRoster l r).ackMasked mask pairs cs = (s.ackMasked mask pairs cs).withLineRoster l r := by
  induction cs generalizing s with
  | nil => rfl
  | cons c cs ih =>
    have step : (if mask.getLsbD c.val then (s.withLineRoster l r).applyAck c (pairs.get c) else s.withLineRoster l r) =
        (if mask.getLsbD c.val then s.applyAck c (pairs.get c) else s).withLineRoster l r := by
      split
      · exact applyAck_withLineRoster l r s c _
      · rfl
    rw [State.ackMasked, List.foldl_cons, step]
    exact ih _

/-- What the acknowledgements of an ACKREQ leave as it was. -/
@[simp] theorem State.ackMasked_keeps (mask : BitVec 8) (pairs : Tab 8 AckPair) (cs : List CondIx) (s : State) :
    (s.ackMasked mask pairs cs).held = s.held ∧ (s.ackMasked mask pairs cs).clock = s.clock ∧
    (s.ackMasked mask pairs cs).pins = s.pins ∧ (s.ackMasked mask pairs cs).settings = s.settings ∧
    (s.ackMasked mask pairs cs).life = s.life ∧ (s.ackMasked mask pairs cs).loader = s.loader ∧
    (s.ackMasked mask pairs cs).input = s.input ∧ (s.ackMasked mask pairs cs).cond.run = s.cond.run ∧
    (s.ackMasked mask pairs cs).ann.seqTruth = s.ann.seqTruth ∧
    (s.ackMasked mask pairs cs).ann.edges = s.ann.edges ∧ (s.ackMasked mask pairs cs).ann.requests = s.ann.requests ∧
    (s.ackMasked mask pairs cs).ann.attention = s.ann.attention ∧ (s.ackMasked mask pairs cs).out = s.out ∧
    (s.ackMasked mask pairs cs).port = s.port ∧ (s.ackMasked mask pairs cs).pending = s.pending := by
  have kept := foldl_keeps (fun t : State => (t.held, t.clock, t.pins, t.settings, t.life, t.loader, t.input, t.cond.run,
      t.ann.seqTruth, t.ann.edges, t.ann.requests, t.ann.attention, t.out, t.port, t.pending))
    (f := fun t c => if mask.getLsbD c.val then t.applyAck c (pairs.get c) else t) (fun t c => by split <;> simp) cs s
  simp only [Prod.mk.injEq] at kept
  exact kept

/-- An Annunciation Unit that agrees in all but the clears differs in the clears alone. -/
theorem AnnUnit.eq_with_clears {u v : AnnUnit} (seqTruth : u.seqTruth = v.seqTruth) (edges : u.edges = v.edges)
    (requests : u.requests = v.requests) (attention : u.attention = v.attention) :
    u = { v with clears := u.clears } := by
  cases u; cases v; simp_all

/-- The acknowledgements of an ACKREQ in ACTIVE ask for an urgent STATE, once or not at all. -/
theorem ackMasked_frame (mask : BitVec 8) (pairs : Tab 8 AckPair) (cs : List CondIx) {s : State}
    (active : s.life.life = .active) : (s.ackMasked mask pairs cs).frame = s.frame ∨
      (s.ackMasked mask pairs cs).frame = { s.frame with queue := urgentRequest s.frame.queue } := by
  have := List.foldlRecOn (motive := fun t : State => t.life.life = .active ∧ (t.frame = s.frame ∨
      t.frame = { s.frame with queue := urgentRequest s.frame.queue }))
    cs (fun t c => if mask.getLsbD c.val then t.applyAck c (pairs.get c) else t) ⟨active, .inl rfl⟩ ?_
  · exact this.2
  rintro t ⟨life, frame⟩ c -
  by_cases masked : mask.getLsbD c.val = true
  · refine ⟨by simpa [masked] using life, ?_⟩
    rw [if_pos masked]
    rcases applyAck_frame t c (pairs.get c) with same | asked
    · rwa [same]
    · rcases frame with h | h <;> simp [asked, h, life, Life.queues, urgentRequest_idem]
  · rw [if_neg masked]
    exact ⟨life, frame⟩

/-! ### A frame heard from a peer (R15) -/

/-- A frame of a PRESENT peer restarts its absence timer, and of another station changes nothing (R15). -/
theorem heard_eq (s : State) (st : Station) : s.heard st = if (s.pic.roster.get st).presence = .present
    then s.onPic (Picture.setRoster st { s.pic.roster.get st with
      absence := some (s.after (absenceMs ((s.pic.roster.get st).refreshCode.getD 4))) })
    else s := rfl

/-- The station that takes an ACKREQ differs from the one before the frame end in its line and its roster alone. -/
theorem heard_atFrameEnd_eq (s : State) (bytes : List Byte) (st : Station) :
    (s.atFrameEnd bytes).heard st =
      s.withLineRoster (s.atFrameEnd bytes).line ((s.atFrameEnd bytes).heard st).pic.roster := by
  rw [heard_eq]
  split <;> rfl

/-- Settles O37. -/
theorem ackreqAppliedByItsOwner : Obligations.AckreqAppliedByItsOwner := by
  intro levels bytes st target mask pairs s hears decoded other
  obtain ⟨m, hm⟩ : ∃ m, m = (s.atFrameEnd bytes).heard st := ⟨_, rfl⟩
  obtain ⟨l, r, roster⟩ : ∃ l r, m = s.withLineRoster l r := ⟨_, _, hm.trans (heard_atFrameEnd_eq s bytes st)⟩
  have taken : (s.atFrameEnd bytes).receiveFrame bytes = m.takeAckreq target mask pairs := by
    rw [receiveFrame_eq decoded (by simpa [State.own] using other), hm]
  have rosterAfter : (m.takeAckreq target mask pairs).pic.roster = m.pic.roster := by simp
  refine ⟨m.takeAckreq target mask pairs, by rw [exec_frameEnd_of_hears hears, taken], ?_, ?_, ?_, ?_, ?_⟩
  · intro absent
    rw [rosterAfter, hm, heard_eq, if_neg (by simpa using absent)]
    simp
  · intro present n code
    rw [rosterAfter, hm, heard_eq, if_pos (by simpa using present)]
    simp [Picture.setRoster, code, absenceMs, State.after]
  · simp [roster, State.withLineRoster]
  · intro ignored
    have skipped : ¬ (target = (s.withLineRoster l r).own ∧ (s.withLineRoster l r).life.life = .active) :=
      not_and_or.2 ignored
    rw [takeAckreq_eq, roster, if_neg skipped]
    refine ⟨rfl, ?_⟩
    intro b hb
    cases b <;> simp at hb <;> rfl
  · intro own active
    have distinct : (indices 8).Nodup := by decide
    obtain ⟨a, ha⟩ : ∃ a, a = s.ackMasked mask pairs (indices 8) := ⟨_, rfl⟩
    have result : m.takeAckreq target mask pairs = a.requestUrgent.withLineRoster l r := by
      have acts : target = (s.withLineRoster l r).own ∧ (s.withLineRoster l r).life.life = .active := ⟨own, active⟩
      rw [takeAckreq_eq, roster, if_pos acts, ackMasked_withLineRoster, ← ha, requestUrgent_withLineRoster]
    have life : a.life = s.life := by simp [ha]
    rw [result]
    refine ⟨?_, ?_, ?_, ?_, ⟨a, by rw [ha, ackMasked_eq_answersAll], ?_⟩, ?_⟩
    · intro x c
      have entry : (a.requestUrgent.withLineRoster l r).condEntry x c = a.condEntry x c := by
        simp [State.condEntry, State.withLineRoster]
      rw [entry, ha, ackMasked_condEntry _ _ distinct]
      simp
    · have frame : (a.requestUrgent.withLineRoster l r).frame = a.requestUrgent.frame := rfl
      rw [frame, State.requestUrgent_frame, life]
      rcases ackMasked_frame mask pairs (indices 8) active with h | h <;>
        simp [ha, h, active, Life.queues, urgentRequest_idem]
    · simp [State.withLineRoster, ha]
    · have kept : a.ann = { s.ann with clears := a.ann.clears } :=
        AnnUnit.eq_with_clears (by simp [ha]) (by simp [ha]) (by simp [ha]) (by simp [ha])
      simpa [State.withLineRoster] using kept
    · simp [State.withLineRoster]
    · intro b hb
      cases b <;> simp at hb <;> simp [Block.same, State.withLineRoster, ha]
end Machine
end Sys2Proof
end

section
namespace Sys2Proof
namespace Machine

/-! ### One evaluation of a condition (R45, R48) -/

/-- What Table 3-7 makes of a condition's running fields when it is evaluated. -/
def State.nextRun (s : State) (c : CondIx) : CondRun :=
  let cs := s.settings.conds.get c
  if cs.enabled = true ∧ s.rawResult cs ≠ (s.cond.run.get c).raw then
    match (s.cond.run.get c).eval with
    | .isFalse => if cs.hold = 0 then ⟨.isTrue, true, none, none⟩
      else ⟨.qualifying, true, some (s.after (100 * cs.hold)), none⟩
    | .qualifying => ⟨.isFalse, false, none, none⟩
    | .isTrue => if cs.release = 0 then ⟨.isFalse, false, none, none⟩
      else ⟨.releasing, false, none, some (s.after (100 * cs.release))⟩
    | .releasing => ⟨.isTrue, true, none, none⟩
  else s.cond.run.get c

/-- The running fields of one condition follow its evaluation state, as `State.ConditionLaw` says of all (R49, R51). -/
structure State.RunLaw (s : State) (c : CondIx) : Prop where
  raw : (s.cond.run.get c).raw = (s.cond.run.get c).eval.raw
  hold : (s.cond.run.get c).hold.isSome = true ↔ (s.cond.run.get c).eval = .qualifying
  release : (s.cond.run.get c).release.isSome = true ↔ (s.cond.run.get c).eval = .releasing
  truth : (s.ownCond c).truth = (s.cond.run.get c).eval.truth

/-- Setting a condition's running fields to what they are changes nothing. -/
theorem setRun_self (s : State) (c : CondIx) : s.setRun c (s.cond.run.get c) = s := by
  simp [State.setRun, State.onCond]

/-- One evaluation sets the running fields by Table 3-7 and makes an edge exactly where the truth changes (R48, R52). -/
theorem evaluate_eq {s : State} {c : CondIx} (law : s.RunLaw c) :
    s.evaluate c = if (s.nextRun c).eval.truth = (s.ownCond c).truth then s.setRun c (s.nextRun c)
      else (s.setRun c (s.nextRun c)).truthEdge c (s.nextRun c).eval.truth := by
  rw [law.truth]
  by_cases moves : (s.settings.conds.get c).enabled = true ∧
      s.rawResult (s.settings.conds.get c) ≠ (s.cond.run.get c).raw
  · have evaluated : s.evaluate c = s.moveRaw c (s.rawResult (s.settings.conds.get c)) := by
      simp only [State.evaluate, if_pos moves]
    have next := moves
    obtain ⟨-, flips⟩ := moves
    rw [law.raw, ← Bool.eq_not_iff] at flips
    rw [evaluated, flips]
    simp only [State.nextRun, if_pos next]
    unfold State.moveRaw
    dsimp only
    have hold : (s.cond.run.get c).eval ≠ .qualifying → (s.cond.run.get c).hold = none := by
      intro h; simpa [h] using law.hold
    have release : (s.cond.run.get c).eval ≠ .releasing → (s.cond.run.get c).release = none := by
      intro h; simpa [h] using law.release
    cases eval : (s.cond.run.get c).eval <;>
      simp only [EvalState.raw, EvalState.truth, Bool.not_false, Bool.not_true, if_true]
    · by_cases h : (s.settings.conds.get c).hold = 0 <;>
        simp [h, hold (by simp [eval]), release (by simp [eval])]
    · simp [release (by simp [eval])]
    · by_cases h : (s.settings.conds.get c).release = 0 <;>
        simp [h, hold (by simp [eval]), release (by simp [eval])]
    · simp [hold (by simp [eval])]
  · have next : s.nextRun c = s.cond.run.get c := by simp only [State.nextRun, if_neg moves]
    rw [next, if_pos rfl, setRun_self]
    simp only [State.evaluate, if_neg moves]

/-- What the truth of an own condition reads once it is evaluated. -/
def State.nextTruth (s : State) (c : CondIx) : Bool := (s.nextRun c).eval.truth

/-- An Annunciation Unit that agrees in all but the edges differs in the edges alone. -/
theorem AnnUnit.eq_with_edges {u v : AnnUnit} (seqTruth : u.seqTruth = v.seqTruth) (clears : u.clears = v.clears)
    (requests : u.requests = v.requests) (attention : u.attention = v.attention) : u = { v with edges := u.edges } := by
  cases u; cases v; simp_all

/-- Everything one evaluation of a condition does (R45, R48, R52). -/
theorem evaluate_effect {s : State} {c : CondIx} (law : s.RunLaw c) :
    let u := s.evaluate c
    (∀ k, u.cond.run.get k = if k = c then s.nextRun c else s.cond.run.get k) ∧
    (∀ x k, u.condEntry x k = if x = s.own ∧ k = c then { s.ownCond c with truth := s.nextTruth c }
      else s.condEntry x k) ∧
    u.ann = { s.ann with
      edges := s.ann.edges ++ (if s.nextTruth c = (s.ownCond c).truth then [] else [⟨c, s.nextTruth c⟩]) } ∧
    u.cond.notices = s.cond.notices ++ (if s.nextTruth c = (s.ownCond c).truth then []
      else [.cond s.own c (s.ownCond c) { s.ownCond c with truth := s.nextTruth c }]) ∧
    u.frame = (if s.nextTruth c = (s.ownCond c).truth then s.frame else
      { s.frame with queue := if s.life.life.queues then urgentRequest s.frame.queue else s.frame.queue }) := by
  intro u
  obtain ⟨m, hm⟩ : ∃ m, m = s.setRun c (s.nextRun c) := ⟨_, rfl⟩
  have hu : u = if s.nextTruth c = (s.ownCond c).truth then m else m.truthEdge c (s.nextTruth c) := by
    rw [hm]; exact evaluate_eq law
  have run : ∀ k, m.cond.run.get k = if k = c then s.nextRun c else s.cond.run.get k := by
    intro k
    simp [hm, State.setRun, Tab.get_set, eq_comm (a := k)]
  have keeps : m.condEntry = s.condEntry ∧ m.ownCond c = s.ownCond c ∧ m.own = s.own ∧ m.ann = s.ann ∧
      m.cond.notices = s.cond.notices ∧ m.frame = s.frame ∧ m.life = s.life := by
    rw [hm]; exact ⟨rfl, rfl, rfl, rfl, rfl, rfl, rfl⟩
  obtain ⟨mEntry, mOwnCond, mOwn, mAnn, mNotices, mFrame, mLife⟩ := keeps
  rw [hu]
  by_cases same : s.nextTruth c = (s.ownCond c).truth
  · simp only [same, if_true]
    refine ⟨run, ?_, by simp [mAnn], by simp [mNotices], mFrame⟩
    intro x k
    rw [mEntry]
    split
    · rename_i h; rw [h.1, h.2]; rfl
    · rfl
  · obtain ⟨entry, notices, edgeRun, edges, clears, frame, only⟩ := truthEdge_effect m c (s.nextTruth c)
    simp only [if_neg same]
    refine ⟨fun k => by rw [edgeRun]; exact run k, ?_, ?_, ?_, ?_⟩
    · simpa only [mOwn, mOwnCond, mEntry] using entry
    · have kept : (m.truthEdge c (s.nextTruth c)).ann =
          { m.ann with edges := (m.truthEdge c (s.nextTruth c)).ann.edges } :=
        AnnUnit.eq_with_edges (by simp) clears (by simp) (by simp)
      rw [kept, edges, mAnn]
    · rw [notices, mNotices, mOwnCond, mOwn, if_neg same]
    · rw [frame, mFrame, mLife]

/-! ### Evaluations one after the other (R45, R47) -/

/-- A term's value is read from points, presences, and the state and quality of conditions, never from a truth (Tables
3-4 and 3-5). -/
theorem termValue_congr {s t : State} (points : t.pic.points = s.pic.points) (roster : t.pic.roster = s.pic.roster)
    (conds : ∀ x k, (t.condEntry x k).state = (s.condEntry x k).state ∧
      (t.condEntry x k).quality = (s.condEntry x k).quality) : t.termValue = s.termValue := by
  have point : t.pointEntry = s.pointEntry := by funext x p; simp [State.pointEntry, points]
  funext m
  cases m <;> simp [State.termValue, point, roster, conds]

/-- A raw result depends on the values of terms alone (Table 3-6). -/
theorem rawResult_congr {s t : State} (terms : t.termValue = s.termValue) : t.rawResult = s.rawResult := by
  funext cs
  simp only [State.rawResult, terms]

/-- What Table 3-7 makes of a condition depends on its fields, the raw results, the settings and the count. -/
theorem nextRun_congr {s t : State} {c : CondIx} (raw : t.rawResult = s.rawResult) (settings : t.settings = s.settings)
    (clock : t.clock = s.clock) (run : t.cond.run.get c = s.cond.run.get c) : t.nextRun c = s.nextRun c := by
  simp only [State.nextRun, raw, settings, run, State.after, clock]

/-- Conditions evaluated one after the other. -/
def State.evaluateEach (l : List CondIx) (s : State) : State := l.foldl (fun t c => t.evaluate c) s

/-- One evaluation changes no raw result, and nothing of another condition. -/
theorem evaluate_others {s : State} {c : CondIx} (law : s.RunLaw c) :
    (s.evaluate c).rawResult = s.rawResult ∧
    ∀ k, k ≠ c → (s.evaluate c).ownCond k = s.ownCond k ∧ (s.evaluate c).cond.run.get k = s.cond.run.get k ∧
      (s.evaluate c).nextRun k = s.nextRun k := by
  obtain ⟨run, entry, -⟩ := evaluate_effect law
  have raw : (s.evaluate c).rawResult = s.rawResult := by
    refine rawResult_congr (termValue_congr (by simp) (by simp) (fun x k => ?_))
    rw [entry]
    split
    · rename_i h; rw [h.1, h.2]; exact ⟨rfl, rfl⟩
    · exact ⟨rfl, rfl⟩
  refine ⟨raw, fun k hk => ?_⟩
  have runKept : (s.evaluate c).cond.run.get k = s.cond.run.get k := by rw [run, if_neg hk]
  refine ⟨?_, runKept, nextRun_congr raw (by simp) (by simp) runKept⟩
  have own : (s.evaluate c).own = s.own := by simp [State.own]
  rw [State.ownCond, own, entry, if_neg (by simp [hk])]
  rfl

/-- What evaluating different conditions one after the other leaves: each moves from what it was before them all. -/
structure State.EvaluatesTo (s : State) (l : List CondIx) (u : State) : Prop where
  run : ∀ k, u.cond.run.get k = if k ∈ l then s.nextRun k else s.cond.run.get k
  entry : ∀ x k, u.condEntry x k = if x = s.own ∧ k ∈ l then { s.ownCond k with truth := s.nextTruth k }
    else s.condEntry x k
  ann : u.ann = { s.ann with
    edges := s.ann.edges ++ l.flatMap (fun c =>
      if s.nextTruth c = (s.ownCond c).truth then [] else [⟨c, s.nextTruth c⟩]) }
  notices : u.cond.notices = s.cond.notices ++ l.flatMap (fun c =>
    if s.nextTruth c = (s.ownCond c).truth then []
      else [.cond s.own c (s.ownCond c) { s.ownCond c with truth := s.nextTruth c }])
  frameSame : (∀ c ∈ l, s.nextTruth c = (s.ownCond c).truth) → u.frame = s.frame
  frameAsked : (∃ c ∈ l, s.nextTruth c ≠ (s.ownCond c).truth) → u.frame =
    { s.frame with queue := if s.life.life.queues then urgentRequest s.frame.queue else s.frame.queue }

/-- What evaluations leave of an own condition. -/
theorem State.EvaluatesTo.ownCond {s u : State} {l : List CondIx} (h : s.EvaluatesTo l u) (own : u.own = s.own)
    (c : CondIx) : u.ownCond c = if c ∈ l then { s.ownCond c with truth := s.nextTruth c } else s.ownCond c := by
  have entry := h.entry u.own c
  simp only [own, true_and] at entry
  rw [State.ownCond, own]
  exact entry

/-- Conditions evaluated one after the other move as each would alone. -/
theorem evaluateEach_effect {l : List CondIx} (distinct : l.Nodup) {s : State} (law : ∀ c ∈ l, s.RunLaw c) :
    s.EvaluatesTo l (s.evaluateEach l) := by
  induction l generalizing s with
  | nil =>
    exact ⟨by simp [State.evaluateEach], by simp [State.evaluateEach], by simp [State.evaluateEach],
      by simp [State.evaluateEach], fun _ => rfl, by simp⟩
  | cons c l ih =>
    obtain ⟨notIn, distinct⟩ := List.nodup_cons.1 distinct
    have lawC : s.RunLaw c := law c (by simp)
    obtain ⟨run, entry, ann, notices, frame⟩ := evaluate_effect lawC
    obtain ⟨-, others⟩ := evaluate_others lawC
    obtain ⟨t, ht⟩ : ∃ t, t = s.evaluate c := ⟨_, rfl⟩
    rw [← ht] at run entry ann notices frame others
    have own : t.own = s.own := by simp [ht, State.own]
    have life : t.life = s.life := by simp [ht]
    have other : ∀ k ∈ l, t.ownCond k = s.ownCond k ∧ t.cond.run.get k = s.cond.run.get k ∧
        t.nextRun k = s.nextRun k := fun k hk => others k (fun h => notIn (h ▸ hk))
    have truth : ∀ k ∈ l, t.nextTruth k = s.nextTruth k := fun k hk => by
      rw [State.nextTruth, (other k hk).2.2]; rfl
    have rest := ih distinct (s := t) (fun k hk => by
      obtain ⟨hentry, hrun, -⟩ := other k hk
      obtain ⟨raw, hold, release, htruth⟩ := law k (List.mem_cons_of_mem _ hk)
      exact ⟨by rw [hrun]; exact raw, by rw [hrun]; exact hold, by rw [hrun]; exact release,
        by rw [hrun, hentry]; exact htruth⟩)
    have cons : s.evaluateEach (c :: l) = t.evaluateEach l := by rw [ht]; rfl
    rw [cons]
    have edges : l.flatMap (fun k => if t.nextTruth k = (t.ownCond k).truth then [] else [(⟨k, t.nextTruth k⟩ : Edge)]) =
        l.flatMap (fun k => if s.nextTruth k = (s.ownCond k).truth then [] else [⟨k, s.nextTruth k⟩]) :=
      List.flatMap_congr (fun k hk => by rw [truth k hk, (other k hk).1])
    refine ⟨?_, ?_, ?_, ?_, ?_, ?_⟩
    · intro k
      rw [rest.run]
      by_cases hk : k ∈ l
      · simp [hk, other k hk]
      · by_cases hc : k = c
        · subst hc; simp [hk, run]
        · simp [hk, hc, run]
    · intro x k
      rw [rest.entry, entry, own]
      by_cases hk : k ∈ l
      · have : k ≠ c := fun h => notIn (h ▸ hk)
        simp [hk, this, other k hk, truth k hk]
      · by_cases hc : k = c
        · subst hc; simp [hk]
        · simp [hk, hc]
    · rw [rest.ann, edges, ann]
      simp
    · have later : l.flatMap (fun k => if t.nextTruth k = (t.ownCond k).truth then []
            else [Notice.cond t.own k (t.ownCond k) { t.ownCond k with truth := t.nextTruth k }]) =
          l.flatMap (fun k => if s.nextTruth k = (s.ownCond k).truth then []
            else [Notice.cond s.own k (s.ownCond k) { s.ownCond k with truth := s.nextTruth k }]) :=
        List.flatMap_congr (fun k hk => by rw [truth k hk, (other k hk).1, own])
      rw [rest.notices, later, notices]
      simp
    · intro same
      have sameLater : ∀ k ∈ l, t.nextTruth k = (t.ownCond k).truth := fun k hk => by
        rw [truth k hk, (other k hk).1]; exact same k (List.mem_cons_of_mem _ hk)
      rw [rest.frameSame sameLater, frame, if_pos (same c (by simp))]
    · intro asked
      by_cases later : ∃ k ∈ l, t.nextTruth k ≠ (t.ownCond k).truth
      · rw [rest.frameAsked later, frame, life]
        by_cases q : s.life.life.queues
        · split <;> simp [urgentRequest_idem]
        · simp [q]
      · have sameLater : ∀ k ∈ l, t.nextTruth k = (t.ownCond k).truth := by simpa using later
        have first : s.nextTruth c ≠ (s.ownCond c).truth := by
          obtain ⟨k, hk, changed⟩ := asked
          rcases List.mem_cons.1 hk with rfl | hk
          · exact changed
          · have := sameLater k hk
            rw [truth k hk, (other k hk).1] at this
            exact absurd this changed
        rw [rest.frameSame sameLater, frame, if_neg first]

/-- What evaluations leave as it was. -/
@[simp] theorem State.evaluateEach_keeps (l : List CondIx) (s : State) :
    (s.evaluateEach l).held = s.held ∧ (s.evaluateEach l).clock = s.clock ∧ (s.evaluateEach l).pins = s.pins ∧
    (s.evaluateEach l).settings = s.settings ∧ (s.evaluateEach l).life = s.life ∧
    (s.evaluateEach l).loader = s.loader ∧ (s.evaluateEach l).pic.roster = s.pic.roster ∧
    (s.evaluateEach l).pic.points = s.pic.points ∧ (s.evaluateEach l).input = s.input ∧
    (s.evaluateEach l).line = s.line ∧ (s.evaluateEach l).out = s.out ∧ (s.evaluateEach l).journal = s.journal ∧
    (s.evaluateEach l).port = s.port ∧ (s.evaluateEach l).report = s.report ∧
    (s.evaluateEach l).pending = s.pending := by
  have kept := foldl_keeps (fun t : State => (t.held, t.clock, t.pins, t.settings, t.life, t.loader, t.pic.roster,
    t.pic.points, t.input, t.line, t.out, t.journal, t.port, t.report, t.pending))
    (f := fun t c => t.evaluate c) (fun t c => by simp) l s
  simp only [Prod.mk.injEq] at kept
  exact kept

/-! ### EVALUATION (R45) -/

/-- The enabled or unused conditions with a term that reads an item, C0 to C7. -/
def Settings.readers (set : Settings) (i : Item) : List CondIx :=
  (indices 8).filter (fun c => (set.conds.get c).terms.any (fun m => m.reads i))

/-- A notice's evaluations are those of the readers of its item (R45). -/
theorem evaluateItem_eq (i : Item) (s : State) : s.evaluateItem i = s.evaluateEach (s.settings.readers i) := by
  have along : ∀ (l : List CondIx) (t : State), t.settings = s.settings →
      l.foldl (fun t c => if (t.settings.conds.get c).terms.any (fun m => m.reads i) then t.evaluate c else t) t =
        t.evaluateEach (l.filter (fun c => (s.settings.conds.get c).terms.any (fun m => m.reads i))) := by
    intro l
    induction l with
    | nil => intro t _; rfl
    | cons c l ih =>
      intro t set
      rw [List.foldl_cons, set, List.filter_cons]
      split
      · exact ih _ (by simp [set])
      · exact ih _ set
  exact along (indices 8) s rfl

/-- Lists added by the members that a test picks are the single entries that all members give, where the others give
none. -/
theorem flatMap_filter_eq_filterMap {α β : Type} {l : List α} {p : α → Bool} {added : α → List β}
    {entry : α → Option β}
    (picked : ∀ c, p c = true → added c = (entry c).toList) (others : ∀ c, p c = false → entry c = none) :
    (l.filter p).flatMap added = l.filterMap entry := by
  induction l with
  | nil => rfl
  | cons c l ih =>
    cases hp : p c with
    | false => rw [List.filter_cons_of_neg (by simp [hp]), List.filterMap_cons_none (others c hp), ih]
    | true =>
      rw [List.filter_cons_of_pos hp, List.flatMap_cons, ih, picked c hp, List.filterMap_cons]
      cases entry c <;> rfl

/-- An entry that a test may leave out, as a list. -/
theorem apply_ite_some_toList {α : Type} (p : Prop) [Decidable p] (a : α) :
    (if p then [] else [a]) = (if p then none else some a).toList := by
  split <;> rfl

/-- The ascending indices repeat none. -/
theorem indices_nodup (n : Nat) : (indices n).Nodup := List.nodup_finRange n

/-- A reader of an item is a condition with a term that reads it. -/
theorem mem_readers {set : Settings} {i : Item} {c : CondIx} :
    c ∈ set.readers i ↔ (set.conds.get c).terms.any (fun m => m.reads i) = true := by
  simp only [Settings.readers, List.mem_filter, mem_indices, true_and]

/-- No condition is a reader twice. -/
theorem readers_nodup (set : Settings) (i : Item) : (set.readers i).Nodup := (indices_nodup 8).filter _

/-- Settles O22: the readers of the oldest notice's item are evaluated one after the other, and no evaluation changes
what another reads. -/
theorem evaluationMovesEachReaderOnce : Obligations.EvaluationMovesEachReaderOnce := by
  refine ⟨?_, ?_, ?_⟩
  · intro n rest s held law notices item moves
    let m := s.onCond (fun u => { u with notices := rest })
    obtain ⟨u, hu⟩ : ∃ u, u = m.evaluateItem item := ⟨_, rfl⟩
    have evaluates : m.EvaluatesTo (s.settings.readers item) u := by
      rw [hu, evaluateItem_eq]
      exact evaluateEach_effect (readers_nodup s.settings item)
        (fun c _ => ⟨law.raw c, law.hold c, law.release c, law.truth c⟩)
    have kept := State.evaluateEach_keeps (s.settings.readers item) m
    rw [show m.evaluateEach (s.settings.readers item) = u by rw [hu, evaluateItem_eq]; rfl] at kept
    obtain ⟨uheld, uclock, upins, uset, ulife, uloader, uroster, upoints, uinput, uline, uout, ujournal, uport, ureport,
      upending⟩ := kept
    have runs : ∀ c, u.cond.run.get c = if c ∈ s.settings.readers item then s.nextRun c else s.cond.run.get c :=
      evaluates.run
    have evaluated : ∀ c, u.ownCond c =
        if c ∈ s.settings.readers item then { s.ownCond c with truth := s.nextTruth c } else s.ownCond c :=
      evaluates.ownCond (by simp only [State.own, ulife])
    have own : ∀ c, u.ownCond c = { s.ownCond c with truth := (u.cond.run.get c).eval.truth } := by
      intro c
      rw [evaluated, runs]
      by_cases reader : c ∈ s.settings.readers item
      · simp only [if_pos reader, State.nextTruth]
      · simp only [if_neg reader, ← law.truth c]
    have readerTruth : ∀ c, c ∈ s.settings.readers item → (u.ownCond c).truth = s.nextTruth c :=
      fun c hc => by rw [evaluated, if_pos hc]
    have otherTruth : ∀ c, c ∉ s.settings.readers item → (u.ownCond c).truth = (s.ownCond c).truth :=
      fun c hc => by rw [evaluated, if_neg hc]
    have isReader : ∀ c, (s.settings.conds.get c).terms.any (fun m => m.reads item) = true → c ∈ s.settings.readers item :=
      fun c => mem_readers.2
    have noReader : ∀ c, (s.settings.conds.get c).terms.any (fun m => m.reads item) = false →
        c ∉ s.settings.readers item := fun c h hc => by simp [mem_readers.1 hc] at h
    refine ⟨u, ?_, ?_, ?_, own, ?_, ?_, ?_, ?_, uroster, upoints, ?_, ?_⟩
    · have item_eq : item = n.item := by cases n <;> rfl
      simp only [exec, execEvaluation, State.event, held, State.evaluation, notices, ← item_eq, hu, m]
      rfl
    · intro c still
      rw [runs]
      by_cases reader : c ∈ s.settings.readers item
      · rw [if_pos reader, State.nextRun, if_neg (fun h => still ⟨h.1, mem_readers.1 reader, h.2⟩)]
      · rw [if_neg reader]
    · intro c moving
      obtain ⟨enabled, reads, differs⟩ := moving
      rw [runs, if_pos (isReader c reads), State.nextRun, if_pos ⟨enabled, differs⟩]
      refine ⟨?_, ?_, ?_, ?_⟩ <;> intro eval <;> rw [eval]
    · rw [evaluates.ann]
      refine congrArg (fun e => { s.ann with edges := s.ann.edges ++ e })
        (flatMap_filter_eq_filterMap (fun c hc => ?_) (fun c hc => if_pos (otherTruth c (noReader c hc))))
      rw [readerTruth c (isReader c hc)]
      exact apply_ite_some_toList _ _
    · rw [evaluates.notices]
      refine congrArg (rest ++ ·)
        (flatMap_filter_eq_filterMap (fun c hc => ?_) (fun c hc => if_pos (otherTruth c (noReader c hc))))
      rw [evaluated, if_pos (isReader c hc)]
      exact apply_ite_some_toList _ _
    · exact fun same => evaluates.frameSame (fun c hc => (readerTruth c hc).symm.trans (same c))
    · rintro ⟨c, changed⟩
      have reader : c ∈ s.settings.readers item := Classical.byContradiction (fun h => changed (otherTruth c h))
      exact evaluates.frameAsked ⟨c, reader, fun h => changed ((readerTruth c reader).trans h)⟩
    · intro st c other
      rw [evaluates.entry, if_neg (fun h => other h.1)]
      rfl
    · intro b hb
      cases b <;> simp at hb <;> simp [Block.same, m, uheld, uclock, upins, uset, ulife, uloader,
        uinput, uline, uout, ujournal, uport, ureport,
        upending]
  · intro cs s
    simp only [State.rawResult]
    cases cs.combine <;> simp [List.countP_eq_length_filter]
  · intro s st p c expect doubt point cond
    refine ⟨?_, ?_, ?_, ?_, ?_⟩
    · simp only [State.termValue]
      rfl
    · simp [State.termValue]
      rfl
    · simp only [State.termValue]
      change (if cond.quality = .good then _ else _) = _
      by_cases good : cond.quality = .good
      · cases cond.state <;> simp [good, cond]
      · simp [good]
    · simp only [State.termValue]
      cases (s.pic.roster.get st).presence <;> simp
    · intro i
      simp [Term.reads]
end Machine
end Sys2Proof
end

section
namespace Sys2Proof
namespace Machine

/-! ### The quality of conditions: no event of the own station but the image's acceptance writes one (R4) -/

/-- The qualities of the conditions of a picture. -/
def Picture.condQuality (pic : Picture) (st : Station) (c : CondIx) : Quality := ((pic.conds.get st).get c).quality

/-- A condition written with its quality kept. -/
theorem writeCond_condQuality {s : State} {st : Station} {c : CondIx} {e : CondEntry}
    (kept : e.quality = (s.condEntry st c).quality) : (s.writeCond st c e).pic.condQuality = s.pic.condQuality := by
  funext x k
  change ((s.writeCond st c e).condEntry x k).quality = (s.condEntry x k).quality
  rw [State.writeCond_condEntry]
  split
  · rename_i h; rw [kept, h.1, h.2]
  · rfl

@[simp] theorem annChange_condQuality (c : CondIx) (new : AnnState) (s : State) :
    (s.annChange c new).pic.condQuality = s.pic.condQuality := by
  simp only [State.annChange, State.reportChange_keeps, State.requestUrgent_keeps]
  rw [writeCond_condQuality (by simp [State.ownCond, State.condEntry])]
  simp

@[simp] theorem applyEdge_condQuality (c : CondIx) (rising : Bool) (s : State) :
    (s.applyEdge c rising).pic.condQuality = s.pic.condQuality := by
  simp only [State.applyEdge]
  split <;> simp

@[simp] theorem takeEdge_condQuality (c : CondIx) (s : State) :
    (s.takeEdge c).pic.condQuality = s.pic.condQuality := by
  simp only [State.takeEdge]
  split <;> simp

@[simp] theorem takeEdges_condQuality (s : State) : s.takeEdges.pic.condQuality = s.pic.condQuality := by
  unfold State.takeEdges
  exact foldl_keeps (fun t : State => t.pic.condQuality) (fun t e => by simp) _ _

@[simp] theorem applyAck_condQuality (c : CondIx) (a : AckPair) (s : State) :
    (s.applyAck c a).pic.condQuality = s.pic.condQuality := by
  simp only [State.applyAck]
  (repeat' split) <;> simp

@[simp] theorem truthEdge_condQuality (c : CondIx) (rising : Bool) (s : State) :
    (s.truthEdge c rising).pic.condQuality = s.pic.condQuality := by
  simp only [State.truthEdge, State.requestUrgent_keeps, State.onAnn]
  exact writeCond_condQuality rfl

@[simp] theorem evaluate_condQuality (c : CondIx) (s : State) :
    (s.evaluate c).pic.condQuality = s.pic.condQuality := by
  simp only [State.evaluate]
  split
  · unfold State.moveRaw
    dsimp only
    (repeat' split) <;> simp
  · rfl

@[simp] theorem evaluateEach_condQuality (l : List CondIx) (s : State) :
    (s.evaluateEach l).pic.condQuality = s.pic.condQuality :=
  foldl_keeps (fun t : State => t.pic.condQuality) (fun t c => by simp) _ _

@[simp] theorem ackPress_condQuality (s : State) : s.ackPress.pic.condQuality = s.pic.condQuality := by
  unfold State.ackPress
  dsimp only
  rw [foldl_keeps (fun t : State => t.pic.condQuality) (fun t c => by split <;> simp),
    foldl_keeps (fun t : State => t.pic.condQuality) (fun t c => by split <;> simp [State.localAck])]

@[simp] theorem takeAckreq_condQuality (target : Station) (mask : BitVec 8) (pairs : Tab 8 AckPair) (s : State) :
    (s.takeAckreq target mask pairs).pic.condQuality = s.pic.condQuality := by
  unfold State.takeAckreq
  split
  · rw [State.requestUrgent_keeps _ |>.2.2.2.2.2.2.1]
    exact foldl_keeps (fun t : State => t.pic.condQuality) (fun t c => by split <;> simp) _ _
  · rfl

@[simp] theorem holdExpiry_condQuality (c : CondIx) (s : State) :
    (s.holdExpiry c).pic.condQuality = s.pic.condQuality := by
  simp only [State.holdExpiry]
  split <;> simp

@[simp] theorem releaseExpiry_condQuality (c : CondIx) (s : State) :
    (s.releaseExpiry c).pic.condQuality = s.pic.condQuality := by
  simp only [State.releaseExpiry]
  split <;> simp

@[simp] theorem evaluation_condQuality (s : State) : s.evaluation.pic.condQuality = s.pic.condQuality := by
  simp only [State.evaluation]
  split <;> simp [evaluateItem_eq]

@[simp] theorem controlExpiry_condQuality (i : Control) (s : State) :
    (s.controlExpiry i).pic.condQuality = s.pic.condQuality := by
  simp only [State.controlExpiry]
  split
  · cases i <;> simp only [State.controlChange] <;> (try split) <;> simp
  · rfl

@[simp] theorem ackOneChecks_condQuality (a0 a1 : Byte) (s : State) :
    (s.ackOneChecks a0 a1).pic.condQuality = s.pic.condQuality := by
  simp only [State.ackOneChecks]
  (repeat' split) <;> simp [State.localAck]

@[simp] theorem runCommand_condQuality (c : Command) (s : State) :
    (s.runCommand c).pic.condQuality = s.pic.condQuality := by
  cases c <;> simp [State.runCommand]

@[simp] theorem settleCommand_condQuality (code : Byte) (s : State) :
    (s.settleCommand code).pic.condQuality = s.pic.condQuality := by
  simp only [State.settleCommand]
  (repeat' split) <;> simp

@[simp] theorem writeByte_condQuality (b : Byte) (s : State) :
    (s.writeByte b).pic.condQuality = s.pic.condQuality := by
  simp only [State.writeByte, State.writeRegister]
  (repeat' split) <;> simp

@[simp] theorem writeTransaction_condQuality (address : BitVec 7) (data : List Byte) (s : State) :
    (s.writeTransaction address data).pic.condQuality = s.pic.condQuality := by
  simp only [State.writeTransaction, State.writeData]
  split
  · split
    · rw [foldl_keeps (fun t : State => t.pic.condQuality) (fun t b => writeByte_condQuality b t)]
      simp [State.beginTransaction]
    · simp
    · simp
  · simp

/-! ### The laws of the picture, one station at a time (R2 to R5, R11, R15, R16) -/

/-- What `State.PictureLaw` says of one station. -/
structure State.EntryLaw (s : State) (x : Station) : Prop where
  self : s.life.life.running = true → ((s.pic.roster.get x).presence = .self ↔ x = s.own)
  timer : (s.pic.roster.get x).absence.isSome = true ↔ (s.pic.roster.get x).presence = .present
  present : (s.pic.roster.get x).presence = .present → s.rowKnown x
  notPresent : x ≠ s.own → (s.pic.roster.get x).presence ≠ .present → s.rowUnknown x
  own : s.life.life.running = true → x = s.own → s.rowKnown x
  held : (s.pic.roster.get x).presence = .present ∨ (s.pic.roster.get x).presence = .absent ↔
    (s.pic.roster.get x).lastSeq.isSome = true
  code : (s.pic.roster.get x).refreshCode.isSome = (s.pic.roster.get x).lastSeq.isSome ∧
    ∀ n, (s.pic.roster.get x).refreshCode = some n → n ≤ 4
  restart : (s.pic.roster.get x).restartSeen = true → (s.pic.roster.get x).presence = .present

/-- The picture's law is that of every station. -/
theorem pictureLaw_iff (s : State) : s.PictureLaw ↔ ∀ x, s.EntryLaw x :=
  ⟨fun law x => ⟨fun r => law.self r x, law.timer x, law.present x, law.notPresent x, fun r h => h ▸ law.own r,
      law.held x, law.code x, law.restart x⟩,
    fun law => ⟨fun r x => (law x).self r, fun x => (law x).timer, fun x => (law x).present, fun x => (law x).notPresent,
      fun r => (law s.own).own r rfl, fun x => (law x).held, fun x => (law x).code, fun x => (law x).restart⟩⟩

/-- An event that keeps what the law says of a station: its roster entry up to the time its absence is due and the
stranger flag, and the qualities of its row, but for own points written with a known one. -/
structure State.KeepsEntry (s t : State) (x : Station) : Prop where
  presence : (t.pic.roster.get x).presence = (s.pic.roster.get x).presence
  lastSeq : (t.pic.roster.get x).lastSeq = (s.pic.roster.get x).lastSeq
  refreshCode : (t.pic.roster.get x).refreshCode = (s.pic.roster.get x).refreshCode
  absence : (t.pic.roster.get x).absence.isSome = (s.pic.roster.get x).absence.isSome
  restartSeen : (t.pic.roster.get x).restartSeen = (s.pic.roster.get x).restartSeen
  conds : ∀ c, (t.condEntry x c).quality = (s.condEntry x c).quality
  points : ∀ p, (t.pointEntry x p).quality = (s.pointEntry x p).quality ∨
    x = s.own ∧ (t.pointEntry x p).quality ≠ .unknown

/-- A known row is known still. -/
theorem State.KeepsEntry.rowKnown {s t : State} {x : Station} (h : s.KeepsEntry t x) (known : s.rowKnown x) :
    t.rowKnown x := by
  refine ⟨fun p => ?_, fun c => (h.conds c).trans (known.2 c)⟩
  rcases h.points p with same | ⟨-, written⟩
  · rw [same]; exact known.1 p
  · exact written

/-- A peer's UNKNOWN row is UNKNOWN still. -/
theorem State.KeepsEntry.rowUnknown {s t : State} {x : Station} (h : s.KeepsEntry t x) (peer : x ≠ s.own)
    (unknown : s.rowUnknown x) : t.rowUnknown x := by
  refine ⟨fun p => ?_, fun c => (h.conds c).trans (unknown.2 c)⟩
  rcases h.points p with same | ⟨own, -⟩
  · rw [same]; exact unknown.1 p
  · exact absurd own peer

/-- The law of a station goes over to a state that keeps its entry. -/
theorem State.EntryLaw.of_keeps {s t : State} {x : Station} (law : s.EntryLaw x) (h : s.KeepsEntry t x)
    (running : t.life.life.running = true → s.life.life.running = true) (own : t.own = s.own) : t.EntryLaw x where
  self r := by rw [h.presence, own]; exact law.self (running r)
  timer := by rw [h.absence, h.presence]; exact law.timer
  present is := h.rowKnown (law.present (h.presence ▸ is))
  notPresent peer other := by
    rw [own] at peer
    exact h.rowUnknown peer (law.notPresent peer (h.presence ▸ other))
  own r is := h.rowKnown (law.own (running r) (is.trans own))
  held := by rw [h.presence, h.lastSeq]; exact law.held
  code := by rw [h.refreshCode, h.lastSeq]; exact law.code
  restart := by rw [h.restartSeen, h.presence]; exact law.restart

/-- A station's entry is kept where its roster entry and its qualities are. -/
theorem State.KeepsEntry.of_same {s t : State} {x : Station} (roster : t.pic.roster.get x = s.pic.roster.get x)
    (conds : ∀ c, (t.condEntry x c).quality = (s.condEntry x c).quality)
    (points : ∀ p, (t.pointEntry x p).quality = (s.pointEntry x p).quality ∨
      x = s.own ∧ (t.pointEntry x p).quality ≠ .unknown) : s.KeepsEntry t x :=
  ⟨by rw [roster], by rw [roster], by rw [roster], by rw [roster], by rw [roster], conds, points⟩

/-- The picture's law goes over to a state that keeps roster, points and condition qualities. -/
theorem State.PictureLaw.of_quality {s t : State} (law : s.PictureLaw)
    (running : t.life.life.running = true → s.life.life.running = true) (stn : t.life.stn = s.life.stn)
    (roster : t.pic.roster = s.pic.roster) (points : t.pic.points = s.pic.points)
    (conds : t.pic.condQuality = s.pic.condQuality) : t.PictureLaw :=
  (pictureLaw_iff t).2 fun x => ((pictureLaw_iff s).1 law x).of_keeps
    (.of_same (by rw [roster]) (fun c => congrFun (congrFun conds x) c)
      (fun p => .inl (by simp only [State.pointEntry, points])))
    running stn

/-- The picture's law goes over to a state with the same picture. -/
theorem State.PictureLaw.of_pic {s t : State} (law : s.PictureLaw)
    (running : t.life.life.running = true → s.life.life.running = true) (stn : t.life.stn = s.life.stn)
    (pic : t.pic = s.pic) : t.PictureLaw :=
  law.of_quality running stn (by rw [pic]) (by rw [pic]) (by rw [pic])

/-- The picture as reset leaves it meets the law before acceptance (R6). -/
theorem pictureLaw_of_reset {s : State} (pic : s.pic = .reset) (idle : s.life.life.running = false) : s.PictureLaw := by
  refine (pictureLaw_iff s).2 fun x => ?_
  constructor <;> simp [State.rowKnown, State.rowUnknown, State.pointEntry, State.condEntry, pic, Picture.reset, idle]
end Machine
end Sys2Proof
end

section
namespace Sys2Proof
namespace Machine

/-! ### Acceptance: the start values of the roster and the own row (R7, R144) -/

/-- The presence a station starts with. -/
def Settings.startPresence (set : Settings) (own st : Station) : Presence :=
  if st = own then .self else if set.expected.getLsbD st.val then .unheard else .notExpected

/-- The entry an own condition starts with. -/
def Settings.startCond (set : Settings) (c : CondIx) : CondEntry :=
  ⟨if (set.conds.get c).enabled then .normal else .unused, false, 0, .good⟩

/-- One station's entry in step 2 of the acceptance. -/
def State.startStation (t : State) (st : Station) : State :=
  if st = t.own then t.writeRoster st { t.pic.roster.get st with presence := .self }
  else if t.settings.expected.getLsbD st.val then t.writeRoster st { t.pic.roster.get st with presence := .unheard }
  else t

/-- One own condition in step 2 of the acceptance. -/
def State.startOwnCond (t : State) (c : CondIx) : State :=
  t.writeCond t.own c { t.ownCond c with
    quality := .good
    state := if (t.settings.conds.get c).enabled then (t.ownCond c).state else .unused }

/-- Step 2 is the stations, then the own conditions. -/
theorem startPicture_eq (s : State) :
    s.startPicture = (indices 8).foldl State.startOwnCond ((indices 32).foldl State.startStation s) := rfl

/-- A station that is not expected is left as reset leaves it. -/
theorem startStation_eq (s : State) (st : Station) : s.startStation st =
    if s.settings.startPresence s.own st = .notExpected then s
    else s.writeRoster st { s.pic.roster.get st with presence := s.settings.startPresence s.own st } := by
  simp only [State.startStation, Settings.startPresence]
  (repeat' split) <;> simp_all

@[simp] theorem State.startStation_keeps (s : State) (st : Station) :
    (s.startStation st).held = s.held ∧ (s.startStation st).clock = s.clock ∧ (s.startStation st).pins = s.pins ∧
    (s.startStation st).settings = s.settings ∧ (s.startStation st).life = s.life ∧
    (s.startStation st).loader = s.loader ∧ (s.startStation st).pic.points = s.pic.points ∧
    (s.startStation st).pic.conds = s.pic.conds ∧ (s.startStation st).input = s.input ∧
    (s.startStation st).cond.run = s.cond.run ∧ (s.startStation st).ann = s.ann ∧
    (s.startStation st).frame = s.frame ∧ (s.startStation st).line = s.line ∧ (s.startStation st).out = s.out ∧
    (s.startStation st).journal = s.journal ∧ (s.startStation st).port = s.port ∧
    (s.startStation st).report = s.report ∧ (s.startStation st).pending = s.pending := by
  rw [startStation_eq]
  split <;> simp

/-- What step 2 makes of one station's entry as reset leaves it. -/
theorem startStation_effect {s : State} {st : Station}
    (fresh : s.pic.roster.get st = ⟨.notExpected, none, none, none, false, false⟩) :
    (s.startStation st).pic.roster =
      s.pic.roster.set st ⟨s.settings.startPresence s.own st, none, none, none, false, false⟩ ∧
    (s.startStation st).cond.notices = s.cond.notices ++ (if s.settings.startPresence s.own st = .notExpected then []
      else [.presence st .notExpected (s.settings.startPresence s.own st)]) := by
  rw [startStation_eq]
  by_cases h : s.settings.startPresence s.own st = .notExpected
  · rw [if_pos h, if_pos h, h, ← fresh, Tab.set_get, List.append_nil]
    exact ⟨rfl, rfl⟩
  · simp only [if_neg h, State.writeRoster, fresh, State.notice, State.onPic, State.onCond, Picture.setRoster, true_and]

/-- What two events in a row leave as it was. -/
theorem State.changesOnly_trans {s t u : State} {l : List Block} (first : s.changesOnly l t)
    (second : t.changesOnly l u) : s.changesOnly l u := by
  intro b hb
  have h := first b hb
  have h' := second b hb
  cases b <;> exact Eq.trans h' h

/-- What events one after the other leave as it was. -/
theorem foldl_changesOnly {β : Type} {f : State → β → State} {l : List Block}
    (each : ∀ (t : State) (b : β), t.changesOnly l (f t b)) (xs : List β) (s : State) : s.changesOnly l (xs.foldl f s) := by
  induction xs generalizing s with
  | nil => exact State.changesOnly_refl l s
  | cons x xs ih => exact State.changesOnly_trans (each s x) (ih _)

/-- What step 2 makes of the stations. -/
theorem startStations_effect {l : List Station} (distinct : l.Nodup) {s : State}
    (fresh : ∀ st ∈ l, s.pic.roster.get st = ⟨.notExpected, none, none, none, false, false⟩) :
    let t := l.foldl State.startStation s
    (∀ st, t.pic.roster.get st = if st ∈ l then ⟨s.settings.startPresence s.own st, none, none, none, false, false⟩
      else s.pic.roster.get st) ∧
    t.cond.notices = s.cond.notices ++ (l.filter (fun st => s.settings.startPresence s.own st != .notExpected)).map
      (fun st => .presence st .notExpected (s.settings.startPresence s.own st)) := by
  induction l generalizing s with
  | nil => simp
  | cons st l ih =>
    obtain ⟨notIn, distinct⟩ := List.nodup_cons.1 distinct
    obtain ⟨roster, notices⟩ := startStation_effect (fresh st (by simp))
    obtain ⟨rest, later⟩ := ih distinct (s := s.startStation st) (fun x hx => by
      have other : st ≠ x := fun h => notIn (h ▸ hx)
      rw [roster, Tab.get_set, if_neg other]
      exact fresh x (List.mem_cons_of_mem _ hx))
    simp only [State.own, State.startStation_keeps] at rest later
    simp only [List.foldl_cons]
    constructor
    · intro x
      rw [rest, roster, Tab.get_set]
      by_cases hx : x ∈ l
      · simp [hx, State.own]
      · by_cases hs : st = x
        · subst hs; simp [hx]
        · simp [hx, hs, Ne.symm hs]
    · rw [later, notices, List.filter_cons]
      by_cases h : s.settings.startPresence s.own st = .notExpected
      · simp only [State.own] at h
        simp [h, State.own]
      · simp only [State.own] at h
        simp [h, State.own]

/-- What step 2 leaves as it was as it goes through the stations. -/
theorem startStations_keeps (l : List Station) (s : State) : s.changesOnly [.pic, .cond] (l.foldl State.startStation s) ∧
    (l.foldl State.startStation s).pic.points = s.pic.points ∧ (l.foldl State.startStation s).pic.conds = s.pic.conds ∧
    (l.foldl State.startStation s).cond.run = s.cond.run :=
  ⟨foldl_changesOnly (fun t st b hb => by cases b <;> simp at hb <;> simp [Block.same]) l s,
    foldl_keeps (fun t : State => t.pic.points) (by simp) l s, foldl_keeps (fun t : State => t.pic.conds) (by simp) l s,
    foldl_keeps (fun t : State => t.cond.run) (by simp) l s⟩

/-- What step 2 makes of one own condition as reset leaves it. -/
theorem startOwnCond_effect {s : State} {c : CondIx} (fresh : s.ownCond c = ⟨.normal, false, 0, .unknown⟩) :
    (∀ x k, (s.startOwnCond c).condEntry x k = if x = s.own ∧ k = c then s.settings.startCond c else s.condEntry x k) ∧
    (s.startOwnCond c).cond.notices =
      s.cond.notices ++ [.cond s.own c ⟨.normal, false, 0, .unknown⟩ (s.settings.startCond c)] ∧
    (s.startOwnCond c).pic.roster = s.pic.roster ∧ (s.startOwnCond c).pic.points = s.pic.points ∧
    (s.startOwnCond c).cond.run = s.cond.run ∧ s.changesOnly [.pic, .cond] (s.startOwnCond c) := by
  have written : s.startOwnCond c = s.writeCond s.own c (s.settings.startCond c) := by
    simp only [State.startOwnCond, fresh, Settings.startCond]
  have before : s.condEntry s.own c = ⟨.normal, false, 0, .unknown⟩ := fresh
  have changed : s.settings.startCond c ≠ s.condEntry s.own c := by
    simp [before, Settings.startCond]
  have noClear : (s.writeCond s.own c (s.settings.startCond c)).ann.clears = s.ann.clears := by
    rw [State.writeCond_clears, if_neg, List.append_nil]
    rintro ⟨-, -, calls⟩
    revert calls
    simp only [callsForClear, Settings.startCond]
    split <;> simp
  have ann : (s.writeCond s.own c (s.settings.startCond c)).ann =
      { s.ann with clears := (s.writeCond s.own c (s.settings.startCond c)).ann.clears } :=
    AnnUnit.eq_with_clears (by simp) (by simp) (by simp) (by simp)
  rw [noClear] at ann
  rw [written]
  refine ⟨fun x k => by simp, by rw [State.writeCond_notices, if_neg changed, before], by simp, by simp, by simp, ?_⟩
  intro b hb
  cases b <;> simp at hb <;> simp [Block.same, ann]

/-- What step 2 makes of own conditions. -/
theorem startOwnConds_effect {l : List CondIx} (distinct : l.Nodup) {s : State}
    (fresh : ∀ c ∈ l, s.ownCond c = ⟨.normal, false, 0, .unknown⟩) :
    let t := l.foldl State.startOwnCond s
    (∀ x k, t.condEntry x k = if x = s.own ∧ k ∈ l then s.settings.startCond k else s.condEntry x k) ∧
    t.cond.notices =
      s.cond.notices ++ l.map (fun c => .cond s.own c ⟨.normal, false, 0, .unknown⟩ (s.settings.startCond c)) ∧
    t.pic.roster = s.pic.roster ∧ t.pic.points = s.pic.points ∧ t.cond.run = s.cond.run ∧
    s.changesOnly [.pic, .cond] t := by
  induction l generalizing s with
  | nil => simp [State.changesOnly_refl]
  | cons c l ih =>
    obtain ⟨notIn, distinct⟩ := List.nodup_cons.1 distinct
    obtain ⟨entry, notices, roster, points, run, only⟩ := startOwnCond_effect (fresh c (by simp))
    have own : (s.startOwnCond c).own = s.own := congrArg LifeControl.stn (only .life (by simp))
    have settings : (s.startOwnCond c).settings = s.settings := only .settings (by simp)
    obtain ⟨rest, later, roster', points', run', only'⟩ := ih distinct (s := s.startOwnCond c) (fun k hk => by
      have other : k ≠ c := fun h => notIn (h ▸ hk)
      rw [State.ownCond, own, entry, if_neg (fun h => other h.2)]
      exact fresh k (List.mem_cons_of_mem _ hk))
    rw [own, settings] at rest later
    refine ⟨?_, ?_, roster'.trans roster, points'.trans points, run'.trans run, State.changesOnly_trans only only'⟩
    · intro x k
      rw [List.foldl_cons, rest, entry]
      by_cases hk : k ∈ l
      · have other : k ≠ c := fun h => notIn (h ▸ hk)
        simp [hk, other]
      · by_cases hc : k = c
        · subst hc; simp [hk]
        · simp [hk, hc]
    · rw [List.foldl_cons, later, notices]
      simp

/-- What step 2 makes of a picture as reset leaves it. -/
theorem startPicture_effect {s : State} (fresh : s.pic = .reset) :
    let t := s.startPicture
    (∀ st, t.pic.roster.get st = ⟨s.settings.startPresence s.own st, none, none, none, false, false⟩) ∧
    (∀ x k, t.condEntry x k = if x = s.own then s.settings.startCond k else ⟨.normal, false, 0, .unknown⟩) ∧
    t.cond.notices = s.cond.notices ++
      ((indices 32).filter (fun st => s.settings.startPresence s.own st != .notExpected)).map
        (fun st => .presence st .notExpected (s.settings.startPresence s.own st)) ++
      (indices 8).map (fun c => .cond s.own c ⟨.normal, false, 0, .unknown⟩ (s.settings.startCond c)) ∧
    t.pic.points = s.pic.points ∧ t.cond.run = s.cond.run ∧ s.changesOnly [.pic, .cond] t := by
  obtain ⟨m, hm⟩ : ∃ m, m = (indices 32).foldl State.startStation s := ⟨_, rfl⟩
  have start : s.startPicture = (indices 8).foldl State.startOwnCond m := by rw [hm]; exact startPicture_eq s
  obtain ⟨roster, notices⟩ := startStations_effect (indices_nodup 32) (s := s) (fun st _ => by rw [fresh]; simp [Picture.reset])
  obtain ⟨only, points, conds, run⟩ := startStations_keeps (indices 32) s
  rw [← hm] at roster notices only points conds run
  have own : m.own = s.own := congrArg LifeControl.stn (only .life (by simp))
  have settings : m.settings = s.settings := only .settings (by simp)
  have reset : ∀ x k, m.condEntry x k = ⟨.normal, false, 0, .unknown⟩ := by
    intro x k
    rw [State.condEntry, conds, fresh]
    simp [Picture.reset]
  obtain ⟨entry, later, roster', points', run', only'⟩ := startOwnConds_effect (indices_nodup 8) (s := m)
    (fun c _ => reset m.own c)
  rw [own, settings, ← start] at entry later
  rw [← start] at roster' points' run' only'
  refine ⟨?_, ?_, by rw [later, notices], points'.trans points, run'.trans run, State.changesOnly_trans only only'⟩
  · intro st
    rw [roster', roster, if_pos (mem_indices st)]
  · intro x k
    rw [entry, reset]
    simp

/-! ### Acceptance: the start values of the inputs and the own points (R32, R35) -/

/-- The Point Input Unit and TEST's level take the levels of this moment. -/
def State.senseStart (s : State) : State :=
  (s.onInput (fun u =>
    { lines := .build (fun n => if s.settings.debounces n then ⟨s.pins.lines.get n, none, none⟩ else u.lines.get n)
      pairs := .build (fun k =>
        if s.settings.isPair k then
          ⟨.complement, if s.relationNow k = .agree then some (s.after (s.settings.debounceTime (evenLine k))) else none⟩
        else u.pairs.get k)
      ack := ⟨s.pins.ack, none, none⟩
      silence := ⟨s.pins.silence, none, none⟩
      test := ⟨s.pins.test, none, none⟩ })).onOut (fun o => { o with testLevel := s.pins.test })

/-- The value an own point starts with. -/
def State.startPoint (s : State) (p : PointIx) : PointEntry :=
  ⟨(s.settings.lines.get (s.settings.valueLine p)).mode.value (s.pins.lines.get (s.settings.valueLine p)), .good⟩

/-- A line whose value a point takes is debounced, or UNUSED. -/
theorem valueLine_unused {set : Settings} {p : PointIx} (h : set.debounces (set.valueLine p) = false) :
    (set.lines.get (set.valueLine p)).mode = .unused := by
  simp only [Settings.valueLine] at h ⊢
  split at h
  · rename_i pair
    rw [if_pos pair]
    simpa [Settings.debounces, evenLine, Settings.isPair] using h
  · rename_i single
    rw [if_neg single]
    simpa [Settings.debounces, single] using h

/-- Step 3 is the levels taken, then the own points written. -/
theorem startPoints_eq (s : State) : s.startPoints =
    ((indices 16).map (fun p => (p, s.startPoint p))).foldl (fun t x => t.writePoint t.own x.1 x.2) s.senseStart := by
  have value : ∀ p, (s.settings.lines.get (s.settings.valueLine p)).mode.value
      (s.senseStart.input.lines.get (s.settings.valueLine p)).accepted = (s.startPoint p).value := by
    intro p
    simp only [State.senseStart, State.onInput, State.onOut, Tab.get_build, State.startPoint]
    by_cases h : s.settings.debounces (s.settings.valueLine p) = true
    · rw [if_pos h]
    · rw [valueLine_unused (by simpa using h)]
      rfl
  have along : ∀ (l : List PointIx) (t : State), t.input = s.senseStart.input →
      l.foldl (fun t p => t.writePoint t.own p ⟨(s.settings.lines.get (s.settings.valueLine p)).mode.value
        (t.input.lines.get (s.settings.valueLine p)).accepted, .good⟩) t =
      (l.map (fun p => (p, s.startPoint p))).foldl (fun t x => t.writePoint t.own x.1 x.2) t := by
    intro l
    induction l with
    | nil => intro t _; rfl
    | cons p l ih =>
      intro t input
      rw [List.map_cons, List.foldl_cons, List.foldl_cons, input, value]
      exact ih _ (by simp [input])
  exact along (indices 16) s.senseStart rfl

/-- What step 3 makes of own points as reset leaves them. -/
theorem startPoints_effect {s : State} (points : ∀ p, s.pointEntry s.own p = ⟨false, .unknown⟩) :
    let t := s.startPoints
    (∀ x p, t.pointEntry x p = if x = s.own then s.startPoint p else s.pointEntry x p) ∧
    t.cond.notices = s.cond.notices ++
      (indices 16).map (fun p => .point s.own p ⟨false, .unknown⟩ (s.startPoint p)) ∧
    t.input = s.senseStart.input ∧ t.out = { s.out with testLevel := s.pins.test } ∧
    t.pic.roster = s.pic.roster ∧ t.pic.conds = s.pic.conds ∧ t.cond.run = s.cond.run ∧
    s.changesOnly [.pic, .cond, .input, .out] t := by
  intro t
  have start : t = ((indices 16).map (fun p => (p, s.startPoint p))).foldl (fun t x => t.writePoint t.own x.1 x.2)
      s.senseStart := startPoints_eq s
  have input : t.input = s.senseStart.input := by
    rw [start]; exact foldl_keeps (fun u : State => u.input) (by simp) _ _
  have out : t.out = s.senseStart.out := by
    rw [start]; exact foldl_keeps (fun u : State => u.out) (by simp) _ _
  have roster : t.pic.roster = s.senseStart.pic.roster := by
    rw [start]; exact foldl_keeps (fun u : State => u.pic.roster) (by simp) _ _
  have conds : t.pic.conds = s.senseStart.pic.conds := by
    rw [start]; exact foldl_keeps (fun u : State => u.pic.conds) (by simp) _ _
  have run : t.cond.run = s.senseStart.cond.run := by
    rw [start]; exact foldl_keeps (fun u : State => u.cond.run) (by simp) _ _
  have written : s.senseStart.changesOnly [.pic, .cond, .input, .out] t := by
    rw [start]
    refine foldl_changesOnly (fun u x b hb => ?_) _ _
    cases b <;> simp at hb <;> simp [Block.same]
  have sensed : s.changesOnly [.pic, .cond, .input, .out] s.senseStart := by
    intro b hb
    cases b <;> simp at hb <;> rfl
  obtain ⟨entry, notices⟩ := fold_write_points s.senseStart ((indices 16).map (fun p => (p, s.startPoint p)))
    (by simpa [Function.comp_def] using indices_nodup 16) s.own rfl
  rw [← start] at entry notices
  have before : ∀ x p, s.senseStart.pointEntry x p = s.pointEntry x p := fun _ _ => rfl
  refine ⟨?_, ?_, input, out, roster, conds, run, State.changesOnly_trans sensed written⟩
  · intro x p
    rw [entry, find_point_pair, if_pos (mem_indices p)]
    rfl
  · have changed : ∀ p ∈ indices 16, (s.senseStart.pointEntry s.own p != s.startPoint p) = true := by
      intro p _
      rw [before, points]
      simp [State.startPoint]
    rw [notices, List.filter_map, List.map_map]
    simp only [Function.comp_def]
    rw [List.filter_eq_self.2 changed]
    simp only [before, points]
    rfl
end Machine
end Sys2Proof
end

section
namespace Sys2Proof
namespace Machine

/-! ### Acceptance meets the law of the picture -/

/-- The start values of the roster and the own row meet the law (R7, R32). -/
theorem startValues_pictureLaw {s : State} (fresh : s.pic = .reset) : s.startPicture.startPoints.PictureLaw := by
  obtain ⟨roster, entry, -, points, -, only⟩ := startPicture_effect fresh
  have own : s.startPicture.own = s.own := congrArg LifeControl.stn (only .life (by simp))
  have reset : ∀ x p, s.startPicture.pointEntry x p = ⟨false, .unknown⟩ := by
    intro x p
    rw [State.pointEntry, points, fresh]
    simp [Picture.reset]
  obtain ⟨point, -, -, -, roster', conds', -, only'⟩ := startPoints_effect (s := s.startPicture) (fun p => reset _ p)
  have own' : s.startPicture.startPoints.own = s.own := (congrArg LifeControl.stn (only' .life (by simp))).trans own
  have cond : ∀ x k, s.startPicture.startPoints.condEntry x k = s.startPicture.condEntry x k := by
    intro x k; rw [State.condEntry, conds']; rfl
  have presence : ∀ x, s.settings.startPresence s.own x = .self ↔ x = s.own := by
    intro x
    simp only [Settings.startPresence]
    (repeat' split) <;> simp_all
  have unlike : ∀ x, s.settings.startPresence s.own x ≠ .present ∧ s.settings.startPresence s.own x ≠ .absent := by
    intro x
    simp only [Settings.startPresence]
    (repeat' split) <;> simp
  refine (pictureLaw_iff _).2 fun x => ?_
  constructor <;> simp only [roster', roster, own', own, State.rowKnown, State.rowUnknown, point, cond, entry, reset]
  · exact fun _ => presence x
  · simp [unlike]
  · simp [unlike]
  · intro peer _
    simp [peer]
  · rintro _ rfl
    simp [State.startPoint, Settings.startCond]
  · simp [unlike]
  · simp
  · simp

/-- The station as an accepted image's settings are handed to the blocks, in LISTENING already. -/
def State.accepting (set : Settings) (s : State) : State :=
  (s.takeSettings set).setLife (fun l => { l with life := .listening })

/-- The station with its start values taken, before its first record. -/
def State.started (set : Settings) (s : State) : State := (s.accepting set).startPicture.startPoints

/-- An image is accepted in steps: the start values, STARTED, then the entry evaluation and all after it. -/
theorem acceptImage_eq (set : Settings) (s : State) : s.acceptImage set =
    ((s.started set).record (.started (s.started set).own set.version)).startRunning := rfl

/-- The entry evaluation evaluates every condition (R47). -/
theorem evaluateAll_eq (s : State) : s.evaluateAll = s.evaluateEach (indices 8) := rfl

/-- The entry evaluation and all after it write no quality. -/
@[simp] theorem startRunning_condQuality (s : State) : s.startRunning.pic.condQuality = s.pic.condQuality := by
  simp [State.startRunning, evaluateAll_eq]

/-- A station that takes its start values is in LISTENING. -/
@[simp] theorem started_life (set : Settings) (s : State) : (s.started set).life =
    { s.life with life := .listening, fault := .none, sfault := s.life.lineStuck } := by
  simp [State.started, State.accepting, State.takeSettings, State.setLife, LifeControl.driveSfault]

/-- The image accepted meets the law of the picture. -/
theorem acceptImage_pictureLaw {s : State} (fresh : s.pic = .reset) (set : Settings) : (s.acceptImage set).PictureLaw := by
  have start : (s.started set).PictureLaw := startValues_pictureLaw (by simp [State.accepting, fresh])
  rw [acceptImage_eq]
  exact start.of_quality (by simp [Life.running]) (by simp) (by simp) (by simp) (by simp)

/-- An image check's end meets the law: the picture starts afresh, or stays as reset leaves it. -/
theorem imageCheckEnd_pictureLaw {s : State} (idle : s.IdleLaw) (law : s.PictureLaw) : s.imageCheckEnd.PictureLaw := by
  simp only [State.imageCheckEnd]
  split
  · rename_i checking
    have notRunning : s.life.life.running = false := by rw [checking.2]; rfl
    have fresh := idle.picture notRunning
    split
    · rename_i set _
      have accepted : ∀ m : State, m.pic = s.pic → (m.acceptImage set).settle.PictureLaw := fun m pic =>
        (acceptImage_pictureLaw (pic.trans fresh) set).of_pic (by simp) (by simp) (by simp)
      simp only [State.passImage]
      split <;> exact accepted _ (by simp)
    · refine pictureLaw_of_reset (by simp [fresh]) ?_
      simp only [State.failImage]
      split <;> simp [checking.2, Life.running]
  · exact law

/-! ### Own points written -/

/-- Own points written with known qualities keep the law of the picture. -/
theorem writeOwnPoints_pictureLaw {s t : State} (law : s.PictureLaw) {l : List (PointIx × PointEntry)}
    (distinct : (l.map Prod.fst).Nodup) (pic : t.pic = s.pic) (life : t.life = s.life)
    (known : ∀ y ∈ l, y.2.quality = (s.pointEntry s.own y.1).quality ∨ y.2.quality ≠ .unknown) :
    (t.writeOwnPoints l).PictureLaw := by
  obtain ⟨entry, -, -, -, roster, conds, -⟩ := writeOwnPoints_effect t l distinct
  have own : t.own = s.own := congrArg LifeControl.stn life
  refine (pictureLaw_iff _).2 fun x => ((pictureLaw_iff s).1 law x).of_keeps
    (.of_same (by rw [roster, pic]) (fun c => ?_) (fun p => ?_)) (by simp [life]) (by simp [State.own, life])
  · rw [State.condEntry, conds, pic]; rfl
  · rw [entry]
    cases found : l.find? (fun y => y.1 = p) with
    | none => exact .inl (by simp [State.pointEntry, pic])
    | some y =>
      have mem := List.mem_of_find?_eq_some found
      have at_p : y.1 = p := by simpa using List.find?_some found
      by_cases hx : x = t.own
      · simp only [hx, if_true]
        rcases known y mem with same | known
        · exact .inl (by rw [same, at_p, own])
        · exact .inr ⟨own, known⟩
      · exact .inl (by simp [hx, State.pointEntry, pic])

/-- A debounce timer's expiry writes own points with their qualities kept. -/
theorem debounceExpiry_pictureLaw {s : State} (law : s.PictureLaw) (n : PointIx) : (s.debounceExpiry n).PictureLaw := by
  simp only [State.debounceExpiry]
  split
  · rename_i level due _ _
    obtain ⟨m, hm⟩ : ∃ m, m = (s.reachTime due).setLine n (s.input.lines.get n).expire := ⟨_, rfl⟩
    have pic : m.pic = s.pic := by simp [hm]
    have life : m.life = s.life := by simp [hm]
    obtain ⟨distinct, written⟩ := acceptedChange_eq m n level
    have kept : (m.acceptedChange n level).PictureLaw := by
      rw [written]
      refine writeOwnPoints_pictureLaw law ?_ pic life ?_
      · rw [List.map_map]
        simpa [Function.comp_def] using distinct
      · intro y hy
        obtain ⟨p, -, rfl⟩ := List.mem_map.1 hy
        exact .inl (by simp [State.pointEntry, State.own, pic, life])
    rw [← hm]
    exact kept.of_pic (by simp) (by simp) (by simp)
  · exact law

/-- A pair timer's expiry writes both points of the pair with a known quality. -/
theorem pairExpiry_pictureLaw {s : State} (law : s.PictureLaw) (k : PairIx) : (s.pairExpiry k).PictureLaw := by
  simp only [State.pairExpiry]
  split
  · rename_i due _
    obtain ⟨m, hm⟩ : ∃ m, m = (s.reachTime due).setPair k ⟨(s.input.pairs.get k).accepted.other, none⟩ := ⟨_, rfl⟩
    have kept : (m.pairQuality k (s.input.pairs.get k).accepted.other.quality).PictureLaw := by
      refine writeOwnPoints_pictureLaw law (by simp [evenLine, oddLine]) (by simp [hm]) (by simp [hm]) ?_
      cases (s.input.pairs.get k).accepted <;> simp [Relation.other, Relation.quality]
    rw [← hm]
    exact kept.of_pic (by simp) (by simp) (by simp)
  · exact law

/-! ### Absence (R16) -/

/-- An absence timer's expiry turns the row UNKNOWN as the station becomes ABSENT. -/
theorem absenceExpiry_pictureLaw {s : State} (law : s.PictureLaw) (idle : s.IdleLaw) (st : Station) :
    (s.absenceExpiry st).PictureLaw := by
  simp only [State.absenceExpiry]
  split
  · rename_i due present _
    have running : s.life.life.running = true := by
      rw [← Bool.not_eq_false]
      intro idling
      simp [idle.picture idling, Picture.reset] at present
    have peer : st ≠ s.own := by
      intro own
      have := (law.self running st).2 own
      simp [present] at this
    obtain ⟨t, ht⟩ : ∃ t, t = (s.reachTime due).becomeAbsent st := ⟨_, rfl⟩
    have pic : t.pic = s.pic.absent st := by
      rw [ht, State.becomeAbsent_eq]
      simpa using (rowAbsent_effect st (s.reachTime due)).1
    have life : t.life = s.life := by simp [ht]
    obtain ⟨points, conds⟩ := Picture.absent_entries st s.pic
    have absent : t.PictureLaw := by
      refine (pictureLaw_iff _).2 fun x => ?_
      have before := (pictureLaw_iff s).1 law x
      by_cases hx : x = st
      · subst hx
        have entry : t.pic.roster.get x =
            { s.pic.roster.get x with presence := .absent, absence := none, restartSeen := false } := by
          simp [pic, Picture.absent]
        constructor <;> simp only [entry, life, State.own]
        · exact fun _ => by simpa [State.own] using peer
        · simp
        · simp
        · exact fun _ _ => ⟨by simp [State.pointEntry, pic, points], by simp [State.condEntry, pic, conds]⟩
        · exact fun _ own => absurd own peer
        · simpa [present] using before.held
        · exact before.code
        · simp
      · refine before.of_keeps (.of_same ?_ ?_ ?_) (by simp [life]) (by simp [State.own, life])
        · simp [pic, Picture.absent, Tab.get_set, Ne.symm hx]
        · simp [State.condEntry, pic, conds, hx]
        · simp [State.pointEntry, pic, points, hx]
    rw [← ht]
    exact absent.of_pic (by simp) (by simp) (by simp)
  · exact law

/-! ### Frames (R5, R8) -/

/-- A frame that bears the own number, or that does not decode, reaches no block that writes the picture; any other goes
to the unit of its kind (R99 to R101). -/
theorem receiveFrame_cases (s : State) (bytes : List Byte) :
    ((s.receiveFrame bytes).pic = s.pic ∧ (s.receiveFrame bytes).life.stn = s.life.stn ∧
      ((s.receiveFrame bytes).life.life.running = true → s.life.life.running = true)) ∨
    ∃ st p, decodeFrame bytes = some ⟨st, p⟩ ∧ st ≠ s.own ∧ s.receiveFrame bytes = match p with
      | .state f => s.takeState st f
      | .ackreq target mask pairs => (s.heard st).takeAckreq target mask pairs
      | .silence zones => (s.heard st).takeSilence zones := by
  have duplicate : ∀ m : State, m.pic = s.pic → m.life = s.life → m.duplicateNotice.pic = s.pic ∧
      m.duplicateNotice.life.stn = s.life.stn ∧
      (m.duplicateNotice.life.life.running = true → s.life.life.running = true) := by
    intro m pic life
    refine ⟨by simp [pic], by simp [life], ?_⟩
    cases h : s.life.life <;> simp [State.duplicateNotice, life, h, Life.running]
  by_cases own : frameOrigin bytes = s.own
  · left
    have same : s.receiveFrame bytes =
        (if (decodeFrame bytes).isNone then s.raiseDiscarded else s).duplicateNotice := by
      unfold State.receiveFrame
      split <;> exact if_pos (by simpa [State.own] using own)
    rw [same]
    split
    · exact duplicate _ (by simp) (by simp)
    · exact duplicate s rfl rfl
  · cases decoded : decodeFrame bytes with
    | none =>
      left
      have same : s.receiveFrame bytes = s.raiseDiscarded := by
        unfold State.receiveFrame
        simp only [decoded, Option.isNone_none, if_true]
        exact if_neg (by simpa [State.own] using own)
      simp [same]
    | some f =>
      obtain ⟨st, p⟩ := f
      have other : st ≠ s.own := by
        have : st = frameOrigin bytes := decodeFrame_origin decoded
        rwa [this]
      exact .inr ⟨st, p, rfl, other, by rw [receiveFrame_eq decoded other]; cases p <;> rfl⟩

/-- A STATE taken writes a known row of a PRESENT peer. -/
theorem takeRow_pictureLaw {s : State} (law : s.PictureLaw) {st : Station} (peer : st ≠ s.own) (f : StateFrame) :
    (s.takeRow st f).PictureLaw := by
  obtain ⟨t, ht⟩ : ∃ t, t = s.takeRow st f := ⟨_, rfl⟩
  have pic : t.pic = s.pic.takeRow st (s.rosterAfter (s.pic.roster.get st) f) f := by
    rw [ht, State.takeRow_eq]
    simpa using (rowTaken_effect st f s).1
  have life : t.life = s.life := by simp [ht]
  obtain ⟨points, conds⟩ := Picture.takeRow_entries st (s.rosterAfter (s.pic.roster.get st) f) f s.pic
  rw [← ht]
  refine (pictureLaw_iff _).2 fun x => ?_
  have before := (pictureLaw_iff s).1 law x
  by_cases hx : x = st
  · subst hx
    have entry : t.pic.roster.get x = s.rosterAfter (s.pic.roster.get x) f := by simp [pic, Picture.takeRow]
    have known : t.rowKnown x := by
      refine ⟨fun p => ?_, fun c => ?_⟩
      · simp only [State.pointEntry, pic, points, if_true, StateFrame.point]
        split <;> simp
      · simp [State.condEntry, pic, conds, StateFrame.cond]
    constructor <;> simp only [entry, life, State.own, State.rosterAfter]
    · exact fun _ => by simpa [State.own] using peer
    · simp
    · exact fun _ => known
    · simp
    · exact fun _ _ => known
    · simp
    · simp
    · simp
  · refine before.of_keeps (.of_same ?_ ?_ ?_) (by simp [life]) (by simp [State.own, life])
    · simp [pic, Picture.takeRow, Tab.get_set, Ne.symm hx]
    · simp [State.condEntry, pic, conds, hx]
    · simp [State.pointEntry, pic, points, hx]

/-- A stranger's STATE sets its flag alone (R9). -/
theorem strangerState_pictureLaw {s : State} (law : s.PictureLaw) (st : Station) : (s.strangerState st).PictureLaw := by
  simp only [State.strangerState]
  split
  · exact law
  · refine (pictureLaw_iff _).2 fun x => ((pictureLaw_iff s).1 law x).of_keeps ?_ (by simp) (by simp [State.own])
    by_cases hx : x = st
    · subst hx
      constructor <;> simp [Picture.setRoster, State.condEntry, State.pointEntry]
    · refine .of_same ?_ ?_ ?_ <;> simp [Picture.setRoster, Tab.get_set, Ne.symm hx, State.condEntry, State.pointEntry]

/-- A frame heard from a PRESENT peer restarts its absence timer, and leaves it running (R15). -/
theorem heard_pictureLaw {s : State} (law : s.PictureLaw) (st : Station) : (s.heard st).PictureLaw := by
  rw [heard_eq]
  split
  · rename_i present
    refine (pictureLaw_iff _).2 fun x => ((pictureLaw_iff s).1 law x).of_keeps ?_ (by simp) (by simp [State.own])
    by_cases hx : x = st
    · subst hx
      have timer := (law.timer x).2 present
      constructor <;> simp [Picture.setRoster, State.condEntry, State.pointEntry, timer]
    · refine .of_same ?_ ?_ ?_ <;> simp [Picture.setRoster, Tab.get_set, Ne.symm hx, State.condEntry, State.pointEntry]
  · exact law

/-- The Frame Unit keeps the law of the picture. -/
theorem receiveFrame_pictureLaw {s : State} (law : s.PictureLaw) (bytes : List Byte) :
    (s.receiveFrame bytes).PictureLaw := by
  rcases receiveFrame_cases s bytes with ⟨pic, stn, running⟩ | ⟨st, p, -, other, taken⟩
  · exact law.of_pic running stn pic
  · rw [taken]
    cases p with
    | state f =>
      simp only [State.takeState]
      split
      · exact law
      · exact strangerState_pictureLaw law st
      all_goals exact takeRow_pictureLaw law other f
    | ackreq target mask pairs =>
      exact (heard_pictureLaw law st).of_quality (by simp) (by simp) (by simp) (by simp) (by simp)
    | silence zones => exact (heard_pictureLaw law st).of_pic (by simp) (by simp) (by simp)

/-- FRAME_END by what its levels decode to: a valid frame heard is taken, and anything else changes nothing (R121). -/
theorem frameEnd_cases (s : State) (levels : List Level) : s.frameEnd levels = s ∨
    ∃ bytes, readReception levels = .complete bytes ∧ validOnLine bytes = true ∧
      s.frameEnd levels = ((s.atFrameEnd bytes).receiveFrame bytes).driveOutputs := by
  simp only [State.frameEnd]
  split
  · rename_i bytes read
    split
    · rename_i valid
      exact .inr ⟨bytes, read, valid.2, rfl⟩
    · exact .inl rfl
  all_goals exact .inl rfl

/-- FRAME_END keeps the law of the picture. -/
theorem frameEnd_pictureLaw {s : State} (law : s.PictureLaw) (levels : List Level) : (s.frameEnd levels).PictureLaw := by
  rcases frameEnd_cases s levels with same | ⟨bytes, -, -, taken⟩
  · rwa [same]
  · rw [taken]
    have atEnd : (s.atFrameEnd bytes).PictureLaw := law.of_pic (by simp) (by simp) (by simp)
    exact (receiveFrame_pictureLaw atEnd bytes).of_pic (by simp) (by simp) (by simp)

/-- Every command keeps the laws of the picture while the RESET pin is not held. -/
theorem effectRunning_pictureLaw (c : Instr) {s : State} (law : s.PictureLaw) (idle : s.IdleLaw) :
    (effectRunning c s).PictureLaw := by
  cases c
  case reset => exact pictureLaw_of_reset rfl rfl
  case imageCheckEnd => exact imageCheckEnd_pictureLaw idle law
  case debounceExpiry line => exact debounceExpiry_pictureLaw law line
  case pairTimerExpiry pair => exact pairExpiry_pictureLaw law pair
  case absenceTimerExpiry station => exact absenceExpiry_pictureLaw law idle station
  case frameEnd levels => exact frameEnd_pictureLaw law levels
  case truthEdge cond =>
    simp only [effectRunning]
    split
    · exact law.of_quality (by simp) (by simp) (by simp) (by simp) (by simp)
    · exact law
  case listenTimerExpiry =>
    refine law.of_pic ?_ (by simp [effectRunning]) (by simp [effectRunning])
    simp only [effectRunning, State.listenExpiry]
    split <;> simp_all [Life.running]
  case withdrawTimerExpiry =>
    refine law.of_pic ?_ (by simp [effectRunning]) (by simp [effectRunning])
    simp only [effectRunning, State.withdrawExpiry]
    split <;> simp_all [Life.running]
  case collision bitTime =>
    refine law.of_pic ?_ (by simp [effectRunning]) (by simp [effectRunning])
    simp only [effectRunning, State.collision]
    split
    · rename_i sends
      have active : s.life.life = .active := by
        have := sends.1
        simp only [State.transmitting, Bool.and_eq_true, beq_iff_eq] at this
        exact this.1.1
      exact fun _ => by rw [active]; rfl
    · exact id
  all_goals
    refine law.of_quality ?_ ?_ ?_ ?_ ?_ <;> simp [effectRunning, State.writeCommand]

/-- Every command keeps the laws of the picture (R6, R140). -/
theorem effect_pictureLaw (c : Instr) {s : State} (law : s.PictureLaw) (idle : s.IdleLaw) :
    (effect c s).PictureLaw := by
  unfold effect
  split
  · by_cases hc : c.resets = true
    · cases c <;> simp only [Instr.resets, Bool.false_eq_true] at hc
      · exact pictureLaw_of_reset rfl rfl
      · rename_i source
        cases source <;> exact pictureLaw_of_reset rfl rfl
    · rcases effectHeld_of_not_resets (by simpa using hc) s with same | acts
      · rwa [same]
      · rw [acts]
        exact effectRunning_pictureLaw c law idle
  · exact effectRunning_pictureLaw c law idle

/-- Settles O53, one command at a time. -/
theorem stepsKeepThePictureLaw : Obligations.StepsKeepThePictureLaw := by
  intro s t lawful stepped
  rw [step_eq] at stepped
  cases stepped
  split
  · exact lawful.picture.of_pic (by simp) (by simp) (by simp)
  · rename_i c rest _
    have law : (s.withPending rest).PictureLaw := lawful.picture.of_pic id rfl rfl
    have idle : (s.withPending rest).IdleLaw := by
      obtain ⟨_, _, _, _, _, _, _, _, _, _, _⟩ := lawful.idle
      constructor <;> assumption
    exact effect_pictureLaw c law idle
end Machine
end Sys2Proof
end

section
namespace Sys2Proof
namespace Machine

/-! ### Rising edges taken one after the other (R60, R68 to R70) -/

/-- A line is composed from the settings, the count, the own number and the mirrors (R187, R189). -/
theorem composeLine_congr {s t : State} (settings : t.settings = s.settings) (own : t.own = s.own)
    (points : t.pic.points = s.pic.points) (conds : ∀ x k, t.condEntry x k = s.condEntry x k) (j : Job) :
    t.composeLine j = s.composeLine j := by
  have piece : t.renderPiece j = s.renderPiece j := by
    funext p
    cases p <;> simp [State.renderPiece, conds, own, State.pointEntry, points]
  have add : t.addPiece j = s.addPiece j := by
    funext line p
    simp only [State.addPiece, piece]
  simp only [State.composeLine, add, settings]

/-- The entry an own condition takes as it enters ALERT_UNACK: its generation is advanced (R59). -/
def CondEntry.alerted (e : CondEntry) : CondEntry := { e with state := .alertUnack, gen := e.gen + 1 }

/-- Rising edges wait for conditions that are NORMAL. -/
structure State.Rising (s : State) (l : List CondIx) : Prop where
  edges : s.ann.edges = l.map (fun c => ⟨c, true⟩)
  normal : ∀ c ∈ l, (s.ownCond c).state = .normal
  good : ∀ c ∈ l, (s.ownCond c).quality = .good

/-- The oldest rising edge of a NORMAL condition is taken as a change into ALERT_UNACK. -/
theorem State.Rising.taken {s : State} {c : CondIx} {l : List CondIx} (h : s.Rising (c :: l)) :
    ∃ t, s.takeEdge c = t.annChange c .alertUnack ∧ s.changesOnly [.ann] t ∧
      t.ann = { s.ann with seqTruth := s.ann.seqTruth.set c true, edges := l.map (fun k => ⟨k, true⟩) } := by
  have found : s.ann.edges.find? (fun e => e.cond == c) = some ⟨c, true⟩ := by simp [h.edges]
  obtain ⟨t, taken, only, ann⟩ := takeEdge_eq s c _ found
  refine ⟨t, ?_, only, by simp [ann, h.edges, dropEdge]⟩
  rw [taken, h.normal c (by simp)]
  cases s.classOfCond c <;> rfl

/-- What a rising edge taken of a NORMAL condition does to the mirror, the notices, the queue and the Annunciation Unit. -/
theorem State.Rising.head {s : State} {c : CondIx} {l : List CondIx} (h : s.Rising (c :: l)) :
    let u := s.takeEdge c
    (∀ x k, u.condEntry x k = if x = s.own ∧ k = c then (s.ownCond c).alerted else s.condEntry x k) ∧
    u.cond.notices = s.cond.notices ++ [.cond s.own c (s.ownCond c) (s.ownCond c).alerted] ∧
    u.frame = { s.frame with queue := if s.life.life.queues then urgentRequest s.frame.queue else s.frame.queue } ∧
    u.ann = { s.ann with
      seqTruth := s.ann.seqTruth.set c true
      edges := l.map (fun k => ⟨k, true⟩)
      clears := s.ann.clears ++ if s.settings.horn.contains ⟨s.own, c⟩ then [⟨s.own, c⟩] else [] } := by
  obtain ⟨t, taken, only, ann⟩ := h.taken
  have life : t.life = s.life := only .life (by simp)
  have pic : t.pic = s.pic := only .pic (by simp)
  have cond : t.cond = s.cond := only .cond (by simp)
  have frame : t.frame = s.frame := only .frame (by simp)
  have settings : t.settings = s.settings := only .settings (by simp)
  have own : t.own = s.own := congrArg LifeControl.stn life
  have ownCond : t.ownCond c = s.ownCond c := by rw [State.ownCond, own, State.condEntry, pic]; rfl
  have changed : AnnState.alertUnack ≠ (t.ownCond c).state := by rw [ownCond, h.normal c (by simp)]; simp
  obtain ⟨entry, notices, frame', -⟩ := annChange_effect t c .alertUnack
  have ann' := annChange_ann t c .alertUnack changed
  rw [taken]
  refine ⟨fun x k => ?_, ?_, ?_, ?_⟩
  · rw [entry, own, ownCond, State.condEntry, pic]
    rfl
  · rw [notices, if_neg (fun h => changed h.1), cond, own, ownCond]
    rfl
  · rw [frame', frame, life]
  · rw [ann', ann, own, settings, ownCond, h.good c (by simp)]
    simp

/-- A rising edge taken leaves the others waiting as they were. -/
theorem State.Rising.tail {s : State} {c : CondIx} {l : List CondIx} (h : s.Rising (c :: l)) (notIn : c ∉ l) :
    (s.takeEdge c).Rising l ∧ ∀ k ∈ l, (s.takeEdge c).ownCond k = s.ownCond k := by
  obtain ⟨entry, -, -, ann⟩ := h.head
  have same : ∀ k ∈ l, (s.takeEdge c).ownCond k = s.ownCond k := by
    intro k hk
    have other : k ≠ c := fun h => notIn (h ▸ hk)
    rw [State.ownCond, entry, if_neg (fun h => other h.2)]
    simp [State.ownCond, State.own]
  exact ⟨⟨by rw [ann], fun k hk => by rw [same k hk]; exact h.normal k (List.mem_cons_of_mem _ hk),
    fun k hk => by rw [same k hk]; exact h.good k (List.mem_cons_of_mem _ hk)⟩, same⟩

/-- The edges that conditions' truths made, taken one after the other. -/
def State.takeRising (l : List CondIx) (s : State) : State := l.foldl (fun t c => t.takeEdge c) s

/-- What rising edges of NORMAL conditions, taken one after the other, leave. -/
structure State.RisesTo (s : State) (l : List CondIx) (u : State) : Prop where
  entry : ∀ x k, u.condEntry x k = if x = s.own ∧ k ∈ l then (s.ownCond k).alerted else s.condEntry x k
  notices : u.cond.notices = s.cond.notices ++ l.map (fun c => .cond s.own c (s.ownCond c) (s.ownCond c).alerted)
  frame : u.frame = { s.frame with
    queue := if l ≠ [] ∧ s.life.life.queues then urgentRequest s.frame.queue else s.frame.queue }
  seqTruth : ∀ k, u.ann.seqTruth.get k = if k ∈ l then true else s.ann.seqTruth.get k
  ann : u.ann = { s.ann with
    seqTruth := u.ann.seqTruth
    edges := []
    clears := s.ann.clears ++ (l.filter (fun c => s.settings.horn.contains ⟨s.own, c⟩)).map (fun c => ⟨s.own, c⟩) }

/-- Rising edges of NORMAL conditions, taken one after the other. -/
theorem State.Rising.takeRising {l : List CondIx} (distinct : l.Nodup) {s : State} (h : s.Rising l) :
    s.RisesTo l (s.takeRising l) := by
  induction l generalizing s with
  | nil => 
    have edges := h.edges
    refine ⟨by simp [State.takeRising], by simp [State.takeRising], by simp [State.takeRising],
      by simp [State.takeRising], ?_⟩
    cases hann : s.ann
    simp_all [State.takeRising]
  | cons c l ih =>
    obtain ⟨notIn, distinct⟩ := List.nodup_cons.1 distinct
    obtain ⟨entry, notices, frame, ann⟩ := h.head
    obtain ⟨rising, same⟩ := h.tail notIn
    have rest := ih distinct rising
    have own : (s.takeEdge c).own = s.own := by simp [State.own]
    have settings : (s.takeEdge c).settings = s.settings := by simp
    have cons : s.takeRising (c :: l) = (s.takeEdge c).takeRising l := rfl
    rw [cons]
    refine ⟨?_, ?_, ?_, ?_, ?_⟩
    · intro x k
      rw [rest.entry, entry, own]
      by_cases hk : k ∈ l
      · have other : k ≠ c := fun h => notIn (h ▸ hk)
        simp [hk, other, same k hk]
      · by_cases hc : k = c
        · subst hc; simp [hk]
        · simp [hk, hc]
    · have later : l.map (fun k => Notice.cond (s.takeEdge c).own k ((s.takeEdge c).ownCond k)
          ((s.takeEdge c).ownCond k).alerted) = l.map (fun k => .cond s.own k (s.ownCond k) (s.ownCond k).alerted) :=
        List.map_congr_left (fun k hk => by rw [own, same k hk])
      rw [rest.notices, later, notices]
      simp
    · rw [rest.frame, frame]
      by_cases queues : s.life.life.queues = true <;> simp [queues, urgentRequest_idem]
    · intro k
      rw [rest.seqTruth, ann, Tab.get_set]
      by_cases hk : k ∈ l
      · simp [hk]
      · simp [hk, eq_comm (a := c)]
    · rw [rest.ann, ann, own, settings, List.filter_cons]
      by_cases horn : s.settings.horn.contains ⟨s.own, c⟩ = true
      · simp only [horn, if_true, List.map_cons, List.append_assoc, List.singleton_append]
      · simp only [if_neg horn, List.append_nil]

/-! ### The report jobs and records of rising edges (R68 to R70, R186, R187) -/

/-- The job of a condition that enters ALERT_UNACK, if its field names a template. -/
def State.alertJob (s : State) (c : CondIx) : Option Job := s.jobOf c .alertUnack ((s.ownCond c).gen + 1)

/-- A job names its condition. -/
theorem alertJob_cond {s : State} {c : CondIx} {j : Job} (h : s.alertJob c = some j) : j.cond = c := by
  simp only [State.alertJob, State.jobOf, Option.map_eq_some_iff] at h
  obtain ⟨-, -, rfl⟩ := h
  rfl

/-- The records of conditions that enter ALERT_UNACK with room for some jobs: each its COND_CHANGE, then REPORT_DROPPED
where its job finds no room. -/
def State.alertRecords (s : State) : Nat → List CondIx → List RecordBody
  | _, [] => []
  | room, c :: l => .condChange s.own c .alertUnack ((s.ownCond c).gen + 1) ::
    match s.alertJob c with
    | none => s.alertRecords room l
    | some j => (if room = 0 then [.reportDropped s.own c j.trigger] else []) ++ s.alertRecords (room - 1) l

/-- What a rising edge taken of a NORMAL condition hands to the Journal and the Report Unit. -/
theorem State.Rising.reported {s : State} {c : CondIx} {l : List CondIx} (h : s.Rising (c :: l)) :
    let u := s.takeEdge c
    let change := RecordBody.condChange s.own c .alertUnack ((s.ownCond c).gen + 1)
    (s.alertJob c = none → s.hands u [change] ∧ u.report = s.report) ∧
    (∀ j, s.alertJob c = some j →
      (s.report.jobs.length < 6 → s.hands u [change] ∧
        (s.report.line = none → s.report.jobs = [] → u.report = ⟨[], some (u.composeLine j), s.clock⟩) ∧
        (s.report.line ≠ none → u.report = { s.report with jobs := s.report.jobs ++ [j] })) ∧
      (6 ≤ s.report.jobs.length → s.hands u [change, .reportDropped s.own c j.trigger] ∧ u.report = s.report)) := by
  obtain ⟨t, taken, only, -⟩ := h.taken
  have life : t.life = s.life := only .life (by simp)
  have pic : t.pic = s.pic := only .pic (by simp)
  have journal : t.journal = s.journal := only .journal (by simp)
  have report : t.report = s.report := only .report (by simp)
  have settings : t.settings = s.settings := only .settings (by simp)
  have clock : t.clock = s.clock := only .clock (by simp)
  have own : t.own = s.own := congrArg LifeControl.stn life
  have ownCond : t.ownCond c = s.ownCond c := by rw [State.ownCond, own, State.condEntry, pic]; rfl
  have job : t.jobOf c .alertUnack ((s.ownCond c).gen + 1) = s.alertJob c := by
    simp only [State.alertJob, State.jobOf, settings, clock]
  have hands : ∀ (u : State) (b : List RecordBody), t.hands u b → s.hands u b := by
    intro u b h
    rw [State.hands, journal] at h
    exact h
  obtain ⟨-, -, -, noJob, hasJob⟩ := annChange_effect t c .alertUnack
  have gen : genAfter .alertUnack (t.ownCond c).gen = (s.ownCond c).gen + 1 := by rw [ownCond]; rfl
  rw [gen, own, job, report] at noJob
  simp only [gen, own, job, report, clock] at hasJob
  rw [taken]
  refine ⟨fun none => ⟨hands _ _ (noJob none).1, (noJob none).2⟩, fun j some => ?_⟩
  obtain ⟨fits, full⟩ := hasJob j some
  rw [alertJob_cond some] at full
  exact ⟨fun room => ⟨hands _ _ (fits room).1, (fits room).2⟩, fun room => ⟨hands _ _ (full room).1, (full room).2⟩⟩

/-- A job in a list of conditions' jobs names a condition of the list. -/
theorem mem_alertJobs {s : State} {l : List CondIx} {j : Job} (h : j ∈ l.filterMap s.alertJob) : j.cond ∈ l := by
  obtain ⟨c, hc, hj⟩ := List.mem_filterMap.1 h
  rwa [alertJob_cond hj]

/-- The records by condition: those of the jobs beyond the room stand with their conditions. -/
theorem alertRecords_eq (s : State) {l : List CondIx} (distinct : l.Nodup) (room : Nat) :
    s.alertRecords room l = l.flatMap (fun c => .condChange s.own c .alertUnack ((s.ownCond c).gen + 1) ::
      (((l.filterMap s.alertJob).drop room).filter (fun j => j.cond == c)).map
        (fun j => .reportDropped s.own c j.trigger)) := by
  induction l generalizing room with
  | nil => rfl
  | cons c l ih =>
    obtain ⟨notIn, distinct⟩ := List.nodup_cons.1 distinct
    have noneHere : ∀ n, ((l.filterMap s.alertJob).drop n).filter (fun j => j.cond == c) = [] := by
      intro n
      rw [List.filter_eq_nil_iff]
      intro j hj is
      have := mem_alertJobs (List.mem_of_mem_drop hj)
      rw [show j.cond = c by simpa using is] at this
      exact notIn this
    rw [State.alertRecords, List.flatMap_cons]
    cases job : s.alertJob c with
    | none => simp only [List.filterMap_cons_none job, noneHere, List.map_nil, List.singleton_append, ih distinct]
    | some j =>
      have cond := alertJob_cond job
      rw [List.filterMap_cons_some job]
      cases room with
      | zero =>
        have others : ∀ k ∈ l, (j :: l.filterMap s.alertJob).filter (fun j => j.cond == k) =
            (l.filterMap s.alertJob).filter (fun j => j.cond == k) := by
          intro k hk
          have other : c ≠ k := fun h => notIn (h ▸ hk)
          simp [cond, other]
        have here := noneHere 0
        simp only [List.drop_zero] at here ⊢
        rw [List.flatMap_congr (fun k hk => by rw [others k hk]), ih distinct]
        simp [cond, here]
      | succ n => simp [noneHere, ih distinct]

/-- Later conditions' jobs and records are what they were before an edge of another. -/
theorem State.Rising.later {s : State} {c : CondIx} {l : List CondIx} (h : s.Rising (c :: l)) (notIn : c ∉ l) :
    l.filterMap (s.takeEdge c).alertJob = l.filterMap s.alertJob ∧
    ∀ room, (s.takeEdge c).alertRecords room l = s.alertRecords room l := by
  obtain ⟨-, same⟩ := h.tail notIn
  have job : ∀ k ∈ l, (s.takeEdge c).alertJob k = s.alertJob k := fun k hk => by
    simp [State.alertJob, State.jobOf, same k hk]
  have own : (s.takeEdge c).own = s.own := by simp [State.own]
  refine ⟨List.filterMap_congr job, ?_⟩
  clear notIn h
  induction l with
  | nil => exact fun _ => rfl
  | cons k l ih =>
    have rest := ih (fun x hx => same x (List.mem_cons_of_mem _ hx)) (fun x hx => job x (List.mem_cons_of_mem _ hx))
    intro room
    simp only [State.alertRecords, own, same k (by simp), job k (by simp), rest]

/-- Rising edges in a station whose Report Unit sends a line: their jobs queue while there is room (R186). -/
theorem State.Rising.reports_busy {l : List CondIx} (distinct : l.Nodup) {s : State} (h : s.Rising l)
    (line : s.report.line ≠ none) (size : s.report.jobs.length ≤ 6) :
    s.hands (s.takeRising l) (s.alertRecords (6 - s.report.jobs.length) l) ∧
    (s.takeRising l).report = { s.report with
      jobs := s.report.jobs ++ (l.filterMap s.alertJob).take (6 - s.report.jobs.length) } := by
  induction l generalizing s with
  | nil => exact ⟨State.hands_nil rfl, by simp [State.takeRising]⟩
  | cons c l ih =>
    obtain ⟨notIn, distinct⟩ := List.nodup_cons.1 distinct
    obtain ⟨noJob, hasJob⟩ := h.reported
    obtain ⟨rising, -⟩ := h.tail notIn
    obtain ⟨jobs, records⟩ := h.later notIn
    have cons : s.takeRising (c :: l) = (s.takeEdge c).takeRising l := rfl
    have rest := ih distinct rising
    rw [jobs] at rest
    simp only [records] at rest
    have clock : ((s.takeEdge c).takeRising l).clock = (s.takeEdge c).clock :=
      foldl_keeps (fun t : State => t.clock) (by simp) _ _
    have settings : ((s.takeEdge c).takeRising l).settings = (s.takeEdge c).settings :=
      foldl_keeps (fun t : State => t.settings) (by simp) _ _
    have both : ∀ {a b : List RecordBody}, s.hands (s.takeEdge c) a →
        (s.takeEdge c).hands ((s.takeEdge c).takeRising l) b → s.hands ((s.takeEdge c).takeRising l) (a ++ b) :=
      fun ha hb => State.hands_append ha hb clock (by rw [settings])
    rw [cons, State.alertRecords]
    cases job : s.alertJob c with
    | none =>
      obtain ⟨handed, report⟩ := noJob job
      rw [report] at rest
      obtain ⟨later, after⟩ := rest line size
      rw [List.filterMap_cons_none job]
      exact ⟨both handed later, after⟩
    | some j =>
      rw [List.filterMap_cons_some job]
      obtain ⟨fits, full⟩ := hasJob j job
      by_cases room : s.report.jobs.length < 6
      · obtain ⟨handed, -, report⟩ := fits room
        rw [report line] at rest
        have left : 6 - s.report.jobs.length = (6 - (s.report.jobs.length + 1)) + 1 := by omega
        obtain ⟨later, after⟩ := rest line (by simpa using room)
        simp only [List.length_append, List.length_singleton] at later after
        rw [after, left, List.take_succ_cons]
        refine ⟨?_, by simp⟩
        simpa using both handed later
      · have zero : 6 - s.report.jobs.length = 0 := by omega
        obtain ⟨handed, report⟩ := full (by omega)
        rw [report] at rest
        obtain ⟨later, after⟩ := rest line size
        rw [zero] at later after ⊢
        refine ⟨by simpa using both handed later, by simpa using after⟩

/-- Rising edges in a station whose Report Unit is idle: the first job's line starts at once, composed as its condition
has moved, and the later jobs queue while there is room (R186, R187). -/
theorem State.Rising.reports_idle {l : List CondIx} (sorted : l.Pairwise (· < ·)) {s : State} (h : s.Rising l)
    (line : s.report.line = none) (empty : s.report.jobs = []) :
    s.hands (s.takeRising l) (s.alertRecords 7 l) ∧
    (l.filterMap s.alertJob = [] → (s.takeRising l).report = s.report) ∧
    ∀ j rest, l.filterMap s.alertJob = j :: rest → (s.takeRising l).report.jobs = rest.take 6 ∧
      (s.takeRising l).report.since = s.clock ∧ ∃ m : State, (s.takeRising l).report.line = some (m.composeLine j) ∧
        m.settings = s.settings ∧ m.own = s.own ∧ m.pic.points = s.pic.points ∧
        ∀ x k, m.condEntry x k = if x = s.own ∧ j.cond < k then s.ownCond k else (s.takeRising l).condEntry x k := by
  induction l generalizing s with
  | nil => exact ⟨State.hands_nil rfl, fun _ => rfl, fun j rest h => by simp at h⟩
  | cons c l ih =>
    obtain ⟨least, sorted⟩ := List.pairwise_cons.1 sorted
    have notIn : c ∉ l := fun h => lt_irrefl c (least c h)
    have distinct : l.Nodup := sorted.imp (fun h => ne_of_lt h)
    obtain ⟨noJob, hasJob⟩ := h.reported
    obtain ⟨rising, -⟩ := h.tail notIn
    obtain ⟨jobs, records⟩ := h.later notIn
    have cons : s.takeRising (c :: l) = (s.takeEdge c).takeRising l := rfl
    have own : (s.takeEdge c).own = s.own := by simp [State.own]
    have beyond : ∀ k, c < k → (s.takeEdge c).condEntry s.own k = s.ownCond k := by
      intro k hk
      rw [h.head.1, if_neg (fun is => ne_of_gt hk is.2)]
      rfl
    have clock : ((s.takeEdge c).takeRising l).clock = (s.takeEdge c).clock :=
      foldl_keeps (fun t : State => t.clock) (by simp) _ _
    have settings : ((s.takeEdge c).takeRising l).settings = (s.takeEdge c).settings :=
      foldl_keeps (fun t : State => t.settings) (by simp) _ _
    have both : ∀ {a b : List RecordBody}, s.hands (s.takeEdge c) a →
        (s.takeEdge c).hands ((s.takeEdge c).takeRising l) b → s.hands ((s.takeEdge c).takeRising l) (a ++ b) :=
      fun ha hb => State.hands_append ha hb clock (by rw [settings])
    rw [cons, State.alertRecords]
    cases job : s.alertJob c with
    | none =>
      obtain ⟨handed, report⟩ := noJob job
      obtain ⟨later, quiet, first⟩ := ih sorted rising (by rw [report]; exact line) (by rw [report]; exact empty)
      rw [List.filterMap_cons_none job, ← jobs]
      rw [records] at later
      refine ⟨both handed later, fun none => (quiet none).trans report, fun j rest is => ?_⟩
      obtain ⟨queued, since, m, composed, mset, mown, mpoints, mconds⟩ := first j rest is
      refine ⟨queued, by rw [since]; simp, m, composed, by rw [mset]; simp, by rw [mown, own], by rw [mpoints]; simp, ?_⟩
      intro x k
      rw [mconds, own]
      by_cases after : x = s.own ∧ j.cond < k
      · have first := least _ (mem_alertJobs (is ▸ List.mem_cons_self))
        rw [if_pos after, if_pos after, State.ownCond, own, beyond k (lt_trans first after.2)]
      · rw [if_neg after, if_neg after]
    | some j =>
      rw [List.filterMap_cons_some job]
      obtain ⟨handed, starts, -⟩ := (hasJob j job).1 (by simp [empty])
      have report := starts line empty
      obtain ⟨later, after⟩ := rising.reports_busy distinct (by simp [report]) (by simp [report])
      rw [records, report] at later
      rw [jobs, report] at after
      refine ⟨by simpa using both handed later, by simp, ?_⟩
      rintro j' rest ⟨⟩
      rw [after]
      refine ⟨by simp, rfl, s.takeEdge c, rfl, by simp, own, by simp, ?_⟩
      intro x k
      rw [(rising.takeRising distinct).entry, own, alertJob_cond job]
      by_cases after : x = s.own ∧ c < k
      · rw [if_pos after, after.1, beyond k after.2]
      · rw [if_neg after, if_neg (fun is => after ⟨is.1, least k is.2⟩)]
end Machine
end Sys2Proof
end

section
namespace Sys2Proof
namespace Machine

/-! ### The entry evaluation and its edges in a station just accepted (R47, R48, R60) -/

/-- A station with its start values taken: every condition FALSE with its start entry, and nothing that waits. -/
structure State.FreshStart (s : State) : Prop where
  life : s.life.life = .listening
  run : ∀ c, s.cond.run.get c = ⟨.isFalse, false, none, none⟩
  cond : ∀ c, s.ownCond c = s.settings.startCond c
  edges : s.ann.edges = []
  queue : s.frame.queue = []
  line : s.report.line = none
  jobs : s.report.jobs = []

/-- The conditions that the entry evaluation makes TRUE, C0 to C7. -/
def State.startTrues (s : State) : List CondIx := (indices 8).filter s.nextTruth

/-- A condition is made TRUE at the entry where its evaluation says so. -/
theorem mem_startTrues {s : State} {c : CondIx} : c ∈ s.startTrues ↔ s.nextTruth c = true := by
  simp [State.startTrues]

/-- The conditions made TRUE stand in ascending order. -/
theorem startTrues_sorted (s : State) : s.startTrues.Pairwise (· < ·) := List.Pairwise.filter _ (by decide)

/-- The move of Table 3-7 from FALSE at the entry evaluation (R48). -/
theorem State.FreshStart.nextRun {s : State} (h : s.FreshStart) (c : CondIx) : s.nextRun c =
    if (s.settings.conds.get c).enabled = true ∧ s.rawResult (s.settings.conds.get c) = true then
      if (s.settings.conds.get c).hold = 0 then ⟨.isTrue, true, none, none⟩
      else ⟨.qualifying, true, some (s.after (100 * (s.settings.conds.get c).hold)), none⟩
    else ⟨.isFalse, false, none, none⟩ := by
  simp only [State.nextRun, h.run, ne_eq, Bool.not_eq_false]

/-- A condition is TRUE after the entry evaluation exactly where its evaluation state is. -/
theorem State.FreshStart.nextTruth_iff {s : State} (h : s.FreshStart) (c : CondIx) :
    s.nextTruth c = true ↔ (s.nextRun c).eval = .isTrue := by
  rw [State.nextTruth, h.nextRun]
  (repeat' split) <;> simp [EvalState.truth]

/-- Only an enabled condition becomes TRUE at the entry (R47). -/
theorem State.FreshStart.startCond_of_true {s : State} (h : s.FreshStart) {c : CondIx} (is : s.nextTruth c = true) :
    s.settings.startCond c = ⟨.normal, false, 0, .good⟩ := by
  have enabled : (s.settings.conds.get c).enabled = true := by
    by_contra off
    rw [h.nextTruth_iff, h.nextRun, if_neg (fun e => off e.1)] at is
    cases is
  simp [Settings.startCond, enabled]

/-- Before the entry evaluation no condition is TRUE. -/
theorem State.FreshStart.truth {s : State} (h : s.FreshStart) (c : CondIx) : (s.ownCond c).truth = false := by
  rw [h.cond]; rfl

/-- What the conditions that become TRUE add to a list. -/
theorem State.FreshStart.flatMap_trues {s : State} (h : s.FreshStart) {β : Type} (added : CondIx → Bool → β) :
    (indices 8).flatMap (fun c => if s.nextTruth c = (s.ownCond c).truth then [] else [added c (s.nextTruth c)]) =
      s.startTrues.map (fun c => added c true) := by
  have each : ∀ c : CondIx, (if s.nextTruth c = (s.ownCond c).truth then [] else [added c (s.nextTruth c)]) =
      if s.nextTruth c then [added c true] else [] := by
    intro c
    rw [h.truth]
    cases s.nextTruth c <;> rfl
  simp only [each]
  rw [flatMap_if_eq_map_filter]
  rfl

/-- The entry evaluation (R47, R48). -/
theorem State.FreshStart.evaluates {s : State} (h : s.FreshStart) :
    s.EvaluatesTo (indices 8) s.evaluateAll := by
  rw [evaluateAll_eq]
  refine evaluateEach_effect (indices_nodup 8) (fun c _ => ⟨?_, ?_, ?_, ?_⟩) <;>
    simp [h.run, h.truth, EvalState.raw, EvalState.truth]

/-- What the entry evaluation leaves of an own condition. -/
theorem State.FreshStart.evaluated_ownCond {s : State} (h : s.FreshStart) (c : CondIx) :
    s.evaluateAll.ownCond c = { s.settings.startCond c with truth := s.nextTruth c } := by
  rw [h.evaluates.ownCond (by simp [State.own]), if_pos (mem_indices c), h.cond]

/-- After the entry evaluation the edges of the conditions made TRUE wait. -/
theorem State.FreshStart.rising {s : State} (h : s.FreshStart) : s.evaluateAll.Rising s.startTrues where
  edges := by
    have added := h.flatMap_trues (fun c r => (⟨c, r⟩ : Edge))
    rw [h.evaluates.ann, h.edges]
    exact added
  normal c hc := by rw [h.evaluated_ownCond, h.startCond_of_true (mem_startTrues.1 hc)]
  good c hc := by rw [h.evaluated_ownCond]; rfl

/-- The edges taken at the entry are those of the conditions made TRUE. -/
theorem State.FreshStart.takeEdges {s : State} (h : s.FreshStart) :
    s.evaluateAll.takeEdges = s.evaluateAll.takeRising s.startTrues := by
  unfold State.takeEdges State.takeRising
  rw [h.rising.edges, List.foldl_map]

/-- What the edges taken at the entry leave, from the entry evaluation on. -/
theorem State.FreshStart.rises {s : State} (h : s.FreshStart) :
    s.evaluateAll.RisesTo s.startTrues s.evaluateAll.takeEdges := by
  rw [h.takeEdges]
  exact h.rising.takeRising ((startTrues_sorted s).imp (fun h => ne_of_lt h))

/-- The entry evaluation keeps the own number, the settings and the life state. -/
theorem evaluateAll_same (s : State) :
    s.evaluateAll.own = s.own ∧ s.evaluateAll.settings = s.settings ∧ s.evaluateAll.life = s.life := by
  simp [State.own]

/-- The entry of a condition that the entry evaluation makes TRUE, before its edge is taken and after. -/
theorem State.FreshStart.alerted {s : State} (h : s.FreshStart) {c : CondIx} (is : s.nextTruth c = true) :
    s.evaluateAll.ownCond c = { s.settings.startCond c with truth := true } ∧
    (s.evaluateAll.ownCond c).alerted = ⟨.alertUnack, true, 1, .good⟩ := by
  rw [h.evaluated_ownCond, is]
  refine ⟨rfl, ?_⟩
  rw [h.startCond_of_true is]
  rfl

/-- The conditions of the mirror after the entry evaluation and its edges. -/
theorem State.FreshStart.entered_condEntry {s : State} (h : s.FreshStart) (x : Station) (k : CondIx) :
    s.evaluateAll.takeEdges.condEntry x k =
      if x = s.own ∧ s.nextTruth k = true then ⟨.alertUnack, true, 1, .good⟩ else s.condEntry x k := by
  rw [h.rises.entry, (evaluateAll_same s).1, h.evaluates.entry]
  by_cases hx : x = s.own
  · subst hx
    by_cases is : s.nextTruth k = true
    · rw [if_pos ⟨rfl, mem_startTrues.2 is⟩, if_pos ⟨rfl, is⟩, (h.alerted is).2]
    · have same : s.nextTruth k = (s.ownCond k).truth := by rw [h.truth]; simpa using is
      rw [if_neg (fun e => is (mem_startTrues.1 e.2)), if_pos ⟨rfl, mem_indices k⟩, if_neg (fun e => is e.2), same]
      rfl
  · rw [if_neg (fun e => hx e.1), if_neg (fun e => hx e.1), if_neg (fun e => hx e.1)]

/-- The notices of the entry evaluation and its edges. -/
theorem State.FreshStart.entered_notices {s : State} (h : s.FreshStart) :
    s.evaluateAll.takeEdges.cond.notices = s.cond.notices ++
      s.startTrues.map (fun c => .cond s.own c (s.settings.startCond c) { s.settings.startCond c with truth := true }) ++
      s.startTrues.map
        (fun c => .cond s.own c { s.settings.startCond c with truth := true } ⟨.alertUnack, true, 1, .good⟩) := by
  have made := h.flatMap_trues (fun c r => Notice.cond s.own c (s.ownCond c) { s.ownCond c with truth := r })
  simp only [h.cond] at made
  have first := h.evaluates.notices
  simp only [h.cond] at first
  rw [made] at first
  have second : s.startTrues.map (fun c => Notice.cond s.evaluateAll.own c (s.evaluateAll.ownCond c)
      (s.evaluateAll.ownCond c).alerted) = s.startTrues.map
        (fun c => .cond s.own c { s.settings.startCond c with truth := true } ⟨.alertUnack, true, 1, .good⟩) :=
    List.map_congr_left (fun c hc => by
      rw [(evaluateAll_same s).1, (h.alerted (mem_startTrues.1 hc)).2, (h.alerted (mem_startTrues.1 hc)).1])
  rw [h.rises.notices, second, first]

/-- The queue after the entry evaluation and its edges (R104). -/
theorem State.FreshStart.entered_frame {s : State} (h : s.FreshStart) : s.evaluateAll.takeEdges.frame =
    { s.frame with queue := if s.startTrues = [] then [] else [⟨.state true false, false⟩] } := by
  rw [h.rises.frame, (evaluateAll_same s).2.2, h.life]
  by_cases none : s.startTrues = []
  · have still := h.evaluates.frameSame (fun c _ => by
      rw [h.truth, ← Bool.not_eq_true, ← mem_startTrues, none]
      simp)
    simp only [none, ne_eq, not_true, false_and, if_false, if_true, still, h.queue]
  · have asked := h.evaluates.frameAsked (by
      obtain ⟨c, hc⟩ := List.exists_mem_of_ne_nil _ none
      exact ⟨c, mem_indices c, by rw [h.truth, mem_startTrues.1 hc]; simp⟩)
    have queued : urgentRequest [] = [⟨.state true false, false⟩] := rfl
    have again : urgentRequest [⟨.state true false, false⟩] = [⟨.state true false, false⟩] := rfl
    rw [if_neg none, asked]
    simp only [none, ne_eq, not_false_eq_true, h.life, Life.queues, and_self, if_true, h.queue, queued,
      again]

/-- The Annunciation Unit after the entry evaluation and its edges. -/
theorem State.FreshStart.entered_ann {s : State} (h : s.FreshStart) :
    (∀ c, s.evaluateAll.takeEdges.ann.seqTruth.get c = (s.nextTruth c || s.ann.seqTruth.get c)) ∧
    s.evaluateAll.takeEdges.ann = { s.ann with
      seqTruth := s.evaluateAll.takeEdges.ann.seqTruth
      clears := s.ann.clears ++
        (s.startTrues.filter (fun c => s.settings.horn.contains ⟨s.own, c⟩)).map (fun c => ⟨s.own, c⟩) } := by
  constructor
  · intro c
    rw [h.rises.seqTruth, h.evaluates.ann]
    by_cases is : s.nextTruth c = true
    · simp [mem_startTrues, is]
    · simp [mem_startTrues, is]
  · have ann := h.rises.ann
    rw [h.evaluates.ann, (evaluateAll_same s).1, (evaluateAll_same s).2.1] at ann
    exact ann.trans (by simp only [h.edges])

/-- What the entry evaluation and its edges hand to the Journal and the Report Unit. -/
theorem State.FreshStart.reported {s : State} (h : s.FreshStart) :
    let w := s.evaluateAll.takeEdges
    let jobs := s.startTrues.filterMap (fun c => s.jobOf c .alertUnack 1)
    s.hands w (s.startTrues.flatMap (fun c => .condChange s.own c .alertUnack 1 ::
      ((jobs.drop 7).filter (fun j => j.cond == c)).map (fun j => .reportDropped s.own c j.trigger))) ∧
    (jobs = [] → w.report = s.report) ∧
    ∀ j rest, jobs = j :: rest → w.report.jobs = rest.take 6 ∧ w.report.since = s.clock ∧
      ∃ m : State, w.report.line = some (m.composeLine j) ∧ m.settings = s.settings ∧ m.own = s.own ∧
        m.pic.points = s.pic.points ∧ ∀ x k, m.condEntry x k = if x = s.own ∧ j.cond < k
          then { s.settings.startCond k with truth := s.nextTruth k } else w.condEntry x k := by
  intro w jobs
  obtain ⟨v, hv⟩ : ∃ v, v = s.evaluateAll := ⟨_, rfl⟩
  have sorted := startTrues_sorted s
  have ownCond := h.evaluated_ownCond
  have rising := h.rising
  have taken := h.takeEdges
  have kept := State.evaluateEach_keeps (indices 8) s
  rw [← evaluateAll_eq] at kept
  rw [← hv] at ownCond rising taken kept
  obtain ⟨-, clock, -, settings, life, -, -, points, -, -, -, journal, -, report, -⟩ := kept
  have own : v.own = s.own := congrArg LifeControl.stn life
  have gen : ∀ c, (v.ownCond c).gen + 1 = 1 := fun c => by rw [ownCond]; rfl
  have job : ∀ c, v.alertJob c = s.jobOf c .alertUnack 1 := by
    intro c
    simp only [State.alertJob, gen, State.jobOf, settings, clock]
  have sameJobs : s.startTrues.filterMap v.alertJob = jobs := List.filterMap_congr (fun c _ => job c)
  obtain ⟨handed, quiet, first⟩ := rising.reports_idle sorted (by rw [report]; exact h.line) (by rw [report]; exact h.jobs)
  have hw : w = v.takeRising s.startTrues := by rw [← taken, hv]
  rw [alertRecords_eq v (sorted.imp (fun h => ne_of_lt h)), sameJobs, own] at handed
  rw [sameJobs, report] at quiet
  rw [sameJobs, clock, settings, own, points] at first
  simp only [gen] at handed
  rw [← hw] at handed quiet first
  refine ⟨?_, quiet, ?_⟩
  · rw [State.hands, journal] at handed
    exact handed
  · intro j rest is
    obtain ⟨queued, since, m, composed, mset, mown, mpoints, mconds⟩ := first j rest is
    refine ⟨queued, since, m, composed, mset, mown, mpoints, ?_⟩
    intro x k
    rw [mconds, ownCond]
end Machine
end Sys2Proof
end

section
namespace Sys2Proof
namespace Machine

/-! ### The station with its start values (R7, R32, R144) -/

/-- The settings handed to the blocks: the attention set is formed, and the station is in LISTENING. -/
theorem accepting_effect (set : Settings) (s : State) :
    (s.accepting set).settings = set ∧ (s.accepting set).ann = { s.ann with attention := set.attentionSet } ∧
    s.changesOnly [.settings, .ann, .life] (s.accepting set) := by
  refine ⟨?_, ?_, ?_⟩
  · simp [State.accepting, State.takeSettings]
  · simp [State.accepting, State.takeSettings]
  · intro b hb
    cases b <;> simp at hb <;> simp [Block.same, State.accepting]

/-- The value and quality an own point starts with, from the pins. -/
def Settings.startPoint (set : Settings) (pins : Pins) (p : PointIx) : PointEntry :=
  ⟨(set.lines.get (set.valueLine p)).mode.value (pins.lines.get (set.valueLine p)), .good⟩

/-- What is left as it was beside some blocks is left as it was beside more. -/
theorem State.changesOnly_mono {s t : State} {l m : List Block} (h : s.changesOnly l t) (sub : ∀ b ∈ l, b ∈ m) :
    s.changesOnly m t := fun b hb => h b (fun mem => hb (sub b mem))

/-- What the start values make of a station as reset leaves it. -/
theorem started_effect (set : Settings) {s : State} (fresh : s.pic = .reset) :
    let t := s.started set
    (∀ st, t.pic.roster.get st = ⟨set.startPresence s.own st, none, none, none, false, false⟩) ∧
    (∀ x k, t.condEntry x k = if x = s.own then set.startCond k else ⟨.normal, false, 0, .unknown⟩) ∧
    (∀ x p, t.pointEntry x p = if x = s.own then set.startPoint s.pins p else ⟨false, .unknown⟩) ∧
    t.cond.notices = s.cond.notices ++
      ((indices 32).filter (fun st => set.startPresence s.own st != .notExpected)).map
        (fun st => .presence st .notExpected (set.startPresence s.own st)) ++
      (indices 8).map (fun c => .cond s.own c ⟨.normal, false, 0, .unknown⟩ (set.startCond c)) ++
      (indices 16).map (fun p => .point s.own p ⟨false, .unknown⟩ (set.startPoint s.pins p)) ∧
    t.input = (s.accepting set).senseStart.input ∧ t.out = { s.out with testLevel := s.pins.test } ∧
    t.cond.run = s.cond.run ∧ t.settings = set ∧ t.ann = { s.ann with attention := set.attentionSet } ∧
    s.changesOnly [.settings, .life, .ann, .pic, .cond, .input, .out] t := by
  intro t
  obtain ⟨a, ha⟩ : ∃ a, a = s.accepting set := ⟨_, rfl⟩
  obtain ⟨settings, ann, accepted⟩ := accepting_effect set s
  have life : (s.accepting set).life.stn = s.life.stn := by simp [State.accepting]
  rw [← ha] at settings ann accepted life
  have own : a.own = s.own := life
  have pins : a.pins = s.pins := accepted .pins (by simp)
  have pic : a.pic = .reset := (accepted .pic (by simp)).trans fresh
  have cond : a.cond = s.cond := accepted .cond (by simp)
  have out : a.out = s.out := accepted .out (by simp)
  obtain ⟨roster, entry, notices, points, run, placed⟩ := startPicture_effect pic
  have reset : ∀ x p, a.startPicture.pointEntry x p = ⟨false, .unknown⟩ := by
    intro x p
    rw [State.pointEntry, points, pic]
    simp [Picture.reset]
  have own' : a.startPicture.own = s.own := (congrArg LifeControl.stn (placed .life (by simp))).trans own
  have settings' : a.startPicture.settings = set := (placed .settings (by simp)).trans settings
  have pins' : a.startPicture.pins = s.pins := (placed .pins (by simp)).trans pins
  obtain ⟨point, written, input, out', roster', conds', run', sensed⟩ :=
    startPoints_effect (s := a.startPicture) (fun p => reset _ p)
  have start : a.startPicture.startPoint = set.startPoint s.pins := by
    funext p
    simp only [State.startPoint, settings', pins', Settings.startPoint]
  have ht : t = a.startPicture.startPoints := by rw [ha]; rfl
  rw [own', start] at point written
  rw [own, settings] at roster entry notices
  rw [ht]
  refine ⟨?_, ?_, ?_, ?_, ?_, ?_, ?_, ?_, ?_, ?_⟩
  · intro st; rw [roster', roster]
  · intro x k
    have : a.startPicture.startPoints.condEntry x k = a.startPicture.condEntry x k := by
      rw [State.condEntry, conds']; rfl
    rw [this, entry]
  · intro x p; rw [point, reset]
  · rw [written, notices, cond]
  · rw [input, ← ha]
    simp [State.senseStart, State.relationNow, State.after]
  · rw [out', pins', placed .out (by simp), out]
  · rw [run', run, cond]
  · rw [sensed .settings (by simp), settings']
  · rw [sensed .ann (by simp), placed .ann (by simp), ann]
  · exact State.changesOnly_trans (State.changesOnly_trans (State.changesOnly_mono accepted (by decide))
      (State.changesOnly_mono placed (by decide))) (State.changesOnly_mono sensed (by decide))

/-- The station with its start values and its STARTED record. -/
def State.recorded (set : Settings) (s : State) : State := (s.started set).record (.started s.own set.version)

/-- The image's acceptance is the start values, STARTED, and all that runs then. -/
theorem acceptImage_eq_recorded (set : Settings) (s : State) : s.acceptImage set = (s.recorded set).startRunning := by
  have own : (s.started set).own = s.own := by simp [State.own]
  rw [acceptImage_eq, own]
  rfl

/-- STARTED is recorded in every scope, and changes the journal alone (R170). -/
theorem recorded_effect (set : Settings) (s : State) :
    (s.started set).changesOnly [.journal] (s.recorded set) ∧
    (s.started set).hands (s.recorded set) [.started s.own set.version] := by
  constructor
  · intro b hb
    cases b <;> simp at hb <;> simp [Block.same, State.recorded]
  · simpa [State.recorded, State.scopePasses] using State.hands_record (s.started set) (.started s.own set.version)

/-- A station as reset leaves it is, with its start values, ready for the entry evaluation. -/
theorem recorded_freshStart (set : Settings) {s : State} (pic : s.pic = .reset) (cond : s.cond = .reset)
    (ann : s.ann = .reset) (frame : s.frame = .reset) (report : s.report = .reset) : (s.recorded set).FreshStart := by
  obtain ⟨roster, entry, point, notices, input, out, run, settings, ann', started⟩ := started_effect set pic
  obtain ⟨recorded, -⟩ := recorded_effect set s
  have settings' : (s.recorded set).settings = set := (recorded .settings (by simp)).trans settings
  have life : (s.recorded set).life = (s.started set).life := recorded .life (by simp)
  have own : (s.recorded set).own = s.own := by rw [State.own, life]; simp [State.own]
  refine ⟨?_, ?_, ?_, ?_, ?_, ?_, ?_⟩
  · rw [life]; simp
  · intro c
    rw [recorded .cond (by simp), run, cond]
    simp [CondUnit.reset]
  · intro c
    have same : (s.recorded set).condEntry = (s.started set).condEntry := by
      funext x k
      rw [State.condEntry, recorded .pic (by simp)]
      rfl
    rw [State.ownCond, own, same, entry, if_pos rfl, settings']
  · rw [recorded .ann (by simp), ann', ann]; rfl
  · rw [recorded .frame (by simp), started .frame (by simp), frame]; rfl
  · rw [recorded .report (by simp), started .report (by simp), report]; rfl
  · rw [recorded .report (by simp), started .report (by simp), report]; rfl

/-! ### The end of an image check that passes (R142, R144) -/

/-- The station as an image check that passes leaves it for the acceptance: the loader idle, RESULT OK for a COMMIT. -/
def State.checked (s : State) : State :=
  (s.onLoader (fun l => { l with phase := .idle, check := .none })).onPort
    (fun p => { p with result := if s.life.source = .supervisor then .ok else p.result })

/-- An image that passes is accepted. -/
theorem imageCheckEnd_of_passes {s : State} {set : Settings} (loading : s.life.life = .loading)
    (checking : s.loader.phase = .checking) (passes : checkImage s.loader.buffer s.own = .ok set) :
    s.imageCheckEnd = (s.checked.acceptImage set).settle := by
  simp only [State.imageCheckEnd, loading, checking, and_self, if_true, passes, State.passImage, State.checked]
  cases source : s.life.source with
  | memory =>
    simp only [State.onLoader_life, source, reduceCtorEq, if_false]
    rfl
  | supervisor => simp only [State.onLoader_life, source, if_true]

/-- Outside ACTIVE a settled station has its outputs driven alone. -/
theorem settle_of_not_active {s : State} (h : s.life.life ≠ .active) : s.settle = s.driveOutputs := by
  simp [State.settle, State.quietStart, h]

/-- Records handed to a journal add to its tail. -/
theorem records_of_hands {s t : State} {l : List RecordBody} (h : s.hands t l) :
    ∃ more, t.journal.records = s.journal.records ++ more := by
  rw [h]
  clear h
  generalize s.journal = j
  induction l generalizing j with
  | nil => exact ⟨[], by simp⟩
  | cons b l ih =>
    obtain ⟨more, h⟩ := ih ((j.append ⟨b, t.clock⟩).driveAttn t.settings.attnEnabled)
    obtain ⟨one, h1⟩ : ∃ one, ((j.append ⟨b, t.clock⟩).driveAttn t.settings.attnEnabled).records = j.records ++ one := by
      simp only [Journal.driveAttn_keeps, Journal.append]
      split
      · exact ⟨_, rfl⟩
      · exact ⟨[], by simp⟩
    exact ⟨one ++ more, by rw [List.foldl_cons, h, h1, List.append_assoc]⟩

/-- A list without its repetitions repeats nothing. -/
theorem nodup_eraseDups {α : Type} [BEq α] [LawfulBEq α] : ∀ l : List α, l.eraseDups.Nodup
  | [] => by simp
  | a :: l => by
    rw [List.eraseDups_cons, List.nodup_cons]
    exact ⟨by simp, nodup_eraseDups _⟩
termination_by l => l.length
decreasing_by exact Nat.lt_succ_of_le (List.length_filter_le _ _)

/-- A table lists exactly its entries. -/
theorem mem_tab_list {n : Nat} {α : Type} (t : Tab n α) (a : α) : a ∈ t.list ↔ ∃ i, t.get i = a := by
  rw [List.mem_iff_getElem]
  constructor
  · rintro ⟨i, hi, rfl⟩
    exact ⟨⟨i, t.size ▸ hi⟩, rfl⟩
  · rintro ⟨i, rfl⟩
    exact ⟨i.val, by rw [t.size]; exact i.isLt, rfl⟩

/-- The attention set holds the horn set and the source of every LAMP output (R77). -/
theorem mem_attentionSet (set : Settings) (r : CondRef) :
    r ∈ set.attentionSet ↔ r ∈ set.horn ∨ ∃ o, set.outs.get o = .lamp r := by
  rw [Settings.attentionSet, List.mem_eraseDups, List.mem_append, or_comm]
  refine or_congr_right ?_
  rw [List.mem_filterMap]
  constructor
  · rintro ⟨out, mem, is⟩
    obtain ⟨o, rfl⟩ := (mem_tab_list set.outs out).1 mem
    refine ⟨o, ?_⟩
    cases h : set.outs.get o <;> simp_all
  · rintro ⟨o, is⟩
    exact ⟨.lamp r, (mem_tab_list set.outs _).2 ⟨o, is⟩, rfl⟩

/-- The inputs as the acceptance leaves them, from the levels at the pins (R32, R35). -/
theorem senseStart_input {s : State} (fresh : s.input = .reset) :
    (∀ n, s.senseStart.input.lines.get n = ⟨s.settings.debounces n && s.pins.lines.get n, none, none⟩) ∧
    (∀ i, s.senseStart.input.control i = ⟨s.pins.control i, none, none⟩) ∧
    ∀ k, s.settings.isPair k = true → (s.senseStart.input.pairs.get k).accepted = .complement ∧
      (s.senseStart.input.pairs.get k).timer =
        if s.relationNow k = .agree then some (s.after (s.settings.debounceTime (evenLine k))) else none := by
  refine ⟨fun n => ?_, fun i => ?_, fun k pair => ?_⟩
  · cases h : s.settings.debounces n <;>
      simp [State.senseStart, State.onInput, State.onOut, h, fresh, PointUnit.reset, Debouncer.reset]
  · cases i <;> rfl
  · simp [State.senseStart, State.onInput, State.onOut, pair]

/-- The station with its start values and STARTED, told from the station before acceptance. -/
structure State.StartedFrom (set : Settings) (s r : State) : Prop where
  settings : r.settings = set
  own : r.own = s.own
  clock : r.clock = s.clock
  life : r.life = { s.life with life := .listening, fault := .none, sfault := false }
  roster : ∀ st, r.pic.roster.get st = ⟨set.startPresence s.own st, none, none, none, false, false⟩
  cond : ∀ x k, r.condEntry x k = if x = s.own then set.startCond k else ⟨.normal, false, 0, .unknown⟩
  point : ∀ x p, r.pointEntry x p = if x = s.own then set.startPoint s.pins p else ⟨false, .unknown⟩
  notices : r.cond.notices =
    ((indices 32).filter (fun st => set.startPresence s.own st != .notExpected)).map
      (fun st => .presence st .notExpected (set.startPresence s.own st)) ++
    (indices 8).map (fun c => .cond s.own c ⟨.normal, false, 0, .unknown⟩ (set.startCond c)) ++
    (indices 16).map (fun p => .point s.own p ⟨false, .unknown⟩ (set.startPoint s.pins p))
  lines : ∀ n, r.input.lines.get n = ⟨set.debounces n && s.pins.lines.get n, none, none⟩
  controls : ∀ i, r.input.control i = ⟨s.pins.control i, none, none⟩
  pairs : ∀ k, set.isPair k = true → (r.input.pairs.get k).accepted = .complement ∧
    (r.input.pairs.get k).timer =
      if s.relationNow k = .agree then some (s.after (set.debounceTime (evenLine k))) else none
  test : r.out.testLevel = s.pins.test
  ann : r.ann = { AnnUnit.reset with attention := set.attentionSet }
  records : s.hands r [.started s.own set.version]
  loader : r.loader = { s.loader with phase := .idle, check := .none }
  port : r.port = { s.port with result := if s.life.source = .supervisor then .ok else s.port.result }
  same : s.changesOnly [.settings, .life, .loader, .pic, .input, .cond, .ann, .out, .journal, .port] r

/-- An image that passes starts the station from LOADING with its start values. -/
theorem checked_startedFrom (set : Settings) {s : State} (idle : s.IdleLaw) (loading : s.life.life = .loading) :
    s.StartedFrom set (s.checked.recorded set) ∧ (s.checked.recorded set).FreshStart := by
  have notRunning : s.life.life.running = false := by rw [loading]; rfl
  obtain ⟨m, hm⟩ : ∃ m, m = s.checked := ⟨_, rfl⟩
  have mSame : s.changesOnly [.loader, .port] m := by
    intro b hb
    rw [hm]
    cases b <;> simp at hb <;> rfl
  have mLife : m.life = s.life := mSame .life (by simp)
  have mOwn : m.own = s.own := congrArg LifeControl.stn mLife
  have mPins : m.pins = s.pins := mSame .pins (by simp)
  have mClock : m.clock = s.clock := mSame .clock (by simp)
  have mPic : m.pic = .reset := (mSame .pic (by simp)).trans (idle.picture notRunning)
  have mInput : m.input = .reset := (mSame .input (by simp)).trans (idle.input notRunning)
  have mCond : m.cond = .reset := (mSame .cond (by simp)).trans (idle.conditions notRunning)
  have mAnn : m.ann = .reset := (mSame .ann (by simp)).trans (idle.annunciation notRunning)
  have mFrame : m.frame = .reset := (mSame .frame (by simp)).trans (idle.frames notRunning)
  have mReport : m.report = .reset := (mSame .report (by simp)).trans (idle.report notRunning)
  rw [← hm]
  refine ⟨?_, recorded_freshStart set mPic mCond mAnn mFrame mReport⟩
  obtain ⟨roster, entry, point, notices, input, out, -, settings, ann, started⟩ := started_effect set mPic
  obtain ⟨recorded, first⟩ := recorded_effect set m
  rw [mOwn] at roster entry point notices first
  rw [mPins] at point notices
  have pic : (m.recorded set).pic = (m.started set).pic := recorded .pic (by simp)
  have life : (m.recorded set).life = { s.life with life := .listening, fault := .none, sfault := false } := by
    rw [recorded .life (by simp), started_life, mLife, idle.stuck notRunning]
  obtain ⟨aSettings, -, aSame⟩ := accepting_effect set m
  obtain ⟨lines, controls, pairs⟩ := senseStart_input (s := m.accepting set) ((aSame .input (by simp)).trans mInput)
  have aPins : (m.accepting set).pins = s.pins := (aSame .pins (by simp)).trans mPins
  have aClock : (m.accepting set).clock = s.clock := (aSame .clock (by simp)).trans mClock
  rw [← input] at lines controls pairs
  simp only [aSettings, aPins, State.relationNow, State.after, aClock] at lines controls pairs
  have inputKept : (m.recorded set).input = (m.started set).input := recorded .input (by simp)
  constructor
  case settings => exact (recorded .settings (by simp)).trans settings
  case own => rw [State.own, life]; rfl
  case clock => rw [recorded .clock (by simp), started .clock (by simp), mClock]
  case life => exact life
  case roster => rw [pic]; exact roster
  case cond => intro x k; rw [State.condEntry, pic]; exact entry x k
  case point => intro x p; rw [State.pointEntry, pic]; exact point x p
  case notices => rw [recorded .cond (by simp), notices, mCond]; rfl
  case lines => rw [inputKept]; exact lines
  case controls => rw [inputKept]; exact controls
  case pairs => rw [inputKept]; exact pairs
  case test => rw [recorded .out (by simp), out, mPins]
  case ann => rw [recorded .ann (by simp), ann, mAnn]
  case records =>
    have journal : (m.started set).journal = s.journal := (started .journal (by simp)).trans (mSame .journal (by simp))
    rw [State.hands, journal] at first
    exact first
  case loader => rw [recorded .loader (by simp), started .loader (by simp), hm]; rfl
  case port => rw [recorded .port (by simp), started .port (by simp), hm]; rfl
  case same =>
    exact State.changesOnly_trans (State.changesOnly_trans (State.changesOnly_mono mSame (by decide))
      (State.changesOnly_mono started (by decide))) (State.changesOnly_mono recorded (by decide))

/-- The station once the entry evaluation, its edges and the entry into LISTENING have run, told from the station with
its start values. -/
structure State.RunsFrom (r t : State) : Prop where
  run : ∀ c, t.cond.run.get c = r.nextRun c
  cond : ∀ x k, t.condEntry x k =
    if x = r.own ∧ r.nextTruth k = true then ⟨.alertUnack, true, 1, .good⟩ else r.condEntry x k
  notices : t.cond.notices = r.cond.notices ++
    r.startTrues.map (fun c => .cond r.own c (r.settings.startCond c) { r.settings.startCond c with truth := true }) ++
    r.startTrues.map
      (fun c => .cond r.own c { r.settings.startCond c with truth := true } ⟨.alertUnack, true, 1, .good⟩)
  frame : t.frame = { r.frame with queue := if r.startTrues = [] then [] else [⟨.state true false, false⟩] }
  seqTruth : ∀ c, t.ann.seqTruth.get c = (r.nextTruth c || r.ann.seqTruth.get c)
  ann : t.ann = { r.ann with
    seqTruth := t.ann.seqTruth
    clears := r.ann.clears ++
      (r.startTrues.filter (fun c => r.settings.horn.contains ⟨r.own, c⟩)).map (fun c => ⟨r.own, c⟩) }
  records : r.hands t (r.startTrues.flatMap (fun c => .condChange r.own c .alertUnack 1 ::
    (((r.startTrues.filterMap (fun c => r.jobOf c .alertUnack 1)).drop 7).filter (fun j => j.cond == c)).map
      (fun j => .reportDropped r.own c j.trigger)))
  quiet : r.startTrues.filterMap (fun c => r.jobOf c .alertUnack 1) = [] → t.report = r.report
  first : ∀ j rest, r.startTrues.filterMap (fun c => r.jobOf c .alertUnack 1) = j :: rest →
    t.report.jobs = rest.take 6 ∧ t.report.since = r.clock ∧
      ∃ m : State, t.report.line = some (m.composeLine j) ∧ m.settings = r.settings ∧ m.own = r.own ∧
        m.pic.points = r.pic.points ∧ ∀ x k, m.condEntry x k = if x = r.own ∧ j.cond < k
          then { r.settings.startCond k with truth := r.nextTruth k } else t.condEntry x k
  life : t.life = { r.life with
    life := .listening, listen := some (r.after (2 * r.period)), withdraw := none, sfault := r.life.lineStuck }
  line : t.line = { r.line with state := .receiving, rx := .startupWait, w := none, slot := none }
  roster : t.pic.roster = r.pic.roster
  points : t.pic.points = r.pic.points
  test : t.out.testLevel = r.out.testLevel
  same : r.changesOnly [.life, .pic, .cond, .ann, .frame, .line, .out, .journal, .report] t

/-- All that runs at the acceptance after STARTED (R47, R119, R146). -/
theorem State.FreshStart.runs {r : State} (h : r.FreshStart) : r.RunsFrom r.startRunning.settle := by
  obtain ⟨w, hw⟩ : ∃ w, w = r.evaluateAll.takeEdges := ⟨_, rfl⟩
  obtain ⟨t, ht⟩ : ∃ t, t = r.startRunning.settle := ⟨_, rfl⟩
  have t_eq : t = (w.enterListening.onLine (fun l =>
      { l with state := .receiving, slot := none, rx := .startupWait })).driveOutputs := by
    have listening : r.startRunning.life.life = .listening := by
      simp [State.startRunning, State.enterListening, State.setLife, LifeControl.driveSfault]
    rw [ht, settle_of_not_active (by rw [listening]; simp), hw]
    rfl
  have entry := h.entered_condEntry
  have notices := h.entered_notices
  have frame := h.entered_frame
  obtain ⟨seq, ann⟩ := h.entered_ann
  obtain ⟨handed, quiet, first⟩ := h.reported
  rw [← hw] at entry notices frame seq ann handed quiet first
  have run : ∀ c, w.cond.run.get c = r.nextRun c := by
    intro c
    have kept : w.cond.run = r.evaluateAll.cond.run := by simp [hw]
    rw [kept, h.evaluates.run, if_pos (mem_indices c)]
  have wSame : w.clock = r.clock ∧ w.pins = r.pins ∧ w.settings = r.settings ∧ w.life = r.life ∧ w.loader = r.loader ∧
      w.pic.roster = r.pic.roster ∧ w.pic.points = r.pic.points ∧ w.input = r.input ∧ w.line = r.line ∧
      w.out = r.out ∧ w.port = r.port ∧ w.held = r.held ∧ w.pending = r.pending := by simp [hw]
  obtain ⟨wClock, wPins, wSettings, wLife, wLoader, wRoster, wPoints, wInput, wLine, wOut, wPort, wHeld, wPending⟩ :=
    wSame
  have pic : t.pic = w.pic := by simp [t_eq]
  have cond : t.cond = w.cond := by simp [t_eq]
  have annKept : t.ann = w.ann := by simp [t_eq]
  have report : t.report = w.report := by simp [t_eq]
  have entryKept : t.condEntry = w.condEntry := by funext x k; simp [State.condEntry, pic]
  rw [← ht]
  constructor
  case run => rw [cond]; exact run
  case cond => rw [entryKept]; exact entry
  case notices => rw [cond]; exact notices
  case frame => rw [← frame]; simp [t_eq]
  case seqTruth => rw [annKept]; exact seq
  case ann => rw [annKept]; exact ann
  case records => exact State.hands_of_journal handed (by simp [t_eq]) (by simp [t_eq]) (by simp [t_eq])
  case quiet => rw [report]; exact quiet
  case first => rw [report, entryKept]; exact first
  case life =>
    have entered : t.life = w.enterListening.life := by simp [t_eq]
    rw [entered]
    simp [State.enterListening, State.setLife, State.onLife, LifeControl.driveSfault, wLife, State.after, State.period,
      wClock, wSettings]
  case line => simp [t_eq, State.enterListening, wLine]
  case roster => rw [pic, wRoster]
  case points => rw [pic, wPoints]
  case test => simp [t_eq, wOut]
  case same =>
    intro b hb
    cases b <;> simp at hb <;>
      simp [Block.same, t_eq, wClock, wPins, wSettings, wLoader, wInput, wPort, wHeld, wPending]

/-! ### What an accepted image leaves (R7, R47, R144) -/

/-- The stages of an acceptance: the station before it, with its start values, and once all has run. -/
structure State.Accepts (set : Settings) (s r t : State) : Prop where
  start : s.StartedFrom set r
  fresh : r.FreshStart
  runs : r.RunsFrom t

/-- The end of an image check that passes is an acceptance. -/
theorem imageCheckEnd_accepts {s : State} {set : Settings} (idle : s.IdleLaw) (loading : s.life.life = .loading)
    (checking : s.loader.phase = .checking) (passes : checkImage s.loader.buffer s.own = .ok set) :
    s.Accepts set (s.checked.recorded set) s.imageCheckEnd := by
  obtain ⟨start, fresh⟩ := checked_startedFrom set idle loading
  refine ⟨start, fresh, ?_⟩
  rw [imageCheckEnd_of_passes loading checking passes, acceptImage_eq_recorded]
  exact fresh.runs

section
variable {set : Settings} {s r t : State}

/-- The settings, the count and the own number of the station in LISTENING. -/
theorem State.Accepts.same (h : s.Accepts set r t) : t.settings = set ∧ t.clock = s.clock ∧ t.own = s.own := by
  refine ⟨(h.runs.same .settings (by simp)).trans h.start.settings, (h.runs.same .clock (by simp)).trans h.start.clock, ?_⟩
  rw [State.own, h.runs.life]
  exact h.start.own

/-- Life Control in LISTENING (R144, R146). -/
theorem State.Accepts.life (h : s.Accepts set r t) (stuck : s.life.lineStuck = false) : t.life = { s.life with
    life := .listening
    fault := .none
    listen := some (s.after (2 * t.period))
    withdraw := none
    sfault := false } := by
  rw [h.runs.life, h.start.life]
  simp only [State.after, State.period, h.start.clock, h.start.settings, h.same, stuck]

/-- The roster the station enters LISTENING with (R2, R7). -/
theorem State.Accepts.roster (h : s.Accepts set r t) (st : Station) :
    t.pic.roster.get st = ⟨set.startPresence s.own st, none, none, none, false, false⟩ := by
  rw [h.runs.roster, h.start.roster]

/-- The points the station enters LISTENING with (R7, R32). -/
theorem State.Accepts.point (h : s.Accepts set r t) (x : Station) (p : PointIx) :
    t.pointEntry x p = if x = s.own then set.startPoint s.pins p else ⟨false, .unknown⟩ := by
  rw [State.pointEntry, h.runs.points]
  exact h.start.point x p

/-- The conditions the station enters LISTENING with: those made TRUE in ALERT_UNACK (R47, R64). -/
theorem State.Accepts.cond (h : s.Accepts set r t) (x : Station) (k : CondIx) : t.condEntry x k =
    if x = s.own ∧ r.nextTruth k = true then ⟨.alertUnack, true, 1, .good⟩
    else if x = s.own then set.startCond k else ⟨.normal, false, 0, .unknown⟩ := by
  rw [h.runs.cond, h.start.own, h.start.cond]

/-- The own conditions the station enters LISTENING with. -/
theorem State.Accepts.ownCond (h : s.Accepts set r t) (c : CondIx) :
    t.ownCond c = if r.nextTruth c = true then ⟨.alertUnack, true, 1, .good⟩ else set.startCond c := by
  rw [State.ownCond, h.same.2.2, h.cond]
  simp only [true_and, if_true]

/-- The running fields after the entry evaluation (R48). -/
theorem State.Accepts.run (h : s.Accepts set r t) (c : CondIx) : t.cond.run.get c =
    if (set.conds.get c).enabled = true ∧ r.rawResult (set.conds.get c) = true then
      if (set.conds.get c).hold = 0 then ⟨.isTrue, true, none, none⟩
      else ⟨.qualifying, true, some (s.after (100 * (set.conds.get c).hold)), none⟩
    else ⟨.isFalse, false, none, none⟩ := by
  rw [h.runs.run, h.fresh.nextRun, h.start.settings]
  simp only [State.after, h.start.clock]

/-- A condition is TRUE in LISTENING exactly where the entry evaluation made it so. -/
theorem State.Accepts.isTrue (h : s.Accepts set r t) (c : CondIx) :
    (t.cond.run.get c).eval = .isTrue ↔ r.nextTruth c = true := by
  rw [h.runs.run, h.fresh.nextTruth_iff]

/-- The conditions TRUE in LISTENING, and the report jobs of their alerts. -/
theorem State.Accepts.trues (h : s.Accepts set r t) :
    (indices 8).filter (fun c => (t.cond.run.get c).eval == .isTrue) = r.startTrues ∧
    t.jobOf = r.jobOf := by
  constructor
  · refine List.filter_congr (fun c _ => ?_)
    rw [Bool.eq_iff_iff, ← h.isTrue]
    simp
  · funext c new g
    cases new <;> simp only [State.jobOf, h.same, h.start.settings, h.start.clock]

/-- A condition the image leaves unused stays as it starts (R47). -/
theorem State.Accepts.unused (h : s.Accepts set r t) {c : CondIx} (off : (set.conds.get c).enabled = false) :
    t.ownCond c = set.startCond c ∧ t.cond.run.get c = ⟨.isFalse, false, none, none⟩ := by
  have still : t.cond.run.get c = ⟨.isFalse, false, none, none⟩ := by
    rw [h.run, if_neg (fun on => by simp [off] at on)]
  have never : ¬ r.nextTruth c = true := by
    rw [← h.isTrue, still]
    simp
  exact ⟨by rw [h.ownCond, if_neg never], still⟩

/-- An enabled condition moves from FALSE by its raw result, read from the roster, the points and the start values of the
conditions (R47, R48). -/
theorem State.Accepts.enabled (h : s.Accepts set r t) {c : CondIx} (on : (set.conds.get c).enabled = true) {p : State}
    (roster : p.pic.roster = t.pic.roster) (points : p.pic.points = t.pic.points)
    (conds : ∀ x k, p.condEntry x k = if x = s.own then set.startCond k else ⟨.normal, false, 0, .unknown⟩) :
    (p.rawResult (set.conds.get c) = false → t.cond.run.get c = ⟨.isFalse, false, none, none⟩) ∧
    (p.rawResult (set.conds.get c) = true → (set.conds.get c).hold = 0 →
      t.cond.run.get c = ⟨.isTrue, true, none, none⟩) ∧
    (p.rawResult (set.conds.get c) = true → (set.conds.get c).hold ≠ 0 →
      t.cond.run.get c = ⟨.qualifying, true, some (s.after (100 * (set.conds.get c).hold)), none⟩) := by
  have same : r.rawResult = p.rawResult := rawResult_congr (termValue_congr (by rw [points, h.runs.points])
    (by rw [roster, h.runs.roster]) (fun x k => by rw [h.start.cond, conds]; exact ⟨rfl, rfl⟩))
  rw [h.run, same]
  exact ⟨fun raw => if_neg (fun e => by simp [raw] at e),
    fun raw hold => by rw [if_pos ⟨on, raw⟩, if_pos hold], fun raw hold => by rw [if_pos ⟨on, raw⟩, if_neg hold]⟩

/-- The notices of an acceptance, in the order of its steps (R18, log entry 7). -/
theorem State.Accepts.notices (h : s.Accepts set r t) : t.cond.notices =
    ((indices 32).filter (fun st => (t.pic.roster.get st).presence != .notExpected)).map
      (fun st => .presence st .notExpected (t.pic.roster.get st).presence) ++
    (indices 8).map (fun c => .cond s.own c ⟨.normal, false, 0, .unknown⟩ (set.startCond c)) ++
    (indices 16).map (fun p => .point s.own p ⟨false, .unknown⟩ (t.pointEntry s.own p)) ++
    r.startTrues.map (fun c => .cond s.own c (set.startCond c) { set.startCond c with truth := true }) ++
    r.startTrues.map (fun c => .cond s.own c { set.startCond c with truth := true } (t.ownCond c)) := by
  have points : (indices 16).map (fun p => Notice.point s.own p ⟨false, .unknown⟩ (t.pointEntry s.own p)) =
      (indices 16).map (fun p => .point s.own p ⟨false, .unknown⟩ (set.startPoint s.pins p)) :=
    List.map_congr_left (fun p _ => by rw [h.point, if_pos rfl])
  have alerts : r.startTrues.map (fun c => Notice.cond s.own c { set.startCond c with truth := true } (t.ownCond c)) =
      r.startTrues.map
        (fun c => .cond s.own c { set.startCond c with truth := true } ⟨.alertUnack, true, 1, .good⟩) :=
    List.map_congr_left (fun c hc => by rw [h.ownCond, if_pos (mem_startTrues.1 hc)])
  rw [h.runs.notices, h.start.notices, h.start.own, h.start.settings, alerts, points]
  simp only [h.roster]

/-- The records of an acceptance (R68, R69, R144). -/
theorem State.Accepts.records (h : s.Accepts set r t) :
    s.hands t (.started s.own set.version :: r.startTrues.flatMap (fun c => .condChange s.own c .alertUnack 1 ::
      (((r.startTrues.filterMap (fun c => r.jobOf c .alertUnack 1)).drop 7).filter (fun j => j.cond == c)).map
        (fun j => .reportDropped s.own c j.trigger))) := by
  have later := h.runs.records
  rw [h.start.own] at later
  exact State.hands_append h.start.records later (by rw [h.same.2.1, h.start.clock]) (by rw [h.same.1, h.start.settings])

/-- STARTED is the first record of an empty journal (R144). -/
theorem State.Accepts.first_record (h : s.Accepts set r t) (empty : s.journal.records = []) :
    ∃ l, t.journal.records = ⟨.started s.own set.version, s.clock⟩ :: l := by
  obtain ⟨l, more⟩ := records_of_hands h.runs.records
  have started := h.start.records
  rw [State.hands, h.start.clock] at started
  refine ⟨l, ?_⟩
  rw [more, started]
  simp [Journal.append, empty, journalSize]

/-- The first alert's line is composed where its condition has moved and the later ones have not (R187, log entry 6). -/
theorem State.Accepts.first_line (h : s.Accepts set r t) {j : Job} {rest : List Job}
    (jobs : r.startTrues.filterMap (fun c => r.jobOf c .alertUnack 1) = j :: rest) :
    t.report.jobs = rest.take 6 ∧ t.report.since = s.clock ∧
      ∀ m : State, m.settings = set → m.own = s.own → m.pic.points = t.pic.points →
        (∀ x k, m.condEntry x k = if x = s.own ∧ j.cond < k
          then { set.startCond k with truth := (t.ownCond k).truth } else t.condEntry x k) →
        t.report.line = some (m.composeLine j) := by
  obtain ⟨queued, since, n, composed, nset, nown, npoints, nconds⟩ := h.runs.first j rest jobs
  refine ⟨queued, by rw [since, h.start.clock], ?_⟩
  intro m mset mown mpoints mconds
  rw [composed]
  refine congrArg _ (composeLine_congr (by rw [nset, h.start.settings, mset]) (by rw [nown, h.start.own, mown])
    (by rw [npoints, mpoints, h.runs.points]) ?_ j)
  intro x k
  rw [nconds, mconds, h.start.own, h.start.settings, h.ownCond]
  by_cases later : x = s.own ∧ j.cond < k
  · rw [if_pos later, if_pos later]
    cases r.nextTruth k <;> rfl
  · rw [if_neg later, if_neg later]

end

/-- Settles O14: the start values and STARTED first (`StartedFrom`), then the entry evaluation, its edges and the entry
into LISTENING (`RunsFrom`), and each claim is read off these two. -/
theorem acceptedImageEntersListening : Obligations.AcceptedImageEntersListening := by
  intro set s idle held loading checking noRecords passes start
  have notRunning : s.life.life.running = false := by rw [loading]; rfl
  have accepts := imageCheckEnd_accepts idle loading checking passes
  obtain ⟨r, hr⟩ : ∃ r, r = s.checked.recorded set := ⟨_, rfl⟩
  obtain ⟨t, ht⟩ : ∃ t, t = s.imageCheckEnd := ⟨_, rfl⟩
  rw [← hr, ← ht] at accepts
  obtain ⟨settings, clock, own⟩ := accepts.same
  have life := accepts.life (idle.stuck notRunning)
  obtain ⟨truesEq, jobOfEq⟩ := accepts.trues
  have startOwn : ∀ c, start s.own c = set.startCond c := fun c => if_pos rfl
  refine ⟨t, by rw [exec_running _ held, ht]; rfl, by rw [life], by rw [life], settings, ?_⟩
  intro trues jobs
  have trues_eq : trues = r.startTrues := truesEq
  have jobs_eq : jobs = r.startTrues.filterMap (fun c => r.jobOf c .alertUnack 1) := by
    simp only [jobs, trues_eq, jobOfEq]
  refine ⟨by rw [life], by rw [life], own, accepts.roster, fun p => by rw [accepts.point, if_pos rfl]; rfl, ?_, ?_, ?_,
    ?_, ?_, ?_, ?_, ?_, ?_, ?_, ?_, ?_, ?_, ?_, ?_, ?_, ?_, ?_, ?_, ?_, ?_, ?_, ?_, ?_, ?_⟩
  · simp only [startOwn, trues_eq]
    exact accepts.notices
  · exact fun st other => ⟨fun p => by rw [accepts.point, if_neg other],
      fun c => by rw [accepts.cond, if_neg (fun h => other h.1), if_neg other]⟩
  · rw [accepts.runs.same .input (by simp)]; exact accepts.start.lines
  · rw [accepts.runs.same .input (by simp)]; exact accepts.start.controls
  · rw [accepts.runs.test, accepts.start.test]
  · rw [accepts.runs.same .input (by simp)]; exact accepts.start.pairs
  · intro c off
    rw [startOwn]
    exact accepts.unused off
  · exact fun c on p roster points conds => accepts.enabled on roster points conds
  · intro c
    refine ⟨?_, fun is => by rw [accepts.ownCond, if_pos ((accepts.isTrue c).1 is)],
      fun isNot => by rw [accepts.ownCond, if_neg (fun h => isNot ((accepts.isTrue c).2 h)), startOwn]⟩
    rw [accepts.isTrue, accepts.runs.seqTruth, accepts.start.ann]
    simp [AnnUnit.reset]
  · rw [accepts.runs.ann, accepts.start.ann]; rfl
  · rw [accepts.runs.ann, accepts.start.ann]
    exact nodup_eraseDups _
  · rw [accepts.runs.ann, accepts.start.ann]
    exact mem_attentionSet set
  · rw [accepts.runs.frame, accepts.start.same .frame (by simp)]
  · intro none
    have empty : r.startTrues = [] := List.filter_eq_nil_iff.2 (fun c _ h => none c ((accepts.isTrue c).2 h))
    rw [accepts.runs.frame, if_pos empty]
  · rintro ⟨c, is⟩
    have some : r.startTrues ≠ [] := List.ne_nil_of_mem (mem_startTrues.2 ((accepts.isTrue c).1 is))
    rw [accepts.runs.frame, if_neg some]
  · rw [trues_eq, jobs_eq]
    exact accepts.records
  · exact accepts.first_record noRecords
  · intro none
    rw [accepts.runs.quiet (by rw [← jobs_eq]; exact none), accepts.start.same .report (by simp)]
  · intro j rest is
    obtain ⟨queued, since, line⟩ := accepts.first_line (by rw [← jobs_eq]; exact is)
    refine ⟨queued, since, fun m mset _ mown mpoints mconds => line m mset mown mpoints ?_⟩
    simp only [startOwn] at mconds
    exact mconds
  · rw [accepts.runs.ann, accepts.start.ann, trues_eq, accepts.start.own, accepts.start.settings]; rfl
  · rw [accepts.runs.ann, accepts.start.ann, idle.annunciation notRunning]
  · rw [accepts.runs.line, accepts.start.same .line (by simp)]
  · rw [accepts.runs.same .port (by simp), accepts.start.port]
  · rw [accepts.runs.same .loader (by simp), accepts.start.loader]
  · exact State.changesOnly_trans (State.changesOnly_mono accepts.start.same (by decide))
      (State.changesOnly_mono accepts.runs.same (by decide))
end Machine
end Sys2Proof
end

section
namespace Sys2Proof
namespace Machine

/-! ### What received frames leave of the own row (R5, R8, R90) -/

/-- An acknowledgement moves a condition's state alone. -/
theorem acknowledged_keeps (s : State) (c : CondIx) (a : AckPair) :
    (s.acknowledged c a).truth = (s.ownCond c).truth ∧ (s.acknowledged c a).quality = (s.ownCond c).quality := by
  rcases applyAck_cases s c a with ⟨-, same⟩ | ⟨new, -, -, moved⟩
  · rw [same]; exact ⟨rfl, rfl⟩
  · rw [moved]; exact ⟨rfl, rfl⟩

/-- A row taken of another station leaves the own row. -/
theorem takeRow_ownRow {s : State} {st : Station} (f : StateFrame) (peer : st ≠ s.own) :
    (∀ p, (s.takeRow st f).pointEntry s.own p = s.pointEntry s.own p) ∧
    ∀ c, (s.takeRow st f).condEntry s.own c = s.ownCond c := by
  have pic : (s.takeRow st f).pic = s.pic.takeRow st (s.rosterAfter (s.pic.roster.get st) f) f := by
    rw [State.takeRow_eq]
    simpa using (rowTaken_effect st f s).1
  obtain ⟨points, conds⟩ := Picture.takeRow_entries st (s.rosterAfter (s.pic.roster.get st) f) f s.pic
  refine ⟨fun p => ?_, fun c => ?_⟩
  · rw [State.pointEntry, pic, points, if_neg (Ne.symm peer)]; rfl
  · rw [State.condEntry, pic, conds, if_neg (Ne.symm peer)]; rfl

/-- A STATE of another station leaves the own row. -/
theorem takeState_ownRow {s : State} {st : Station} (f : StateFrame) (peer : st ≠ s.own) :
    (∀ p, (s.takeState st f).pointEntry s.own p = s.pointEntry s.own p) ∧
    ∀ c, (s.takeState st f).condEntry s.own c = s.ownCond c := by
  have row := takeRow_ownRow f peer
  simp only [State.takeState]
  split
  · exact ⟨fun _ => rfl, fun _ => rfl⟩
  · simp only [State.strangerState]
    split
    · exact ⟨fun _ => rfl, fun _ => rfl⟩
    · simp [State.pointEntry, State.condEntry, State.ownCond, Picture.setRoster]
  all_goals exact row

/-- An ACKREQ writes no point, and of the own conditions the state of those it acknowledges, in ACTIVE and for the own
station alone. -/
theorem takeAckreq_ownRow (target : Station) (mask : BitVec 8) (pairs : Tab 8 AckPair) (s : State) :
    (∀ c, ((s.takeAckreq target mask pairs).condEntry s.own c).truth = (s.ownCond c).truth ∧
      ((s.takeAckreq target mask pairs).condEntry s.own c).quality = (s.ownCond c).quality) ∧
    (target ≠ s.own ∨ s.life.life ≠ .active → ∀ c, (s.takeAckreq target mask pairs).condEntry s.own c = s.ownCond c) := by
  rw [takeAckreq_eq]
  split
  · rename_i acts
    have entry : ∀ c, ((s.ackMasked mask pairs (indices 8)).requestUrgent).condEntry s.own c =
        if mask.getLsbD c.val = true then s.acknowledged c (pairs.get c) else s.ownCond c := by
      intro c
      have kept : ∀ t : State, t.requestUrgent.condEntry s.own c = t.condEntry s.own c := by
        intro t; simp [State.condEntry]
      rw [kept, ackMasked_condEntry _ _ (indices_nodup 8)]
      simp only [mem_indices, true_and]
      rfl
    refine ⟨fun c => ?_, fun other => absurd acts (not_and_or.2 other)⟩
    rw [entry]
    split
    · exact acknowledged_keeps s c _
    · exact ⟨rfl, rfl⟩
  · exact ⟨fun _ => ⟨rfl, rfl⟩, fun _ _ => rfl⟩

/-- What the Frame Unit leaves of the own row. -/
theorem receiveFrame_ownRow (s : State) (bytes : List Byte) :
    (s.receiveFrame bytes).own = s.own ∧
    (∀ p, (s.receiveFrame bytes).pointEntry s.own p = s.pointEntry s.own p) ∧
    (∀ c, ((s.receiveFrame bytes).condEntry s.own c).truth = (s.ownCond c).truth ∧
      ((s.receiveFrame bytes).condEntry s.own c).quality = (s.ownCond c).quality) ∧
    ((¬ ∃ origin mask pairs, decodeFrame bytes = some ⟨origin, .ackreq s.own mask pairs⟩) ∨ s.life.life ≠ .active →
      ∀ c, (s.receiveFrame bytes).condEntry s.own c = s.ownCond c) := by
  have own : (s.receiveFrame bytes).own = s.own := by simp [State.own]
  refine ⟨own, ?_⟩
  rcases receiveFrame_cases s bytes with ⟨pic, -, -⟩ | ⟨st, p, decoded, peer, taken⟩
  · have point : (s.receiveFrame bytes).pointEntry = s.pointEntry := by funext x p; rw [State.pointEntry, pic]; rfl
    have cond : (s.receiveFrame bytes).condEntry = s.condEntry := by funext x c; rw [State.condEntry, pic]; rfl
    rw [point, cond]
    exact ⟨fun _ => rfl, fun _ => ⟨rfl, rfl⟩, fun _ _ => rfl⟩
  · rw [taken]
    cases p with
    | state f =>
      obtain ⟨points, conds⟩ := takeState_ownRow f peer
      exact ⟨points, fun c => by rw [conds]; exact ⟨rfl, rfl⟩, fun _ => conds⟩
    | ackreq target mask pairs =>
      obtain ⟨entries, still⟩ := takeAckreq_ownRow target mask pairs (s.heard st)
      have hOwn : (s.heard st).own = s.own := by simp [State.own]
      have hCond : (s.heard st).ownCond = s.ownCond := by
        funext c; simp [State.ownCond, State.condEntry, State.own]
      have hLife : (s.heard st).life = s.life := by simp
      rw [hOwn, hCond] at entries still
      rw [hLife] at still
      refine ⟨fun p => by simp [State.pointEntry], entries, fun h => still ?_⟩
      refine h.imp_left (fun none is => none ⟨st, mask, pairs, ?_⟩)
      rw [decoded, is]
    | silence zones =>
      simp [State.pointEntry, State.ownCond, State.condEntry]

/-- Settles O9: the row of a received STATE is its origin's, and an acknowledgement moves a state and nothing else. -/
theorem peersDoNotWriteTheOwnRow : Obligations.PeersDoNotWriteTheOwnRow := by
  intro levels bytes s t read stepped
  rw [exec_eq_effect] at stepped
  cases stepped
  have same : ∀ u : State, u = s → u.own = s.own ∧ (∀ p, u.pointEntry s.own p = s.pointEntry s.own p) ∧
      (∀ c, (u.ownCond c).truth = (s.ownCond c).truth ∧ (u.ownCond c).quality = (s.ownCond c).quality) ∧
      ((¬ ∃ origin mask pairs, decodeFrame bytes = some ⟨origin, .ackreq s.own mask pairs⟩) ∨ s.life.life ≠ .active →
        ∀ c, u.ownCond c = s.ownCond c) := by
    rintro u rfl
    exact ⟨rfl, fun _ => rfl, fun _ => ⟨rfl, rfl⟩, fun _ _ => rfl⟩
  cases held : s.held with
  | true => exact same _ (by simp [effect, held, effectHeld])
  | false =>
    have acts : effect (.frameEnd levels) s = s.frameEnd levels := by simp [effect, held, effectRunning]
    rw [acts]
    rcases frameEnd_cases s levels with still | ⟨bytes', read', -, taken⟩
    · exact same _ still
    · rw [read] at read'
      cases read'
      obtain ⟨own, points, conds, still⟩ := receiveFrame_ownRow (s.atFrameEnd bytes) bytes
      rw [taken]
      have driven : ∀ u : State, u.driveOutputs.own = u.own ∧ u.driveOutputs.pointEntry = u.pointEntry ∧
          u.driveOutputs.condEntry = u.condEntry := fun u => ⟨rfl, rfl, rfl⟩
      obtain ⟨dOwn, dPoint, dCond⟩ := driven ((s.atFrameEnd bytes).receiveFrame bytes)
      have entry : ((s.atFrameEnd bytes).receiveFrame bytes).driveOutputs.ownCond =
          ((s.atFrameEnd bytes).receiveFrame bytes).condEntry s.own := by
        funext c
        rw [State.ownCond, dOwn, dCond, own]
        rfl
      rw [dOwn, dPoint, entry]
      exact ⟨own, points, conds, still⟩

/-! ### Presence (Table 1-3) -/

/-- The commands that move a presence, apart from the resets. -/
def movesPresence : Instr → Bool
  | .imageCheckEnd => true
  | .absenceTimerExpiry _ => true
  | .frameEnd _ => true
  | _ => false

/-- Every other command keeps the roster (R3). -/
theorem effectRunning_roster {c : Instr} (resets : c.resets = false) (moves : movesPresence c = false) (s : State) :
    (effectRunning c s).pic.roster = s.pic.roster := by
  cases c
  case reset => cases resets
  case imageCheckEnd => cases moves
  case absenceTimerExpiry => cases moves
  case frameEnd => cases moves
  case truthEdge cond =>
    simp only [effectRunning]
    split <;> simp
  all_goals simp [effectRunning, State.writeCommand]

/-- At an absence the station in question alone changes its presence, with its notice (R16, R18). -/
theorem absenceExpiry_presence {s : State} {x st : Station}
    (moved : ((s.absenceExpiry x).pic.roster.get st).presence ≠ (s.pic.roster.get st).presence) :
    x = st ∧ (s.pic.roster.get st).presence = .present ∧
      ((s.absenceExpiry x).pic.roster.get st).presence = .absent ∧
      .presence st .present .absent ∈ (s.absenceExpiry x).cond.notices := by
  revert moved
  simp only [State.absenceExpiry]
  split
  · rename_i due present _
    obtain ⟨pic, -, -, -, -, notices⟩ := rowAbsent_effect x (s.reachTime due)
    have after : ((s.reachTime due).becomeAbsent x).settle.pic = s.pic.absent x := by
      rw [State.becomeAbsent_eq]
      simpa using pic
    have told : ((s.reachTime due).becomeAbsent x).settle.cond.notices = ((s.reachTime due).rowAbsent x).cond.notices := by
      rw [State.becomeAbsent_eq]
      simp
    rw [after, told, notices]
    by_cases hx : x = st
    · subst hx
      intro _
      refine ⟨rfl, present, by simp [Picture.absent], by simp [present]⟩
    · intro moved
      exact absurd (by simp [Picture.absent, Tab.get_set, hx]) moved
  · exact fun moved => absurd rfl moved

/-- A row taken changes the presence of its station alone, to PRESENT and with the notice (R10 to R12, R18). -/
theorem takeRow_presence {x st : Station} {f : StateFrame} {s : State}
    (moved : ((s.takeRow x f).pic.roster.get st).presence ≠ (s.pic.roster.get st).presence) :
    x = st ∧ (s.pic.roster.get st).presence ≠ .present ∧ ((s.takeRow x f).pic.roster.get st).presence = .present ∧
      .presence st (s.pic.roster.get st).presence .present ∈ (s.takeRow x f).cond.notices := by
  obtain ⟨pic, -, notices, -⟩ := rowTaken_effect x f s
  have after : (s.takeRow x f).pic = s.pic.takeRow x (s.rosterAfter (s.pic.roster.get x) f) f := by
    rw [State.takeRow_eq]
    simpa using pic
  have told : (s.takeRow x f).cond.notices = (s.rowTaken x f).cond.notices := by
    rw [State.takeRow_eq]
    simp
  rw [after, Picture.takeRow, Tab.get_set] at moved ⊢
  by_cases hx : x = st
  · subst hx
    rw [if_pos rfl] at moved ⊢
    have other : (s.pic.roster.get x).presence ≠ .present := fun h => moved (by rw [h]; rfl)
    rw [told, notices, if_neg other]
    exact ⟨rfl, other, rfl, by simp⟩
  · rw [if_neg hx] at moved
    exact absurd rfl moved

/-- A frame heard from a PRESENT peer keeps its presence (R15). -/
theorem heard_presence (x st : Station) (s : State) :
    ((s.heard x).pic.roster.get st).presence = (s.pic.roster.get st).presence := by
  rw [heard_eq]
  split
  · simp only [State.onPic, Picture.setRoster, Tab.get_set]
    split
    · rename_i is; rw [is]
    · rfl
  · rfl

/-- A stranger's STATE keeps its presence (R9). -/
theorem strangerState_presence (x st : Station) (s : State) :
    ((s.strangerState x).pic.roster.get st).presence = (s.pic.roster.get st).presence := by
  simp only [State.strangerState]
  split
  · rfl
  · simp only [State.onPic, State.record_keeps, Picture.setRoster, Tab.get_set]
    split
    · rename_i is; rw [is]
    · rfl

/-- At a frame end the origin of a STATE alone changes its presence, with its notice (R10 to R12, R18). -/
theorem receiveFrame_presence {s : State} {bytes : List Byte} {st : Station}
    (moved : ((s.receiveFrame bytes).pic.roster.get st).presence ≠ (s.pic.roster.get st).presence) :
    (∃ f, decodeFrame bytes = some ⟨st, .state f⟩) ∧
      ((s.pic.roster.get st).presence = .unheard ∨ (s.pic.roster.get st).presence = .absent) ∧
      ((s.receiveFrame bytes).pic.roster.get st).presence = .present ∧
      .presence st (s.pic.roster.get st).presence .present ∈ (s.receiveFrame bytes).cond.notices := by
  rcases receiveFrame_cases s bytes with ⟨pic, -, -⟩ | ⟨x, p, decoded, -, taken⟩
  · exact absurd (by rw [pic]) moved
  rw [taken] at moved ⊢
  cases p with
  | ackreq target mask pairs => exact absurd (by simpa using heard_presence x st s) moved
  | silence zones => exact absurd (by simpa using heard_presence x st s) moved
  | state f =>
    rw [decoded]
    simp only [State.takeState] at moved ⊢
    split at moved
    · exact absurd rfl moved
    · exact absurd (strangerState_presence x st s) moved
    all_goals
      rename_i was
      obtain ⟨rfl, other, after, notice⟩ := takeRow_presence moved
      exact ⟨⟨f, rfl⟩, by simp_all, after, notice⟩

/-- At the end of an image check a presence changes by the image's acceptance alone, with its notice (R7, R18). -/
theorem imageCheckEnd_presence {s : State} (idle : s.IdleLaw) {st : Station}
    (moved : (s.imageCheckEnd.pic.roster.get st).presence ≠ (s.pic.roster.get st).presence) :
    (s.pic.roster.get st).presence = .notExpected ∧ s.imageCheckEnd.life.life = .listening ∧
      (s.imageCheckEnd.pic.roster.get st).presence = (if st = s.own then .self else .unheard) ∧
      (st ≠ s.own → s.imageCheckEnd.settings.expected.getLsbD st.val = true) ∧
      .presence st (s.pic.roster.get st).presence (s.imageCheckEnd.pic.roster.get st).presence ∈
        s.imageCheckEnd.cond.notices := by
  by_cases checks : s.loader.phase = .checking ∧ s.life.life = .loading
  · obtain ⟨checking, loading⟩ := checks
    cases result : checkImage s.loader.buffer s.own with
    | error code =>
      have pic : s.imageCheckEnd.pic = s.pic := by simp [State.imageCheckEnd, checking, loading, result]
      exact absurd (by rw [pic]) moved
    | ok set =>
      have before : (s.pic.roster.get st).presence = .notExpected := by
        rw [idle.picture (by rw [loading]; rfl)]
        simp [Picture.reset]
      obtain ⟨start, fresh⟩ := checked_startedFrom set idle loading
      have runs := fresh.runs
      rw [← acceptImage_eq_recorded, ← imageCheckEnd_of_passes loading checking result] at runs
      have after : (s.imageCheckEnd.pic.roster.get st).presence = set.startPresence s.own st := by
        rw [runs.roster, start.roster]
      rw [after, before] at moved
      have expected : st ≠ s.own → set.expected.getLsbD st.val = true := by
        intro peer
        by_contra off
        exact moved (by simp only [Settings.startPresence, if_neg peer, if_neg off])
      refine ⟨before, by rw [runs.life], ?_, ?_, ?_⟩
      · rw [after, Settings.startPresence]
        split
        · rfl
        · rename_i peer
          rw [if_pos (expected peer)]
      · rw [runs.same .settings (by simp), start.settings]
        exact expected
      · rw [runs.notices, start.notices, before, after]
        simp only [List.append_assoc, List.mem_append]
        left
        exact List.mem_map.2 ⟨st, List.mem_filter.2 ⟨mem_indices st, by simpa using moved⟩, rfl⟩
  · have same : s.imageCheckEnd = s := by simp only [State.imageCheckEnd, if_neg checks]
    exact absurd (by rw [same]) moved

/-- A reset leaves no station expected (R6). -/
theorem resets_presence {c : Instr} (resets : c.resets = true) {s : State} {st : Station}
    (moved : ((effect c s).pic.roster.get st).presence ≠ (s.pic.roster.get st).presence) :
    ((effect c s).pic.roster.get st).presence = .notExpected := by
  have reset : ((effect c s).pic = .reset) ∨ effect c s = s := by
    unfold effect
    cases c <;> simp only [Instr.resets, Bool.false_eq_true] at resets
    · split <;> exact .inl rfl
    · rename_i stn source
      split
      · cases source <;> exact .inl rfl
      · exact .inr rfl
  rcases reset with reset | same
  · rw [reset]; simp [Picture.reset]
  · exact absurd (by rw [same]) moved

/-- Settles O6, by the three commands that move a presence and the resets. -/
theorem presenceMovesByItsTable : Obligations.PresenceMovesByItsTable := by
  intro c s t st idle stepped moved
  rw [exec_eq_effect] at stepped
  cases stepped
  by_cases resets : c.resets = true
  · exact .inl ⟨resets, resets_presence resets moved⟩
  right
  have acts : effect c s = effectRunning c s := by
    unfold effect at moved ⊢
    split
    · rename_i held
      rw [if_pos held] at moved
      rcases effectHeld_of_not_resets (by simpa using resets) s with still | acts
      · exact absurd (by rw [still]) moved
      · exact acts
    · rfl
  rw [acts] at moved ⊢
  by_cases moves : movesPresence c = true
  · cases c <;> simp only [movesPresence, Bool.false_eq_true] at moves
    case imageCheckEnd =>
      obtain ⟨before, life, after, expected, notice⟩ := imageCheckEnd_presence idle moved
      exact ⟨notice, .inl ⟨rfl, before, life, after, expected⟩⟩
    case absenceTimerExpiry x =>
      obtain ⟨rfl, before, after, notice⟩ := absenceExpiry_presence moved
      have after' : ((effectRunning (.absenceTimerExpiry x) s).pic.roster.get x).presence = .absent := after
      exact ⟨by rw [before, after']; exact notice, .inr (.inr ⟨rfl, before, after⟩)⟩
    case frameEnd levels =>
      rcases frameEnd_cases s levels with still | ⟨bytes, read, valid, taken⟩
      · exact absurd (by simp only [effectRunning, still]) moved
      · simp only [effectRunning, taken] at moved ⊢
        obtain ⟨⟨f, decoded⟩, before, after, notice⟩ := receiveFrame_presence (s := s.atFrameEnd bytes) moved
        have present :
            (((s.atFrameEnd bytes).receiveFrame bytes).driveOutputs.pic.roster.get st).presence = .present := after
        exact ⟨by rw [present]; exact notice,
          .inr (.inl ⟨⟨levels, bytes, f, rfl, read, valid, decoded⟩, before, after⟩)⟩
  · exact absurd (by rw [effectRunning_roster (by simpa using resets) (by simpa using moves)]) moved
end Machine
end Sys2Proof
end

section
namespace Sys2Proof
namespace Machine

/-! ### Levels of the line (R117, R120, R121) -/

/-- A data bit read from the level it was driven as. -/
theorem levelBit_bitLevel (b : Byte) (k : Nat) : levelBit (bitLevel (b.getLsbD k)) = b.toNat / 2 ^ k % 2 := by
  rw [BitVec.getLsbD, Nat.testBit_eq_decide_div_mod_eq, bitLevel]
  rcases Nat.mod_two_eq_zero_or_one (b.toNat / 2 ^ k) with h | h <;> rw [h] <;> rfl

/-- A byte is read from the eight data levels it was driven as. -/
theorem byteOfLevels_bitLevel (b : Byte) :
    byteOfLevels (bitLevel (b.getLsbD 0)) (bitLevel (b.getLsbD 1)) (bitLevel (b.getLsbD 2)) (bitLevel (b.getLsbD 3))
      (bitLevel (b.getLsbD 4)) (bitLevel (b.getLsbD 5)) (bitLevel (b.getLsbD 6)) (bitLevel (b.getLsbD 7)) = b := by
  apply BitVec.eq_of_toNat_eq
  have small := b.isLt
  simp only [byteOfLevels, byteOf, levelBit_bitLevel, BitVec.toNat_ofNat]
  omega

/-- The levels of a byte are read as that byte. -/
theorem readBytes_byteLevels (acc : List Byte) (b : Byte) (rest : List Level) :
    readBytes acc (byteLevels b ++ rest) = readBytes (acc ++ [b]) rest := by
  simp only [byteLevels, List.cons_append, List.nil_append, readBytes, byteOfLevels_bitLevel]

/-- The levels of bytes and the recessive tail are read as those bytes. -/
theorem readBytes_driven (acc bytes : List Byte) :
    readBytes acc (bytes.flatMap byteLevels ++ tailLevels) = .complete (acc ++ bytes) := by
  induction bytes generalizing acc with
  | nil => simp [tailLevels, readBytes, readTail, List.replicate]
  | cons b bytes ih => rw [List.flatMap_cons, List.append_assoc, readBytes_byteLevels, ih, List.append_assoc]; rfl

/-- What is driven for bytes is received as those bytes. -/
theorem readReception_driven (bytes : List Byte) :
    readReception (driveLevels bytes ++ tailLevels) = .complete bytes := by
  simpa [driveLevels, readReception] using readBytes_driven [] bytes

/-- A lead-in of four bit times, and ten for each byte. -/
theorem length_driveLevels (bytes : List Byte) : (driveLevels bytes).length = 4 + 10 * bytes.length := by
  have each : ∀ b : Byte, (byteLevels b).length = 10 := fun _ => rfl
  simp only [driveLevels, List.length_append, List.length_flatMap, each, List.map_const', List.sum_replicate,
    List.length_cons, List.length_nil, smul_eq_mul]
  omega

/-! ### The check (R194) -/

/-- The eight steps shift the register, each combining 1021h where the highest bit leaves it. -/
theorem crcSteps_eq_iterate (n : Nat) (r : BitVec 16) : crcSteps n r =
    Nat.iterate (fun r : BitVec 16 => if r.getLsbD 15 then (r <<< 1) ^^^ 0x1021 else r <<< 1) n r := by
  induction n generalizing r with
  | zero => rfl
  | succ n ih =>
    have msb : r.msb = r.getLsbD 15 := BitVec.msb_eq_getLsbD_last r
    rw [crcSteps, ih, msb]
    rfl

/-- The check of one byte more. -/
theorem crc16_append (bytes : List Byte) (b : Byte) : crc16 (bytes ++ [b]) = crcByte (crc16 bytes) b := by
  simp [crc16]

/-! ### Valid receptions (R121) -/

/-- A reception is valid where its bytes are a header and payload of the length it names and their check. -/
theorem validOnLine_iff (bytes : List Byte) : validOnLine bytes = true ↔ ∃ body : List Byte, 4 ≤ body.length ∧
    (body.getD 3 0).toNat ≤ 16 ∧ body.length = 4 + (body.getD 3 0).toNat ∧ bytes = body ++ crcBytes body := by
  have crcLength : ∀ l, (crcBytes l).length = 2 := fun _ => rfl
  constructor
  · intro valid
    simp only [validOnLine, Bool.and_eq_true, decide_eq_true_eq, beq_iff_eq] at valid
    obtain ⟨⟨⟨header, small⟩, length⟩, check⟩ := valid
    have same : (bytes.take (4 + (bytes.getD 3 0).toNat)).getD 3 0 = bytes.getD 3 0 := by
      rw [List.getD_eq_getElem?_getD, List.getElem?_take, if_pos (by omega), List.getD_eq_getElem?_getD]
    refine ⟨bytes.take (4 + (bytes.getD 3 0).toNat), ?_, ?_, ?_, ?_⟩
    · rw [List.length_take]; omega
    · rw [same]; exact small
    · rw [same, List.length_take]; omega
    · rw [← check, List.take_append_drop]
  · rintro ⟨body, header, small, length, rfl⟩
    have same : (body ++ crcBytes body).getD 3 0 = body.getD 3 0 := List.getD_append _ _ _ _ (by omega)
    simp only [validOnLine, same, Bool.and_eq_true, decide_eq_true_eq, beq_iff_eq, ← length]
    refine ⟨⟨⟨?_, small⟩, ?_⟩, ?_⟩
    · rw [List.length_append]; omega
    · rw [List.length_append, crcLength]
    · rw [List.drop_left, List.take_left]

/-! ### Frames as bytes (R97, R193) -/

/-- A table's entries are those of its indices, in ascending order. -/
theorem tab_list_eq {n : Nat} {α : Type} (t : Tab n α) : t.list = (indices n).map t.get := by
  apply List.ext_getElem
  · simp [indices, t.size]
  · intro i h _
    simp [indices, Tab.get]

/-- The body of a STATE, with every byte of Table 13-3. -/
def stateBody (st : Station) (f : StateFrame) : List Byte :=
  [0x01, byteOf st.val, f.seq, 13, byteOf (f.refreshCode % 8 + 128 * flag f.first), f.values.extractLsb' 0 8,
    f.values.extractLsb' 8 8, f.faults.extractLsb' 0 8, f.faults.extractLsb' 8 8] ++
    (indices 8).map (fun c => condByte (f.conds.get c))

/-- The body of an ACKREQ. -/
def ackreqBody (st target : Station) (mask : BitVec 8) (pairs : Tab 8 AckPair) : List Byte :=
  [0x02, byteOf st.val, 0, 10, byteOf target.val, mask] ++
    (indices 8).map (fun c => if mask.getLsbD c.val then ackByte (pairs.get c) else 0)

/-- The body of a SILENCE. -/
def silenceBody (st : Station) (zones : BitVec 4) : List Byte := [0x03, byteOf st.val, 0, 1, zones.setWidth 8]

/-- A STATE's bytes are its body and the check of it. -/
theorem state_body (st : Station) (f : StateFrame) : (⟨st, .state f⟩ : Frame).body = stateBody st f := by
  have entries : f.conds.list.map condByte = (indices 8).map (fun c => condByte (f.conds.get c)) := by
    rw [tab_list_eq, List.map_map]; rfl
  simp only [Frame.body, Payload.bytes, Payload.kindCode, Payload.seqField, entries]
  simp [stateBody, maskBytes, indices, byteOf]

/-- An ACKREQ's bytes are its body and the check of it. -/
theorem ackreq_body (st target : Station) (mask : BitVec 8) (pairs : Tab 8 AckPair) :
    (⟨st, .ackreq target mask pairs⟩ : Frame).body = ackreqBody st target mask pairs := by
  simp [Frame.body, Payload.bytes, Payload.kindCode, Payload.seqField, ackreqBody, indices, byteOf]

/-- A SILENCE's bytes are its body and the check of it. -/
theorem silence_body (st : Station) (zones : BitVec 4) :
    (⟨st, .silence zones⟩ : Frame).body = silenceBody st zones := rfl

/-! ### Frames read (R196) -/

/-- What is read of a STATE's bytes. -/
theorem decodeFrame_state (origin seq p0 v0 v1 f0 f1 x y : Byte) {entries : List Byte} (size : entries.length = 8) :
    decodeFrame ([0x01, origin, seq, 13, p0, v0, v1, f0, f1] ++ entries ++ [x, y]) =
      some ⟨frameOrigin [0, origin], .state
        { seq := seq
          first := p0.getLsbD 7
          refreshCode := min 4 (p0.toNat % 8)
          values := maskOfBytes v0 v1
          faults := maskOfBytes f0 f1
          conds := .build (fun c => condOfByte (entries.getD c.val 0)) }⟩ := by
  have read : ∀ c : CondIx, ([0x01, origin, seq, 13, p0, v0, v1, f0, f1] ++ entries ++ [x, y]).getD (4 + (5 + c.val)) 0 =
      entries.getD c.val 0 := by
    intro c
    rw [List.getD_append _ _ _ _ (by simp; omega), List.getD_append_right _ _ _ _ (by simp; omega)]
    congr 1
    simp; omega
  have kind : (1#8).toNat = 1 := rfl
  simp only [decodeFrame, read]
  rfl

/-- What is read of an ACKREQ's bytes. -/
theorem decodeFrame_ackreq (origin seq target mask x y : Byte) {entries : List Byte} (size : entries.length = 8) :
    decodeFrame ([0x02, origin, seq, 10, target, mask] ++ entries ++ [x, y]) =
      some ⟨frameOrigin [0, origin], .ackreq (Fin.ofNat 32 target.toNat) mask
        (.build (fun c => ackOfByte (entries.getD c.val 0)))⟩ := by
  have read : ∀ c : CondIx, ([0x02, origin, seq, 10, target, mask] ++ entries ++ [x, y]).getD (4 + (2 + c.val)) 0 =
      entries.getD c.val 0 := by
    intro c
    rw [List.getD_append _ _ _ _ (by simp; omega), List.getD_append_right _ _ _ _ (by simp; omega)]
    congr 1
    simp; omega
  simp only [decodeFrame, read]
  rfl

/-- What is read of a SILENCE's bytes. -/
theorem decodeFrame_silence (origin seq zones x y : Byte) :
    decodeFrame [0x03, origin, seq, 1, zones, x, y] = some ⟨frameOrigin [0, origin], .silence (zones.setWidth 4)⟩ := rfl

/-- Nothing else is read as a frame (R99). -/
theorem decodeFrame_none {bytes : List Byte} (other : ∀ k ∈ [((0x01 : Byte), (13 : Byte)), (0x02, 10), (0x03, 1)],
    ¬ (bytes.getD 0 0 = k.1 ∧ bytes.getD 3 0 = k.2)) : decodeFrame bytes = none := by
  have unlike : ∀ k ∈ [((0x01 : Byte), (13 : Byte)), (0x02, 10), (0x03, 1)],
      ¬ ((bytes.getD 0 0).toNat = k.1.toNat ∧ (bytes.getD 3 0).toNat = k.2.toNat) :=
    fun k hk is => other k hk ⟨BitVec.eq_of_toNat_eq is.1, BitVec.eq_of_toNat_eq is.2⟩
  have state : ¬ ((bytes.getD 0 0).toNat = 0x01 ∧ (bytes.getD 3 0).toNat = 13) := unlike (0x01, 13) (by simp)
  have ackreq : ¬ ((bytes.getD 0 0).toNat = 0x02 ∧ (bytes.getD 3 0).toNat = 10) := unlike (0x02, 10) (by simp)
  have silence : ¬ ((bytes.getD 0 0).toNat = 0x03 ∧ (bytes.getD 3 0).toNat = 1) := unlike (0x03, 1) (by simp)
  simp only [decodeFrame, if_neg state, if_neg ackreq, if_neg silence]

/-- A station's number as a byte names that station. -/
theorem frameOrigin_byteOf (st : Station) (b : Byte) (rest : List Byte) :
    frameOrigin (b :: byteOf st.val :: rest) = st := by
  apply Fin.ext
  simp [frameOrigin, byteOf, Fin.ofNat]

/-- The state of a code, and codes of 5–7 are UNUSED (R14, R196). -/
theorem annStateOf_code (n : Nat) : (annStateOf n).code = min 4 n := by
  match n with
  | 0 | 1 | 2 | 3 => rfl
  | n + 4 => simp [annStateOf, AnnState.code]

/-- A condition byte as a number. -/
theorem toNat_condByte (c : CondReport) :
    (condByte c).toNat = c.state.code + 8 * flag c.truth + 16 * c.gen.val ∧ c.state.code ≤ 4 ∧ flag c.truth ≤ 1 := by
  have state : c.state.code ≤ 4 := by cases c.state <;> simp [AnnState.code]
  have truth : flag c.truth ≤ 1 := by cases c.truth <;> simp [flag]
  have gen := c.gen.isLt
  refine ⟨?_, state, truth⟩
  rw [condByte, byteOf, BitVec.toNat_ofNat, Nat.mod_eq_of_lt (by omega)]

/-- The state of a state's code. -/
theorem annStateOf_state (a : AnnState) : annStateOf a.code = a := by cases a <;> rfl

/-- A bit of a byte is the parity of what is left above it. -/
theorem getLsbD_eq_div (b : Byte) (k : Nat) : b.getLsbD k = decide (b.toNat / 2 ^ k % 2 = 1) := by
  rw [BitVec.getLsbD, Nat.testBit_eq_decide_div_mod_eq]

/-- A condition byte is read as the condition it was made of. -/
theorem condOfByte_condByte (c : CondReport) : condOfByte (condByte c) = c := by
  obtain ⟨number, state, truth⟩ := toNat_condByte c
  have gen := c.gen.isLt
  have stateBits : (condByte c).toNat % 8 = c.state.code := by omega
  have truthBit : (condByte c).toNat / 2 ^ 3 % 2 = flag c.truth := by omega
  have genBits : (condByte c).toNat / 16 = c.gen.val := by omega
  rw [condOfByte, stateBits, genBits, getLsbD_eq_div, truthBit, annStateOf_state]
  have flagged : decide (flag c.truth = 1) = c.truth := by cases c.truth <;> rfl
  rw [flagged]
  simp [Fin.ofNat, Nat.mod_eq_of_lt gen]

/-- An ACKREQ entry is read as the pair it was made of. -/
theorem ackOfByte_ackByte (a : AckPair) : ackOfByte (ackByte a) = a := by
  obtain ⟨phase, gen⟩ := a
  have small := gen.isLt
  have number : (ackByte ⟨phase, gen⟩).toNat = gen.val + (match phase with | .alert => 0 | .returned => 16) := by
    cases phase <;> simp only [ackByte, byteOf, BitVec.toNat_ofNat] <;> omega
  have low : (ackByte ⟨phase, gen⟩).toNat % 16 = gen.val := by
    rw [number]
    cases phase <;> simp only <;> omega
  have bit : (ackByte ⟨phase, gen⟩).getLsbD 4 = decide (phase = .returned) := by
    rw [getLsbD_eq_div, number]
    cases phase <;> simp only [reduceCtorEq, decide_true, decide_false, decide_eq_true_eq, decide_eq_false_iff_not] <;>
      omega
  simp only [ackOfByte, bit, Fin.ofNat, low]
  cases phase <;> rfl

/-- A mask is read from its two bytes. -/
theorem maskOfBytes_maskBytes (m : BitVec 16) : maskOfBytes (m.extractLsb' 0 8) (m.extractLsb' 8 8) = m := by
  apply BitVec.eq_of_getLsbD_eq
  intro i hi
  rw [maskOfBytes, BitVec.getLsbD_append]
  by_cases low : i < 8
  · simp [low]
  · rw [if_neg low, BitVec.getLsbD_extractLsb', show 8 + (i - 8) = i by omega]
    simp; omega

/-- The bits of a mask are those of its two bytes. -/
theorem getLsbD_maskOfBytes (lo hi : Byte) {k : Nat} (small : k < 8) :
    (maskOfBytes lo hi).getLsbD k = lo.getLsbD k ∧ (maskOfBytes lo hi).getLsbD (8 + k) = hi.getLsbD k := by
  simp only [maskOfBytes, BitVec.getLsbD_append, if_pos small, true_and]
  rw [if_neg (by omega), Nat.add_sub_cancel_left]

/-- An entry of a list made of the conditions. -/
theorem getD_map_indices (f : CondIx → Byte) (c : CondIx) : ((indices 8).map f).getD c.val 0 = f c := by
  have here : (indices 8)[c.val]? = some c := by simp only [indices, List.getElem?_ofFn, dif_pos c.isLt]
  rw [List.getD_eq_getElem?_getD, List.getElem?_map, here]
  rfl

/-- A STATE that a station can send is read as sent. -/
theorem decodeFrame_sent_state (st : Station) (f : StateFrame) (code : f.refreshCode ≤ 4) :
    decodeFrame (⟨st, .state f⟩ : Frame).bytes = some ⟨st, .state f⟩ := by
  have lead : (byteOf (f.refreshCode % 8 + 128 * flag f.first)).toNat = f.refreshCode + 128 * flag f.first := by
    have : flag f.first ≤ 1 := by cases f.first <;> simp [flag]
    rw [byteOf, BitVec.toNat_ofNat]
    omega
  have first : (byteOf (f.refreshCode % 8 + 128 * flag f.first)).getLsbD 7 = f.first := by
    rw [getLsbD_eq_div, lead]
    cases f.first
    · simp only [flag]; simp; omega
    · simp only [flag]; simp; omega
  have refresh : min 4 ((byteOf (f.refreshCode % 8 + 128 * flag f.first)).toNat % 8) = f.refreshCode := by
    rw [lead]; omega
  have conds : Tab.build (fun c : CondIx => condOfByte (((indices 8).map (fun c => condByte (f.conds.get c))).getD c.val 0)) =
      f.conds := by
    apply Tab.ext
    intro c
    rw [Tab.get_build, getD_map_indices, condOfByte_condByte]
  rw [Frame.bytes, state_body, stateBody, crcBytes, decodeFrame_state _ _ _ _ _ _ _ _ _ (by simp [indices]), conds, first, refresh,
    maskOfBytes_maskBytes, maskOfBytes_maskBytes, frameOrigin_byteOf]

/-- An ACKREQ that a station can send is read as sent. -/
theorem decodeFrame_sent_ackreq (st target : Station) (mask : BitVec 8) (pairs : Tab 8 AckPair)
    (unmasked : ∀ c : CondIx, mask.getLsbD c.val = false → pairs.get c = ⟨.alert, 0⟩) :
    decodeFrame (⟨st, .ackreq target mask pairs⟩ : Frame).bytes = some ⟨st, .ackreq target mask pairs⟩ := by
  have named : Fin.ofNat 32 (byteOf target.val).toNat = target := frameOrigin_byteOf target 0 []
  have zero : ackOfByte 0 = ⟨.alert, 0⟩ := rfl
  have entries : Tab.build (fun c : CondIx => ackOfByte (((indices 8).map
      (fun c => if mask.getLsbD c.val then ackByte (pairs.get c) else 0)).getD c.val 0)) = pairs := by
    apply Tab.ext
    intro c
    rw [Tab.get_build, getD_map_indices]
    split
    · exact ackOfByte_ackByte _
    · rename_i off
      rw [zero, unmasked c (by simpa using off)]
  rw [Frame.bytes, ackreq_body, ackreqBody, crcBytes, decodeFrame_ackreq _ _ _ _ _ _ (by simp [indices]), entries, named,
    frameOrigin_byteOf]

/-- A SILENCE is read as sent. -/
theorem decodeFrame_sent_silence (st : Station) (zones : BitVec 4) :
    decodeFrame (⟨st, .silence zones⟩ : Frame).bytes = some ⟨st, .silence zones⟩ := by
  have same : (zones.setWidth 8).setWidth 4 = zones := by
    apply BitVec.eq_of_getLsbD_eq
    intro i hi
    simp [hi]
  have read := decodeFrame_silence (byteOf st.val) 0 (zones.setWidth 8) ((crc16 (silenceBody st zones)).extractLsb' 8 8)
    ((crc16 (silenceBody st zones)).extractLsb' 0 8)
  rw [frameOrigin_byteOf, same] at read
  exact read

/-- What a station can send is read as sent (R97, R121, R196). -/
theorem decodeFrame_of_sendable {f : Frame} (sendable : f.sendable) : decodeFrame f.bytes = some f := by
  obtain ⟨st, p⟩ := f
  cases p with
  | state f => exact decodeFrame_sent_state st f sendable
  | ackreq target mask pairs => exact decodeFrame_sent_ackreq st target mask pairs sendable
  | silence zones => exact decodeFrame_sent_silence st zones

/-- The payload lengths of the three kinds (Table 13-3). -/
theorem length_payload (p : Payload) : p.bytes.length = match p with
    | .state _ => 13
    | .ackreq _ _ _ => 10
    | .silence _ => 1 := by
  cases p with
  | state f => simp [Payload.bytes, maskBytes, f.conds.size]
  | ackreq target mask pairs => simp [Payload.bytes, indices]
  | silence zones => rfl

/-- Every frame's bytes are valid on the line. -/
theorem validOnLine_bytes (f : Frame) : validOnLine f.bytes = true := by
  have length : f.body.length = 4 + f.payload.bytes.length := by
    simp only [Frame.body, List.length_cons]; omega
  have small : f.payload.bytes.length ≤ 13 := by
    rw [length_payload]
    cases f.payload <;> simp
  have named : (f.body.getD 3 0).toNat = f.payload.bytes.length := by
    change (byteOf f.payload.bytes.length).toNat = _
    rw [byteOf, BitVec.toNat_ofNat, Nat.mod_eq_of_lt (by omega)]
  rw [validOnLine_iff]
  exact ⟨f.body, by omega, by omega, by omega, rfl⟩

/-- The number of bytes of each kind of frame. -/
theorem length_frame (f : Frame) : f.bytes.length = match f.payload with
    | .state _ => 19
    | .ackreq _ _ _ => 16
    | .silence _ => 7 := by
  have length : f.bytes.length = 4 + f.payload.bytes.length + 2 := by
    simp only [Frame.bytes, Frame.body, crcBytes, List.length_append, List.length_cons, List.length_nil]; omega
  rw [length, length_payload]
  cases f.payload <;> rfl

/-! ### Content captured (R107, R112, R115) -/

/-- A STATE's content is the own row, the own next sequence and FIRST, and the image's refresh code. -/
theorem ownState_content (s : State) :
    (∀ p : PointIx, s.ownState.values.getLsbD p.val = (s.pointEntry s.own p).value ∧
      (s.ownState.faults.getLsbD p.val = true ↔ (s.pointEntry s.own p).quality = .fault)) ∧
    ∀ c, s.ownState.conds.get c = ⟨(s.ownCond c).state, (s.ownCond c).truth, (s.ownCond c).gen⟩ := by
  refine ⟨fun p => ⟨getLsbD_ofFn _ p, ?_⟩, fun c => by simp [State.ownState]⟩
  have bit : s.ownState.faults.getLsbD p.val = ((s.pointEntry s.own p).quality == .fault) := getLsbD_ofFn _ p
  rw [bit, beq_iff_eq]

/-- Settles O59: levels, check, layouts and content, each by its lemma. -/
theorem framesAreReadAsSent : Obligations.FramesAreReadAsSent := by
  refine ⟨fun bytes => ⟨readReception_driven bytes, length_driveLevels bytes⟩, ?_, ?_, ?_, ?_, ?_, ?_, rfl, ?_⟩
  · intro f sendable
    refine ⟨validOnLine_bytes f, ?_, decodeFrame_of_sendable sendable, length_frame f⟩
    exact frameOrigin_byteOf f.origin (byteOf f.payload.kindCode) _
  · intro bytes b
    refine ⟨rfl, ?_, rfl⟩
    rw [crc16_append, crcByte, crcSteps_eq_iterate]
  · exact fun bytes => ⟨validOnLine_iff bytes, rfl, rfl, rfl⟩
  · intro st target p mask pairs zones number sent
    refine ⟨fun code => ?_, ?_, ?_⟩
    · have lead : byteOf (p.refreshCode % 8 + 128 * flag p.first) = number (p.refreshCode + if p.first then 128 else 0) := by
        rw [Nat.mod_eq_of_lt (by omega)]
        cases p.first <;> rfl
      have entry : ∀ c, condByte (p.conds.get c) = number ((p.conds.get c).state.code +
          (if (p.conds.get c).truth then 8 else 0) + 16 * (p.conds.get c).gen.val) := by
        intro c
        rw [condByte]
        cases (p.conds.get c).truth <;> rfl
      simp only [sent, Frame.bytes, state_body, stateBody, lead, entry]
      rfl
    · have entry : ∀ c, (if mask.getLsbD c.val then ackByte (pairs.get c) else 0) = (if mask.getLsbD c.val
          then number ((pairs.get c).gen.val + if (pairs.get c).phase = .returned then 16 else 0) else 0) := by
        intro c
        rw [ackByte]
        cases (pairs.get c).phase <;> rfl
      simp only [sent, Frame.bytes, ackreq_body, ackreqBody, entry]
      rfl
    · simp only [sent, Frame.bytes, silence_body]
      rfl
  · intro origin seq p0 v0 v1 f0 f1 target mask zones x y entries size st
    have at_c : ∀ (c : CondIx) (b : Byte), entries[c.val]? = some b → entries.getD c.val 0 = b := by
      intro c b h
      rw [List.getD_eq_getElem?_getD, h]
      rfl
    refine ⟨⟨_, decodeFrame_state origin seq p0 v0 v1 f0 f1 x y size, rfl, rfl, rfl, ?_, ?_⟩,
      ⟨_, _, decodeFrame_ackreq origin seq target mask x y size, rfl, ?_⟩, ?_⟩
    · intro k small
      obtain ⟨valueLow, valueHigh⟩ := getLsbD_maskOfBytes v0 v1 small
      obtain ⟨faultLow, faultHigh⟩ := getLsbD_maskOfBytes f0 f1 small
      exact ⟨valueLow, valueHigh, faultLow, faultHigh⟩
    · intro c b h
      have byte := b.isLt
      simp only [Tab.get_build, at_c c b h, condOfByte]
      exact ⟨annStateOf_code _, trivial, Nat.mod_eq_of_lt (by omega)⟩
    · intro c b h
      simp only [Tab.get_build, at_c c b h, ackOfByte]
      refine ⟨rfl, ?_⟩
      cases b.getLsbD 4 <;> simp
    · have low : zones.setWidth 4 = zones.extractLsb' 0 4 := by
        apply BitVec.eq_of_getLsbD_eq
        intro i hi
        rw [BitVec.getLsbD_setWidth, BitVec.getLsbD_extractLsb', Nat.zero_add]
      rw [decodeFrame_silence, low]
  · exact fun bytes other => decodeFrame_none other
  · intro s
    obtain ⟨points, conds⟩ := ownState_content s
    exact ⟨fun _ _ => ⟨s.ownState, rfl, rfl, rfl, rfl, points, conds⟩,
      fun i r held => by simp only [State.payloadOf, held], fun _ => rfl⟩
end Machine
end Sys2Proof
end

section
namespace Sys2Proof
namespace Machine

/-! ### Hold and release timers (R48, R52) -/

/-- The running fields of a condition that a timer's expiry has moved: TRUE or FALSE, and no timer runs (Table 3-7). -/
def CondRun.settled (truth : Bool) : CondRun := ⟨if truth then .isTrue else .isFalse, truth, none, none⟩

/-- What a hold (rising) or release (falling) timer's expiry does before its event ends. -/
def State.expireTruth (c : CondIx) (due : Ms) (rising : Bool) (s : State) : State :=
  ((s.reachTime due).setRun c (.settled rising)).truthEdge c rising

/-- No release timer runs in QUALIFYING (R49), so a hold timer's expiry leaves none. -/
theorem holdExpiry_eq {s : State} {c : CondIx} {due : Ms} (law : s.ConditionLaw)
    (eval : (s.cond.run.get c).eval = .qualifying) (timer : (s.cond.run.get c).hold = some due) :
    s.holdExpiry c = (s.expireTruth c due true).settle := by
  have raw : (s.cond.run.get c).raw = true := by rw [law.raw, eval]; rfl
  have release : (s.cond.run.get c).release = none := by simpa [eval] using law.release c
  simp [State.holdExpiry, State.expireTruth, CondRun.settled, eval, timer, raw, release]

/-- No hold timer runs in RELEASING (R49), so a release timer's expiry leaves none. -/
theorem releaseExpiry_eq {s : State} {c : CondIx} {due : Ms} (law : s.ConditionLaw)
    (eval : (s.cond.run.get c).eval = .releasing) (timer : (s.cond.run.get c).release = some due) :
    s.releaseExpiry c = (s.expireTruth c due false).settle := by
  have raw : (s.cond.run.get c).raw = false := by rw [law.raw, eval]; rfl
  have hold : (s.cond.run.get c).hold = none := by simpa [eval] using law.hold c
  simp [State.releaseExpiry, State.expireTruth, CondRun.settled, eval, timer, raw, hold]

/-- Everything an expiry that turns the truth does, up to the end of its event (R48, R52). -/
theorem expireTruth_effect {s : State} {c : CondIx} (due : Ms) {rising : Bool}
    (turns : rising ≠ (s.ownCond c).truth) :
    let u := s.expireTruth c due rising
    u.clock = (s.reachTime due).clock ∧
      u.cond.run = s.cond.run.set c (.settled rising) ∧
      (∀ st k, u.condEntry st k = if st = s.own ∧ k = c then { s.condEntry st k with truth := rising }
        else s.condEntry st k) ∧
      u.cond.notices = s.cond.notices ++ [.cond s.own c (s.ownCond c) (u.ownCond c)] ∧
      u.ann.edges = s.ann.edges ++ [⟨c, rising⟩] ∧
      u.frame = { s.frame with queue := if s.life.life.queues then urgentRequest s.frame.queue else s.frame.queue } ∧
      s.changesOnly [.clock, .out, .pic, .cond, .ann, .frame] u ∧ u.out = (s.reachTime due).out := by
  intro u
  obtain ⟨m, hm⟩ : ∃ m, m = (s.reachTime due).setRun c (.settled rising) := ⟨_, rfl⟩
  have hu : u = m.truthEdge c rising := by rw [hm]; rfl
  have mOwn : m.own = s.own := by simp [hm, State.own]
  have mEntry : m.condEntry = s.condEntry := by funext x k; simp [hm, State.condEntry]
  have mOwnCond : m.ownCond c = s.ownCond c := by rw [State.ownCond, mOwn, mEntry]; rfl
  obtain ⟨entry, notices, run, edges, -, frame, only⟩ := truthEdge_effect m c rising
  rw [← hu, mOwn, mOwnCond, mEntry] at entry
  rw [← hu, mOwn, mOwnCond, if_neg turns] at notices
  rw [← hu] at run edges frame only
  have uOwn : u.own = s.own := by simp [hu, hm, State.own]
  have after : u.ownCond c = { s.ownCond c with truth := rising } := by
    rw [State.ownCond, uOwn, entry, if_pos ⟨rfl, rfl⟩]
  refine ⟨by simp [hu, hm], by simp [run, hm, State.setRun], fun st k => ?_, by simp [notices, after, hm],
    by simp [edges, hm], by simp [frame, hm], ?_, by simp [hu, hm]⟩
  · rw [entry]
    split
    · next own => rw [own.1, own.2]; rfl
    · rfl
  · have before : s.changesOnly [.clock, .out, .cond] m := by
      intro b hb
      cases b <;> simp at hb <;> simp [Block.same, hm]
    exact State.changesOnly_trans (State.changesOnly_mono before (by decide)) (State.changesOnly_mono only (by decide))

/-- Settles O23: the condition law says that the truth before the expiry is the other one, so that its write makes a
notice. -/
theorem holdAndReleaseExpiryMoveTruth : Obligations.HoldAndReleaseExpiryMoveTruth := by
  intro c due rising s held law hold release
  have expires : exec (if rising then .holdExpiry c else .releaseExpiry c) s =
      .next (s.expireTruth c due rising).settle := by
    cases rising with
    | true =>
      obtain ⟨eval, timer⟩ := hold rfl
      rw [if_pos rfl, exec_running _ held, effectRunning, holdExpiry_eq law eval timer]
    | false =>
      obtain ⟨eval, timer⟩ := release rfl
      rw [if_neg Bool.false_ne_true, exec_running _ held, effectRunning, releaseExpiry_eq law eval timer]
  have turns : rising ≠ (s.ownCond c).truth := by
    rw [law.truth]
    cases rising with
    | true => rw [(hold rfl).1]; decide
    | false => rw [(release rfl).1]; decide
  obtain ⟨clock, run, entry, notices, edges, frame, only, out⟩ := expireTruth_effect due turns
  exact ⟨s.expireTruth c due rising, expires, clock, run, entry, by simp [State.expireTruth],
    by simp [State.expireTruth], notices, edges, by simp [State.expireTruth], by simp [State.expireTruth],
    by simp [State.expireTruth], frame, only, out⟩

end Machine
end Sys2Proof
end

section
namespace Sys2Proof
namespace Machine

/-! ### One condition as the laws see it (R37, R49, R51, R60, R66, R75) -/

/-- What the laws of the conditions and of their annunciation read of one own condition. -/
structure CondView where
  setting : CondSetting
  run : CondRun
  entry : CondEntry
  seqTruth : Bool
  edges : List Bool

/-- An own condition of a station, as the laws see it. -/
def State.condView (s : State) (c : CondIx) : CondView :=
  ⟨s.settings.conds.get c, s.cond.run.get c, s.ownCond c, s.ann.seqTruth.get c, s.edgesOf c⟩

/-- What `State.ConditionLaw` and `State.AnnunciationLaw` say of one condition. -/
structure CondView.Law (v : CondView) (running : Bool) : Prop where
  raw : v.run.raw = v.run.eval.raw
  hold : v.run.hold.isSome = true ↔ v.run.eval = .qualifying
  release : v.run.release.isSome = true ↔ v.run.eval = .releasing
  truth : v.entry.truth = v.run.eval.truth
  still : v.setting.enabled = false → v.run.eval = .isFalse
  edges : followEdges v.seqTruth v.edges = some v.entry.truth
  allowed : v.setting.enabled = true → annAllowed v.setting.annClass v.entry.state v.seqTruth = true
  unused : running = true → v.setting.enabled = false →
    v.entry.state = .unused ∧ v.entry.gen = 0 ∧ v.seqTruth = false ∧ v.edges = []

/-- The laws of every own condition. -/
def State.CondLaws (s : State) : Prop := ∀ c, (s.condView c).Law s.life.life.running

/-- The laws of the conditions and their annunciation are those of every condition. -/
theorem condLaws_iff (s : State) : s.CondLaws ↔ s.ConditionLaw ∧ s.AnnunciationLaw :=
  ⟨fun law => ⟨⟨fun c => (law c).raw, fun c => (law c).hold, fun c => (law c).release, fun c => (law c).truth,
      fun c => (law c).still⟩, ⟨fun c => (law c).edges, fun c => (law c).allowed, fun r c => (law c).unused r⟩⟩,
    fun ⟨cond, ann⟩ c => ⟨cond.raw c, cond.hold c, cond.release c, cond.truth c, cond.unused c, ann.edges c,
      ann.allowed c, fun r => ann.unused r c⟩⟩

/-- The laws of the conditions go over to a state that shows them alike. -/
theorem State.CondLaws.of_view {s t : State} (law : s.CondLaws)
    (running : t.life.life.running = true → s.life.life.running = true) (view : t.condView = s.condView) :
    t.CondLaws := fun c => by
  rw [view]
  exact { law c with unused := fun r => (law c).unused (running r) }

/-- The laws see the settings, the running fields, the own row, the sequence truths and the edges that wait. -/
theorem condView_congr {s t : State} (settings : t.settings = s.settings) (run : t.cond.run = s.cond.run)
    (entry : t.ownCond = s.ownCond) (seqTruth : t.ann.seqTruth = s.ann.seqTruth) (edges : t.ann.edges = s.ann.edges) :
    t.condView = s.condView := by
  funext c
  simp only [State.condView, State.edgesOf, settings, run, entry, seqTruth, edges]

/-- What an event that touches no own condition leaves as it was. -/
@[simp] def State.SameConditions (s t : State) : Prop :=
  t.settings = s.settings ∧ t.life.stn = s.life.stn ∧ t.pic.conds = s.pic.conds ∧ t.cond.run = s.cond.run ∧
    t.ann.seqTruth = s.ann.seqTruth ∧ t.ann.edges = s.ann.edges

/-- The laws of the conditions go over to a state with the same conditions. -/
theorem State.CondLaws.of_same {s t : State} (law : s.CondLaws)
    (running : t.life.life.running = true → s.life.life.running = true) (same : s.SameConditions t) : t.CondLaws := by
  obtain ⟨settings, stn, conds, run, seqTruth, edges⟩ := same
  have entry : t.ownCond = s.ownCond := by
    funext c
    simp only [State.ownCond, State.condEntry, State.own, stn, conds]
  exact law.of_view running (condView_congr settings run entry seqTruth edges)

/-- Before acceptance the conditions stand as reset leaves them (R54, R74). -/
theorem condLaws_of_reset {s : State} (settings : s.settings = .empty) (pic : s.pic = .reset) (cond : s.cond = .reset)
    (ann : s.ann = .reset) (idle : s.life.life.running = false) : s.CondLaws := by
  intro c
  constructor <;> simp [State.condView, State.edgesOf, State.ownCond, State.condEntry, settings, pic, cond, ann, idle,
    Settings.empty, Picture.reset, CondUnit.reset, AnnUnit.reset, EvalState.raw, EvalState.truth, followEdges]

/-! ### The moves the laws allow -/

/-- A matching acknowledgement leads from a state its class allows to another (Table 4-5). -/
theorem annAllowed_of_ack {k : AnnClass} {a new : AnnState} {truth : Bool} (moves : nextByAck k a truth = some new)
    (allowed : annAllowed k a truth = true) : annAllowed k new truth = true := by
  cases k <;> cases a <;> cases truth <;> simp_all [nextByAck, annAllowed] <;> subst moves <;> rfl

/-- An edge leads from a state its class allows with the level before it to one allowed with its own (Table 4-5). -/
theorem annAllowed_of_edge {k : AnnClass} {a : AnnState} {level : Bool} (allowed : annAllowed k a level = true) :
    annAllowed k ((nextByEdge k a !level).getD a) (!level) = true := by
  cases k <;> cases a <;> cases level <;> simp_all [nextByEdge, annAllowed]

/-- An edge that joins those that wait. -/
theorem followEdges_append (level e : Bool) (l : List Bool) :
    followEdges level (l ++ [e]) = (followEdges level l).bind (fun last => if e = last then none else some e) := by
  induction l generalizing level with
  | nil => rfl
  | cons x l ih =>
    simp only [List.cons_append, followEdges]
    split
    · rfl
    · exact ih x

/-- A condition whose state has moved by an acknowledgement. -/
def CondView.answered (v : CondView) (new : AnnState) : CondView := { v with entry := { v.entry with state := new } }

/-- An acknowledgement keeps the laws: its class table leads to an allowed state, and from UNUSED nowhere. -/
theorem CondView.Law.answered {v : CondView} {running : Bool} (law : v.Law running) {new : AnnState}
    (moves : nextByAck v.setting.annClass v.entry.state v.seqTruth = some new) : (v.answered new).Law running :=
  { law with
    allowed := fun on => annAllowed_of_ack moves (law.allowed on)
    unused := fun r off => by
      rw [(law.unused r off).1] at moves
      cases h : v.setting.annClass <;> simp [h, nextByAck] at moves }

/-- A condition whose oldest edge has been taken. -/
def CondView.edged (v : CondView) (rising : Bool) (rest : List Bool) : CondView :=
  { v with
    entry := match nextByEdge v.setting.annClass v.entry.state rising with
      | none => v.entry
      | some new => { v.entry with state := new, gen := genAfter new v.entry.gen }
    seqTruth := rising
    edges := rest }

/-- Taking the oldest edge keeps the laws: it differs from the sequence truth, and no edge waits for an unused
condition. -/
theorem CondView.Law.edged {v : CondView} {running : Bool} (law : v.Law running) {rising : Bool} {rest : List Bool}
    (oldest : v.edges = rising :: rest) : (v.edged rising rest).Law running := by
  have follows := law.edges
  rw [oldest, followEdges] at follows
  have turns : rising = !v.seqTruth := by
    by_contra same
    rw [if_pos (by simpa using same)] at follows
    cases follows
  rw [if_neg (by simp [turns])] at follows
  have truth : (v.edged rising rest).entry.truth = v.entry.truth := by
    simp only [CondView.edged]
    split <;> rfl
  have state : (v.edged rising rest).entry.state =
      (nextByEdge v.setting.annClass v.entry.state rising).getD v.entry.state := by
    simp only [CondView.edged]
    split <;> rename_i moves <;> rw [moves] <;> rfl
  exact { law with
    truth := truth.trans law.truth
    edges := by rw [truth]; exact follows
    allowed := fun on => by
      rw [state]
      subst turns
      exact annAllowed_of_edge (law.allowed on)
    unused := fun r off => by
      have none := (law.unused r off).2.2.2
      rw [oldest] at none
      cases none }

/-- A condition with other running fields, its truth following them and an edge handed where it changes (R51, R52). -/
def CondView.rerun (v : CondView) (run : CondRun) : CondView :=
  { v with
    run := run
    entry := { v.entry with truth := run.eval.truth }
    edges := v.edges ++ if run.eval.truth = v.entry.truth then [] else [run.eval.truth] }

/-- Running fields that follow their evaluation state keep the laws, where an unused condition's stay as they are. -/
theorem CondView.Law.rerun {v : CondView} {running : Bool} (law : v.Law running) {run : CondRun}
    (raw : run.raw = run.eval.raw) (hold : run.hold.isSome = true ↔ run.eval = .qualifying)
    (release : run.release.isSome = true ↔ run.eval = .releasing)
    (still : v.setting.enabled = false → run = v.run) : (v.rerun run).Law running where
  raw := raw
  hold := hold
  release := release
  truth := rfl
  still off := by rw [CondView.rerun, still off]; exact law.still off
  edges := by
    simp only [CondView.rerun]
    split
    · rename_i same
      rw [List.append_nil, law.edges, same]
    · rename_i turns
      rw [followEdges_append, law.edges]
      exact if_neg turns
  allowed := law.allowed
  unused r off := by
    obtain ⟨state, gen, seqTruth, edges⟩ := law.unused r off
    have same : run.eval.truth = v.entry.truth := by rw [still off, law.truth]
    exact ⟨state, gen, seqTruth, by simp only [CondView.rerun, if_pos same, edges, List.append_nil]⟩

/-! ### Acknowledgements and presses -/

/-- An acknowledgement moves its condition by its class table, or leaves the entry (R61). -/
theorem acknowledged_cases (s : State) (c : CondIx) (a : AckPair) : s.acknowledged c a = s.ownCond c ∨
    ∃ new, nextByAck (s.classOfCond c) (s.ownCond c).state (s.ann.seqTruth.get c) = some new ∧
      s.acknowledged c a = { s.ownCond c with state := new } := by
  rw [acknowledged_eq]
  split
  · cases h : nextByAck (s.classOfCond c) (s.ownCond c).state (s.ann.seqTruth.get c) with
    | none => exact .inl rfl
    | some new => exact .inr ⟨new, rfl, rfl⟩
  · exact .inl rfl

/-- What an acknowledgement makes of the conditions. -/
theorem applyAck_condView (s : State) (c : CondIx) (a : AckPair) (k : CondIx) : (s.applyAck c a).condView k =
    if k = c then { s.condView c with entry := s.acknowledged c a } else s.condView k := by
  have own : (s.applyAck c a).own = s.own := by simp [State.own]
  have entry : (s.applyAck c a).ownCond k = if k = c then s.acknowledged c a else s.ownCond k := by
    rw [State.ownCond, own, applyAck_condEntry]
    simp only [true_and, State.ownCond]
  simp only [State.condView, State.edgesOf, entry, State.applyAck_keeps]
  split
  · rename_i h; rw [h]
  · rfl

/-- An acknowledgement keeps the laws of the conditions. -/
theorem applyAck_condLaws {s : State} (law : s.CondLaws) (c : CondIx) (a : AckPair) : (s.applyAck c a).CondLaws := by
  have life : (s.applyAck c a).life = s.life := by simp
  intro k
  rw [applyAck_condView, life]
  split
  · rcases acknowledged_cases s c a with same | ⟨new, moves, moved⟩
    · rw [same]; exact law c
    · rw [moved]; exact (law c).answered moves
  · exact law k

/-- A press keeps the laws of the conditions. -/
theorem ackPress_condLaws {s : State} (law : s.CondLaws) : s.ackPress.CondLaws := by
  unfold State.ackPress
  dsimp only
  refine List.foldlRecOn (motive := State.CondLaws) _ _ (List.foldlRecOn (motive := State.CondLaws) _ _ law ?_) ?_
  · intro t lawT c _
    split
    · exact applyAck_condLaws lawT c _
    · exact lawT
  · intro t lawT st _
    split
    · exact lawT
    · exact lawT.of_same (by simp) (by simp)

/-- An ACKREQ keeps the laws of the conditions. -/
theorem takeAckreq_condLaws {s : State} (law : s.CondLaws) (target : Station) (mask : BitVec 8)
    (pairs : Tab 8 AckPair) : (s.takeAckreq target mask pairs).CondLaws := by
  rw [takeAckreq_eq]
  split
  · have answered : (s.ackMasked mask pairs (indices 8)).CondLaws := by
      refine List.foldlRecOn (motive := State.CondLaws) _ _ law ?_
      intro t lawT c _
      split
      · exact applyAck_condLaws lawT c _
      · exact lawT
    exact answered.of_same (by simp) (by simp)
  · exact law

/-! ### Truth edges -/

/-- The oldest edge of a condition taken out leaves its later ones, and those of every other condition. -/
theorem edgesOf_dropEdge {s : State} {c : CondIx} {e : Edge}
    (found : s.ann.edges.find? (fun x => x.cond == c) = some e) :
    s.edgesOf c = e.rising :: ((dropEdge c s.ann.edges).filter (fun x => x.cond == c)).map Edge.rising ∧
    ∀ k, k ≠ c → ((dropEdge c s.ann.edges).filter (fun x => x.cond == k)).map Edge.rising = s.edgesOf k := by
  obtain ⟨before, after, split, others, dropped, cond⟩ := dropEdge_split c _ e found
  have none : before.filter (fun x => x.cond == c) = [] := by
    rw [List.filter_eq_nil_iff]
    exact fun x hx => by simpa using others x hx
  rw [dropped]
  refine ⟨?_, fun k other => ?_⟩
  · simp [State.edgesOf, split, none, cond]
  · simp [State.edgesOf, split, cond, Ne.symm other]

/-- What an edge taken makes of the conditions. -/
theorem takeEdge_condView {s : State} {c : CondIx} {e : Edge}
    (found : s.ann.edges.find? (fun x => x.cond == c) = some e) (k : CondIx) : (s.takeEdge c).condView k =
    if k = c then (s.condView c).edged e.rising
      (((dropEdge c s.ann.edges).filter (fun x => x.cond == c)).map Edge.rising) else s.condView k := by
  obtain ⟨t, taken, only, ann⟩ := takeEdge_eq s c e found
  have settings : t.settings = s.settings := only .settings (by simp)
  have own : t.own = s.own := congrArg LifeControl.stn (only .life (by simp))
  have cond : t.cond = s.cond := only .cond (by simp)
  have entries : t.condEntry = s.condEntry := by
    funext x y
    simp only [State.condEntry, show t.pic = s.pic from only .pic (by simp)]
  have tOwnCond : t.ownCond = s.ownCond := by funext y; rw [State.ownCond, own, entries]; rfl
  have ownAfter : (s.takeEdge c).own = s.own := by simp [State.own]
  have entry : (s.takeEdge c).ownCond k = if k = c then
      (match nextByEdge (s.classOfCond c) (s.ownCond c).state e.rising with
        | none => s.ownCond c
        | some new => { s.ownCond c with state := new, gen := genAfter new (s.ownCond c).gen })
      else s.ownCond k := by
    rw [State.ownCond, ownAfter, taken]
    cases nextByEdge (s.classOfCond c) (s.ownCond c).state e.rising with
    | none =>
      simp only [entries]
      split
      · rename_i h; rw [h]; rfl
      · rfl
    | some new =>
      simp only [(annChange_effect t c new).1, own, entries, tOwnCond, true_and]
      rfl
  have annAfter : (s.takeEdge c).ann.seqTruth = s.ann.seqTruth.set c e.rising ∧
      (s.takeEdge c).ann.edges = dropEdge c s.ann.edges := by
    rw [taken]
    split <;> simp [ann]
  obtain ⟨-, others⟩ := edgesOf_dropEdge found
  simp only [State.condView, entry, State.edgesOf, annAfter, State.takeEdge_keeps, Tab.get_set]
  by_cases hk : k = c
  · subst hk
    simp only [if_true]
    rfl
  · rw [if_neg hk, if_neg hk, if_neg (Ne.symm hk), others k hk]
    rfl

/-- Taking an edge keeps the laws of the conditions. -/
theorem takeEdge_condLaws {s : State} (law : s.CondLaws) (c : CondIx) : (s.takeEdge c).CondLaws := by
  cases found : s.ann.edges.find? (fun x => x.cond == c) with
  | none =>
    have same : s.takeEdge c = s := by simp only [State.takeEdge, found]
    rwa [same]
  | some e =>
    have life : (s.takeEdge c).life = s.life := by simp
    intro k
    rw [takeEdge_condView found, life]
    split
    · exact (law c).edged (edgesOf_dropEdge found).1
    · exact law k

/-! ### Evaluations and timers -/

/-- The laws of a condition hold of its running fields. -/
theorem State.CondLaws.runLaw {s : State} (law : s.CondLaws) (c : CondIx) : s.RunLaw c :=
  ⟨(law c).raw, (law c).hold, (law c).release, (law c).truth⟩

/-- Table 3-7 leads to running fields that follow their evaluation state (R49). -/
theorem nextRun_follows {s : State} {c : CondIx} (law : s.RunLaw c) :
    (s.nextRun c).raw = (s.nextRun c).eval.raw ∧
    ((s.nextRun c).hold.isSome = true ↔ (s.nextRun c).eval = .qualifying) ∧
    ((s.nextRun c).release.isSome = true ↔ (s.nextRun c).eval = .releasing) := by
  simp only [State.nextRun]
  split
  · cases (s.cond.run.get c).eval
    case isFalse => dsimp only; split <;> simp [EvalState.raw]
    case isTrue => dsimp only; split <;> simp [EvalState.raw]
    all_goals simp [EvalState.raw]
  · exact ⟨law.raw, law.hold, law.release⟩

/-- A condition whose running fields are set and whose edge, where its truth turns, is handed. -/
theorem condView_of_rerun {s t : State} {c : CondIx} {run : CondRun} (settings : t.settings = s.settings)
    (runs : ∀ k, t.cond.run.get k = if k = c then run else s.cond.run.get k)
    (entry : ∀ k, t.ownCond k = if k = c then { s.ownCond c with truth := run.eval.truth } else s.ownCond k)
    (seqTruth : t.ann.seqTruth = s.ann.seqTruth)
    (edges : t.ann.edges = s.ann.edges ++
      if run.eval.truth = (s.ownCond c).truth then [] else [⟨c, run.eval.truth⟩]) (k : CondIx) :
    t.condView k = if k = c then (s.condView c).rerun run else s.condView k := by
  simp only [State.condView, CondView.rerun, State.edgesOf, settings, runs, entry, seqTruth, edges, List.filter_append,
    List.map_append]
  by_cases hk : k = c
  · subst hk
    by_cases turns : run.eval.truth = (s.ownCond k).truth <;> simp [turns]
  · simp only [if_neg hk]
    split <;> simp [Ne.symm hk]

/-- An evaluation keeps the laws of the conditions. -/
theorem evaluate_condLaws {s : State} (law : s.CondLaws) (c : CondIx) : (s.evaluate c).CondLaws := by
  obtain ⟨run, entry, ann, -⟩ := evaluate_effect (law.runLaw c)
  obtain ⟨raw, hold, release⟩ := nextRun_follows (law.runLaw c)
  have own : (s.evaluate c).own = s.own := by simp [State.own]
  have ownEntry : ∀ k, (s.evaluate c).ownCond k =
      if k = c then { s.ownCond c with truth := (s.nextRun c).eval.truth } else s.ownCond k := fun k => by
    simpa [State.ownCond, State.nextTruth, own] using entry s.own k
  have life : (s.evaluate c).life = s.life := by simp
  intro k
  rw [condView_of_rerun (by simp) run ownEntry (by simp) (by rw [ann]; rfl), life]
  split
  · refine (law c).rerun raw hold release (fun off => ?_)
    simp only [State.nextRun]
    exact if_neg (fun moves => by simp [moves.1, State.condView] at off)
  · exact law k

/-- Evaluations one after the other keep the laws of the conditions. -/
theorem evaluateEach_condLaws {s : State} (law : s.CondLaws) (l : List CondIx) : (s.evaluateEach l).CondLaws :=
  List.foldlRecOn (motive := State.CondLaws) _ _ law (fun _ lawT c _ => evaluate_condLaws lawT c)

/-- EVALUATION keeps the laws of the conditions. -/
theorem evaluation_condLaws {s : State} (law : s.CondLaws) : s.evaluation.CondLaws := by
  simp only [State.evaluation]
  split
  · exact law
  · rename_i n rest _
    have taken : (s.onCond (fun u => { u with notices := rest })).CondLaws := law
    have evaluated := evaluateEach_condLaws taken (s.settings.readers n.item)
    rw [evaluateItem_eq]
    exact evaluated.of_same (by simp) (by simp)

/-- A timer's expiry that turns the truth of an enabled condition keeps the laws of the conditions. -/
theorem expireTruth_condLaws {s : State} (law : s.CondLaws) {c : CondIx} (due : Ms) {rising : Bool}
    (turns : rising ≠ (s.ownCond c).truth) (on : (s.settings.conds.get c).enabled = true) :
    (s.expireTruth c due rising).CondLaws := by
  obtain ⟨-, run, entry, -, edges, -, only, -⟩ := expireTruth_effect due turns
  have life : (s.expireTruth c due rising).life = s.life := only .life (by simp)
  have own : (s.expireTruth c due rising).own = s.own := congrArg LifeControl.stn life
  have truth : (CondRun.settled rising).eval.truth = rising := by cases rising <;> rfl
  intro k
  rw [condView_of_rerun (c := c) (run := .settled rising) (only .settings (by simp))
    (fun k => by rw [run, Tab.get_set]; simp only [eq_comm (a := c)])
    (fun k => ?_) (by simp [State.expireTruth]) (by rw [edges, truth, if_neg turns]), life]
  · split
    · refine (law c).rerun ?_ ?_ ?_ (fun off => absurd on (by simpa [State.condView] using off)) <;>
        cases rising <;> simp [CondRun.settled, EvalState.raw]
    · exact law k
  · rw [State.ownCond, own, entry, truth]
    simp only [true_and]
    split
    · rename_i h; rw [h]; rfl
    · rfl

/-- HOLD_EXPIRY keeps the laws of the conditions. -/
theorem holdExpiry_condLaws {s : State} (law : s.CondLaws) (c : CondIx) : (s.holdExpiry c).CondLaws := by
  have condition := ((condLaws_iff s).1 law).1
  by_cases runs : ∃ due, (s.cond.run.get c).eval = .qualifying ∧ (s.cond.run.get c).hold = some due
  · obtain ⟨due, eval, timer⟩ := runs
    rw [holdExpiry_eq condition eval timer]
    have expired := expireTruth_condLaws law due (c := c) (rising := true)
      (by rw [condition.truth, eval]; decide)
      (by by_contra off; simpa [eval] using condition.unused c (by simpa using off))
    exact expired.of_same (by simp) (by simp)
  · have same : s.holdExpiry c = s := by
      simp only [State.holdExpiry]
      split
      · rename_i due eval timer
        exact absurd ⟨due, eval, timer⟩ runs
      · rfl
    rwa [same]

/-- RELEASE_EXPIRY keeps the laws of the conditions. -/
theorem releaseExpiry_condLaws {s : State} (law : s.CondLaws) (c : CondIx) : (s.releaseExpiry c).CondLaws := by
  have condition := ((condLaws_iff s).1 law).1
  by_cases runs : ∃ due, (s.cond.run.get c).eval = .releasing ∧ (s.cond.run.get c).release = some due
  · obtain ⟨due, eval, timer⟩ := runs
    rw [releaseExpiry_eq condition eval timer]
    have expired := expireTruth_condLaws law due (c := c) (rising := false)
      (by rw [condition.truth, eval]; decide)
      (by by_contra off; simpa [eval] using condition.unused c (by simpa using off))
    exact expired.of_same (by simp) (by simp)
  · have same : s.releaseExpiry c = s := by
      simp only [State.releaseExpiry]
      split
      · rename_i due eval timer
        exact absurd ⟨due, eval, timer⟩ runs
      · rfl
    rwa [same]

/-! ### Supervisor commands and writes -/

/-- A press of ACK, and every other change of a control input, keeps the laws of the conditions. -/
theorem controlExpiry_condLaws {s : State} (law : s.CondLaws) (i : Control) : (s.controlExpiry i).CondLaws := by
  simp only [State.controlExpiry]
  split
  · rename_i level due _ _
    obtain ⟨m, hm⟩ : ∃ m, m = (s.reachTime due).setControl i (s.input.control i).expire := ⟨_, rfl⟩
    have lawM : m.CondLaws := by
      rw [hm]
      exact law.of_same (by simp) (by simp)
    have changed : (m.controlChange i level).CondLaws := by
      simp only [State.controlChange]
      cases i with
      | ack =>
        dsimp only
        split
        · exact ackPress_condLaws lawM
        · exact lawM
      | silence =>
        dsimp only
        split
        · exact lawM.of_same (by simp) (by simp)
        · exact lawM
      | test => exact lawM
    rw [← hm]
    exact changed.of_same (by simp) (by simp)
  · exact law

/-- ACK_ONE keeps the laws of the conditions: it acknowledges one own condition, or asks a peer. -/
theorem ackOneChecks_condLaws {s : State} (law : s.CondLaws) (a0 a1 : Byte) : (s.ackOneChecks a0 a1).CondLaws := by
  have settled : ∀ {t : State} (r : Result), t.CondLaws → (t.result r).settle.CondLaws :=
    fun r lawT => lawT.of_same (by simp) (by simp)
  have asked : ∀ st mask pairs, (s.handRequest st mask pairs).CondLaws :=
    fun st mask pairs => law.of_same (by simp) (by simp)
  simp only [State.ackOneChecks]
  (repeat' split)
  case isTrue.isTrue.isTrue.isFalse.isTrue => exact settled _ (applyAck_condLaws law _ _)
  all_goals first
    | exact law
    | exact settled _ (asked _ _ _)

/-- A command of the supervisor keeps the laws of the conditions. -/
theorem runCommand_condLaws {s : State} (law : s.CondLaws) (c : Command) : (s.runCommand c).CondLaws := by
  cases c
  case ackAll =>
    simp only [State.runCommand]
    exact (ackPress_condLaws law).of_same (by simp) (by simp)
  case ackOne => exact ackOneChecks_condLaws law _ _
  all_goals
    simp only [State.runCommand]
    exact law.of_same (by simp) (by simp)

/-- A command settled keeps the laws of the conditions. -/
theorem settleCommand_condLaws {s : State} (law : s.CondLaws) (code : Byte) : (s.settleCommand code).CondLaws := by
  simp only [State.settleCommand]
  split
  · exact law
  · split
    · exact law
    · (repeat' split)
      · exact law
      · exact law
      · exact runCommand_condLaws law _

/-- A byte written keeps the laws of the conditions. -/
theorem writeByte_condLaws {s : State} (law : s.CondLaws) (b : Byte) : (s.writeByte b).CondLaws := by
  have written : ∀ off, (s.writeRegister off b).CondLaws := fun off => by
    simp only [State.writeRegister]
    (repeat' split)
    · exact law
    · exact law
    · exact settleCommand_condLaws (s := s.onPort _) law b
    · exact law
    · exact law
  exact written _

/-- A write transaction keeps the laws of the conditions. -/
theorem writeTransaction_condLaws {s : State} (law : s.CondLaws) (address : BitVec 7) (data : List Byte) :
    (s.writeTransaction address data).CondLaws := by
  simp only [State.writeTransaction]
  split
  · simp only [State.writeData]
    split
    · exact List.foldlRecOn (motive := State.CondLaws) _ _ law (fun _ lawT b _ => writeByte_condLaws lawT b)
    · exact law
    · exact law
  · exact law

/-! ### Frames, absence and acceptance -/

/-- A frame received keeps the laws of the conditions: a STATE writes its origin's row alone, and an ACKREQ
acknowledges. -/
theorem receiveFrame_condLaws {s : State} (law : s.CondLaws) (bytes : List Byte) : (s.receiveFrame bytes).CondLaws := by
  rcases receiveFrame_cases s bytes with ⟨pic, stn, running⟩ | ⟨st, p, -, other, taken⟩
  · exact law.of_same running ⟨by simp, stn, by rw [pic], by simp, by simp, by simp⟩
  · rw [taken]
    have heard : (s.heard st).CondLaws := law.of_same (by simp) (by simp)
    cases p with
    | state f =>
      refine law.of_view (by simp) (condView_congr (by simp) (by simp) ?_ (by simp) (by simp))
      funext c
      have own : (s.takeState st f).own = s.own := by simp [State.own]
      rw [State.ownCond, own, (takeState_ownRow f other).2]
    | ackreq target mask pairs => exact takeAckreq_condLaws heard target mask pairs
    | silence zones =>
      exact heard.of_same (by simp) (by simp)

/-- FRAME_END keeps the laws of the conditions. -/
theorem frameEnd_condLaws {s : State} (law : s.CondLaws) (levels : List Level) : (s.frameEnd levels).CondLaws := by
  rcases frameEnd_cases s levels with same | ⟨bytes, -, -, taken⟩
  · rwa [same]
  · rw [taken]
    have atEnd : (s.atFrameEnd bytes).CondLaws := law.of_same (by simp) (by simp)
    exact receiveFrame_condLaws atEnd bytes

/-- A PRESENT station is a peer (R2). -/
theorem ne_own_of_present {s : State} (picture : s.PictureLaw) (idle : s.IdleLaw) {st : Station}
    (present : (s.pic.roster.get st).presence = .present) : st ≠ s.own := by
  have running : s.life.life.running = true := by
    by_contra idling
    simp [idle.picture (by simpa using idling), Picture.reset] at present
  intro own
  have self := (picture.self running st).2 own
  rw [present] at self
  cases self

/-- A peer's absence leaves the own row, and so the laws of the conditions (R16). -/
theorem absenceExpiry_condLaws {s : State} (law : s.CondLaws) (picture : s.PictureLaw) (idle : s.IdleLaw)
    (st : Station) : (s.absenceExpiry st).CondLaws := by
  refine law.of_view (by simp) (condView_congr (by simp) (by simp) ?_ (by simp) (by simp))
  have own : (s.absenceExpiry st).own = s.own := by simp [State.own]
  funext c
  rw [State.ownCond, own]
  simp only [State.absenceExpiry]
  split
  · rename_i due present _
    have pic : ((s.reachTime due).becomeAbsent st).settle.pic = s.pic.absent st := by
      rw [State.becomeAbsent_eq]
      simpa using (rowAbsent_effect st (s.reachTime due)).1
    rw [State.condEntry, pic, (Picture.absent_entries st s.pic).2, if_neg (ne_own_of_present picture idle present).symm]
    rfl
  · rfl

/-- A station that has accepted an image meets the laws of the conditions: each stands as the entry evaluation and its
edge leave it (R47, R60, R144). -/
theorem State.Accepts.condLaws {set : Settings} {s r t : State} (h : s.Accepts set r t) : t.CondLaws := by
  intro c
  have edges : t.edgesOf c = [] := by
    rw [State.edgesOf, h.runs.ann, h.start.ann]
    rfl
  have seqTruth : t.ann.seqTruth.get c = r.nextTruth c := by
    rw [h.runs.seqTruth, h.start.ann]
    simp [AnnUnit.reset]
  have view : t.condView c = ⟨set.conds.get c, r.nextRun c,
      if r.nextTruth c = true then ⟨.alertUnack, true, 1, .good⟩ else set.startCond c, r.nextTruth c, []⟩ := by
    simp only [State.condView, h.same, h.runs.run, h.ownCond, seqTruth, edges]
  obtain ⟨raw, hold, release⟩ := nextRun_follows (s := r) (c := c)
    (by constructor <;> simp [h.fresh.run, h.fresh.truth, EvalState.raw, EvalState.truth])
  have truth : (if r.nextTruth c = true then (⟨.alertUnack, true, 1, .good⟩ : CondEntry)
      else set.startCond c).truth = r.nextTruth c := by
    split
    · rename_i is; rw [is]
    · rename_i is; exact (Bool.eq_false_of_not_eq_true is).symm
  have never : (set.conds.get c).enabled = false → (r.nextRun c).eval = .isFalse := fun off => by
    rw [← h.runs.run, (h.unused off).2]
  rw [view]
  refine ⟨raw, hold, release, truth, never, by rw [truth]; rfl, fun on => ?_, fun _ off => ?_⟩
  · dsimp only at on ⊢
    cases r.nextTruth c <;> cases (set.conds.get c).annClass <;> simp [Settings.startCond, on, annAllowed]
  · have is : r.nextTruth c = false := by rw [State.nextTruth, never off]; rfl
    dsimp only at off
    simp [is, Settings.startCond, off]

/-- The end of an image check keeps the laws of the conditions: an accepted image starts them afresh, with the edges of
the entry evaluation taken (R47, R144). -/
theorem imageCheckEnd_condLaws {s : State} (law : s.CondLaws) (idle : s.IdleLaw) : s.imageCheckEnd.CondLaws := by
  by_cases checks : s.loader.phase = .checking ∧ s.life.life = .loading
  · obtain ⟨checking, loading⟩ := checks
    have notRunning : s.life.life.running = false := by rw [loading]; rfl
    cases result : checkImage s.loader.buffer s.own with
    | error code =>
      have failed : s.imageCheckEnd =
          (s.onLoader (fun l => { l with phase := .idle, check := code })).failImage code := by
        simp only [State.imageCheckEnd, checking, loading, result, and_self, if_true]
      have never : s.imageCheckEnd.life.life.running = false := by
        rw [failed, State.failImage]
        split <;> simp [loading, Life.running]
      rw [failed] at never ⊢
      exact law.of_same (by simp [never]) (by simp)
    | ok set =>
      exact (imageCheckEnd_accepts idle loading checking result).condLaws
  · have same : s.imageCheckEnd = s := by simp only [State.imageCheckEnd, if_neg checks]
    rwa [same]

/-! ### Every command -/

/-- Every command keeps the laws of the conditions while the RESET pin is not held. -/
theorem effectRunning_condLaws (c : Instr) {s : State} (law : s.CondLaws) (picture : s.PictureLaw) (idle : s.IdleLaw) :
    (effectRunning c s).CondLaws := by
  cases c
  case reset => exact condLaws_of_reset rfl rfl rfl rfl rfl
  case imageCheckEnd => exact imageCheckEnd_condLaws law idle
  case evaluation => exact evaluation_condLaws law
  case holdExpiry cond => exact holdExpiry_condLaws law cond
  case releaseExpiry cond => exact releaseExpiry_condLaws law cond
  case truthEdge cond =>
    simp only [effectRunning]
    split
    · exact (takeEdge_condLaws law cond).of_same (by simp) (by simp)
    · exact law
  case absenceTimerExpiry station => exact absenceExpiry_condLaws law picture idle station
  case controlDebounceExpiry input => exact controlExpiry_condLaws law input
  case frameEnd levels => exact frameEnd_condLaws law levels
  case imageBufferWrite offset bytes => exact writeTransaction_condLaws law _ _
  case registerWrite address data => exact writeTransaction_condLaws law _ _
  case listenTimerExpiry =>
    refine law.of_same (t := s.listenExpiry) ?_ (by simp)
    simp only [State.listenExpiry]
    split <;> simp_all [Life.running]
  case withdrawTimerExpiry =>
    refine law.of_same (t := s.withdrawExpiry) ?_ (by simp)
    simp only [State.withdrawExpiry]
    split <;> simp_all [Life.running]
  case collision bitTime =>
    refine law.of_same (t := s.collision bitTime) ?_ (by simp)
    simp only [State.collision]
    split
    · rename_i sends
      have active : s.life.life = .active := by
        have := sends.1
        simp only [State.transmitting, Bool.and_eq_true, beq_iff_eq] at this
        exact this.1.1
      exact fun _ => by rw [active]; rfl
    · exact id
  case take => exact writeTransaction_condLaws law _ _
  case ackAll => exact writeTransaction_condLaws law _ _
  case ackOne => exact writeTransaction_condLaws law _ _
  case silence => exact writeTransaction_condLaws law _ _
  case lampTestOn => exact writeTransaction_condLaws law _ _
  case lampTestOff => exact writeTransaction_condLaws law _ _
  case countClear => exact writeTransaction_condLaws law _ _
  case commit => exact writeTransaction_condLaws law _ _
  case unknownCommand code => exact writeTransaction_condLaws law _ _
  all_goals
    simp only [effectRunning]
    exact law.of_same (by simp) (by simp)

/-- Every command keeps the laws of the conditions (R54, R74, R140). -/
theorem effect_condLaws (c : Instr) {s : State} (law : s.CondLaws) (picture : s.PictureLaw) (idle : s.IdleLaw) :
    (effect c s).CondLaws := by
  unfold effect
  split
  · by_cases resets : c.resets = true
    · cases c <;> simp only [Instr.resets, Bool.false_eq_true] at resets
      · exact condLaws_of_reset rfl rfl rfl rfl rfl
      · rename_i source
        cases source <;> exact condLaws_of_reset rfl rfl rfl rfl rfl
    · rcases effectHeld_of_not_resets (by simpa using resets) s with same | acts
      · rwa [same]
      · rw [acts]
        exact effectRunning_condLaws c law picture idle
  · exact effectRunning_condLaws c law picture idle

/-- The laws that a step is proved from do not read the queue of waiting commands. -/
theorem State.Lawful.withPending {s : State} (lawful : s.Lawful) (rest : List Instr) :
    (s.withPending rest).CondLaws ∧ (s.withPending rest).PictureLaw ∧ (s.withPending rest).IdleLaw := by
  obtain ⟨_, _, _, _, _, _, _, _, _, _, _⟩ := lawful.idle
  refine ⟨(condLaws_iff s).2 ⟨lawful.conditions, lawful.annunciation⟩, lawful.picture.of_pic id rfl rfl, ?_⟩
  constructor <;> assumption

/-- Settles O55, one command at a time and one condition at a time. -/
theorem stepsKeepTheConditionLaws : Obligations.StepsKeepTheConditionLaws := by
  intro s t lawful stepped
  rw [step_eq] at stepped
  cases stepped
  rw [← condLaws_iff]
  split
  · have law := (condLaws_iff s).2 ⟨lawful.conditions, lawful.annunciation⟩
    exact law.of_same (by simp) (by simp)
  · rename_i c rest _
    obtain ⟨law, picture, idle⟩ := lawful.withPending rest
    exact effect_condLaws c law picture idle

end Machine
end Sys2Proof
end

section
namespace Sys2Proof
namespace Machine

/-! ### A truth edge taken (R60, Tables 4-2 to 4-4) -/

/-- No edge leads to the state it finds. -/
theorem nextByEdge_ne {k : AnnClass} {a new : AnnState} {rising : Bool} (moves : nextByEdge k a rising = some new) :
    new ≠ a := by
  rintro rfl
  cases k <;> cases new <;> cases rising <;> simp [nextByEdge] at moves

/-- The station with an edge taken, before its condition moves: the edge waits no more and its level is the sequence
truth. -/
def State.edgeTaken (c : CondIx) (rising : Bool) (s : State) : State :=
  s.onAnn (fun u => { u with seqTruth := u.seqTruth.set c rising, edges := dropEdge c u.edges })

/-- An edge taken moves its condition by the class table, or leaves it where the table has no move. -/
theorem takeEdge_found {s : State} {c : CondIx} {e : Edge} (found : s.ann.edges.find? (fun x => x.cond == c) = some e) :
    s.takeEdge c = match nextByEdge (s.classOfCond c) (s.ownCond c).state e.rising with
      | none => s.edgeTaken c e.rising
      | some new => (s.edgeTaken c e.rising).annChange c new := by
  simp only [State.takeEdge, found, State.applyEdge]
  rfl

/-- TRUTH_EDGE with an edge of its condition waiting. -/
theorem exec_truthEdge {s : State} {c : CondIx} {e : Edge} (held : s.held = false)
    (found : s.ann.edges.find? (fun x => x.cond == c) = some e) :
    exec (.truthEdge c) s = .next (s.takeEdge c).settle := by
  have waits : s.ann.edges.any (fun x => x.cond == c) = true :=
    List.any_eq_true.2 ⟨e, List.mem_of_find?_eq_some found, by simpa using List.find?_some found⟩
  simp only [exec_running _ held, effectRunning, if_pos waits]

/-- All that TRUTH_EDGE does where it leads a condition to a state with a generation, as O24 says it. -/
def State.EdgeEnters (s : State) (c : CondIx) (e : Edge) (new : AnnState) (g : Gen) : Prop :=
  ∃ u, exec (.truthEdge c) s = .next u.settle ∧
    u.ann.seqTruth = s.ann.seqTruth.set c e.rising ∧ (∃ before after, s.ann.edges = before ++ e :: after ∧
      (∀ x ∈ before, x.cond ≠ c) ∧ u.ann.edges = before ++ after) ∧
    u.ann.requests = s.ann.requests ∧ u.ann.attention = s.ann.attention ∧
    (∀ st k, u.condEntry st k = if st = s.own ∧ k = c then { s.ownCond c with state := new, gen := g }
      else s.condEntry st k) ∧
    u.pic.roster = s.pic.roster ∧ u.pic.points = s.pic.points ∧ u.cond.run = s.cond.run ∧
    u.frame = { s.frame with
      queue := if new ≠ (s.ownCond c).state ∧ s.life.life.queues
        then urgentRequest s.frame.queue else s.frame.queue } ∧
    (new = (s.ownCond c).state → u.cond = s.cond ∧ u.journal = s.journal ∧ u.report = s.report) ∧
    (new ≠ (s.ownCond c).state → u.cond.notices = s.cond.notices ++ [.cond s.own c (s.ownCond c) (u.ownCond c)]) ∧
    u.ann.clears = s.ann.clears ++ (if new = .alertUnack ∧ new ≠ (s.ownCond c).state ∧
      (s.ownCond c).quality = .good ∧ ⟨s.own, c⟩ ∈ s.settings.horn then [⟨s.own, c⟩] else []) ∧
    s.changesOnly [.pic, .cond, .ann, .frame, .journal, .report] u

/-- An edge for which the class table has no move leaves the entry. -/
theorem edgeEnters_of_stays {s : State} {c : CondIx} {e : Edge} (held : s.held = false)
    (found : s.ann.edges.find? (fun x => x.cond == c) = some e)
    (stays : nextByEdge (s.classOfCond c) (s.ownCond c).state e.rising = none) :
    s.EdgeEnters c e (s.ownCond c).state (s.ownCond c).gen := by
  obtain ⟨before, after, split, others, dropped, -⟩ := dropEdge_split c _ e found
  refine ⟨s.edgeTaken c e.rising, ?_, rfl, ⟨before, after, split, others, dropped⟩, rfl, rfl, ?_, rfl, rfl, rfl, ?_,
    fun _ => ⟨rfl, rfl, rfl⟩, fun h => absurd rfl h, ?_, ?_⟩
  · rw [exec_truthEdge held found, takeEdge_found found, stays]
  · intro st k
    split
    · rename_i h; rw [h.1, h.2]; rfl
    · rfl
  · simp [State.edgeTaken]
  · simp [State.edgeTaken]
  · intro b hb
    cases b <;> simp at hb <;> rfl

/-- An edge for which the class table has a move changes the entry, with all that a change does (R68 to R70, R95). -/
theorem edgeEnters_of_moves {s : State} {c : CondIx} {e : Edge} {new : AnnState} (held : s.held = false)
    (found : s.ann.edges.find? (fun x => x.cond == c) = some e)
    (moves : nextByEdge (s.classOfCond c) (s.ownCond c).state e.rising = some new) :
    s.EdgeEnters c e new (genAfter new (s.ownCond c).gen) := by
  obtain ⟨before, after, split, others, dropped, -⟩ := dropEdge_split c _ e found
  have changed := nextByEdge_ne moves
  obtain ⟨u, hu⟩ : ∃ u, u = (s.edgeTaken c e.rising).annChange c new := ⟨_, rfl⟩
  obtain ⟨gen, entry, notice, clear, urgent, -, -, -, roster, points, only⟩ :=
    annChange_changesTo (s.edgeTaken c e.rising) c new changed
  rw [← hu] at gen entry notice clear urgent roster points only
  refine ⟨u, ?_, by rw [clear]; rfl, ⟨before, after, split, others, by rw [clear]; exact dropped⟩, by rw [clear]; rfl,
    by rw [clear]; rfl, ?_, roster, points, by rw [notice]; rfl, ?_, fun h => absurd h changed,
    fun _ => by rw [notice]; rfl, ?_, ?_⟩
  · rw [exec_truthEdge held found, takeEdge_found found, moves, hu]
  · intro st k
    rw [entry, gen]
    rfl
  · rw [urgent]
    simp only [changed, ne_eq, not_false_eq_true, true_and]
    rfl
  · rw [clear]
    simp only [changed, ne_eq, not_false_eq_true, true_and]
    rfl
  · intro b hb
    have kept := only b hb
    cases b <;> simp at hb <;> exact kept

/-- Settles O24: each row of the class tables is a move of `nextByEdge` or none, and UNUSED has neither. -/
theorem edgesMoveByClass : Obligations.EdgesMoveByClass := by
  refine ⟨?_, ?_⟩
  · intro c e s held found enters state gen
    have moves : ∀ {k : AnnClass} {a new : AnnState} {rising : Bool}, (s.settings.conds.get c).annClass = k →
        state = a → e.rising = rising → nextByEdge k a rising = some new → enters new (genAfter new gen) :=
      fun class_eq state_eq rising_eq table => edgeEnters_of_moves held found
        (by rw [State.classOfCond, class_eq, rising_eq, ← table, ← state_eq])
    have stays : state = .alertUnack →
        nextByEdge (s.settings.conds.get c).annClass .alertUnack e.rising = none → enters .alertUnack gen := by
      intro state_eq table
      rw [← state_eq] at table ⊢
      exact edgeEnters_of_stays held found table
    refine ⟨fun lock => ⟨?_, ?_, ?_⟩, fun ring => ⟨?_, ?_, ?_, ?_⟩, fun follow => ⟨?_, ?_, ?_⟩⟩
    · exact fun ⟨normal, rises⟩ => moves lock normal rises rfl
    · exact fun unack => stays unack (by rw [lock]; rfl)
    · exact fun ⟨ack, falls⟩ => moves lock ack falls rfl
    · exact fun ⟨normal, rises⟩ => moves ring normal rises rfl
    · exact fun unack => stays unack (by rw [ring]; rfl)
    · exact fun ⟨ack, falls⟩ => moves ring ack falls rfl
    · exact fun ⟨unack, rises⟩ => moves ring unack rises rfl
    · exact fun ⟨normal, rises⟩ => moves follow normal rises rfl
    · exact fun ⟨unack, falls⟩ => moves follow unack falls rfl
    · exact fun ⟨ack, falls⟩ => moves follow ack falls rfl
  · intro c a s unused
    refine ⟨?_, ?_, fun law running => ?_⟩
    · obtain ⟨phase, gen⟩ := a
      have hidden : (⟨phase, gen⟩ : AckPair).shown (s.ownCond c) = false := by
        cases phase <;> simp [AckPair.shown, unused]
      simp [State.applyAck, hidden]
    · rintro ⟨-, -, answerable⟩
      have state : (s.condEntry s.own c).state = .unused := unused
      simp [state] at answerable
    · have off : (s.settings.conds.get c).enabled = false := by
        by_contra on
        have allowed := law.allowed c (by simpa using on)
        rw [unused] at allowed
        cases h : s.classOfCond c <;> simp [h, annAllowed] at allowed
      obtain ⟨-, gen, seqTruth, none⟩ := law.unused running c off
      have noEdge : ∀ e ∈ s.ann.edges, e.cond ≠ c := by
        simpa [State.edgesOf] using none
      refine ⟨gen, seqTruth, noEdge, exec_eq_self rfl ?_⟩
      have noneWaits : ¬ s.ann.edges.any (fun e => e.cond == c) = true := by simpa using noEdge
      simp only [effectRunning, if_neg noneWaits]

/-! ### The records and reports of a change (R68 to R70, R186, R187) -/

/-- No acknowledgement leads to the state it finds. -/
theorem nextByAck_ne {k : AnnClass} {a new : AnnState} {truth : Bool} (moves : nextByAck k a truth = some new) :
    new ≠ a := by
  rintro rfl
  cases k <;> cases new <;> cases truth <;> simp [nextByAck] at moves

/-- Settles O25: `State.changesTo` says what a change does, and the report law that an idle unit holds no job. -/
theorem stateChangeRecordsAndReports : Obligations.StateChangeRecordsAndReports := by
  refine ⟨?_, ?_⟩
  · intro c s held law waits
    obtain ⟨e, found⟩ : ∃ e, s.ann.edges.find? (fun x => x.cond == c) = some e := by
      rw [← Option.isSome_iff_exists, List.find?_isSome]
      simpa using waits
    refine ⟨s.takeEdge c, exec_truthEdge held found, ?_⟩
    rw [takeEdge_found found]
    cases moves : nextByEdge (s.classOfCond c) (s.ownCond c).state e.rising with
    | none => exact fun changed => absurd rfl changed
    | some new =>
      intro _
      dsimp only
      have changes := annChange_changesTo (s.edgeTaken c e.rising) c new (nextByEdge_ne moves)
      obtain ⟨u, hu⟩ : ∃ u, u = (s.edgeTaken c e.rising).annChange c new := ⟨_, rfl⟩
      rw [← hu] at changes ⊢
      have state : (u.ownCond c).state = new := by
        have own : u.own = s.own := congrArg LifeControl.stn (changes.others.2.2 .life (by simp))
        rw [State.ownCond, own, changes.entry, if_pos ⟨rfl, rfl⟩]
      rw [state]
      refine ⟨changes.noJob, fun j job => ⟨fun room => ?_, fun full => changes.dropped j job (le_of_eq full.symm)⟩⟩
      obtain ⟨handed, starts, queues⟩ := changes.job j job room
      exact ⟨handed, fun idle => by rw [starts idle (law.idle idle)]; exact ⟨rfl, rfl⟩, queues⟩
  · intro c a s
    rw [acknowledged_eq, State.applyAck]
    split
    · cases moves : nextByAck (s.classOfCond c) (s.ownCond c).state (s.ann.seqTruth.get c) with
      | none => exact ⟨fun _ => rfl, fun changed => absurd rfl changed⟩
      | some new =>
        have changed := nextByAck_ne moves
        exact ⟨fun same => absurd (congrArg CondEntry.state same) changed,
          fun _ => annChange_changesTo s c new changed⟩
    · exact ⟨fun _ => rfl, fun changed => absurd rfl changed⟩

end Machine
end Sys2Proof
end

section
namespace Sys2Proof
namespace Machine

/-! ### A press as acknowledgements and requests (R62, R78, R79) -/

/-- The model's test of a reference is the selection of R78. -/
theorem selects_iff (s : State) (st : Station) (c : CondIx) : s.selects st c = true ↔ s.pressSelects st c := by
  have answerable : ∀ a : AnnState, a.answerable = true ↔ a = .alertUnack ∨ a = .returnUnack := by
    intro a
    cases a <;> simp [AnnState.answerable]
  simp [State.selects, answerable, and_assoc]

/-- The acknowledgements of a press: the selected own conditions, C0 to C7, with the pairs that answer them. -/
def State.pressAcks (s : State) : List (CondIx × AckPair) :=
  ((indices 8).filter (fun c => s.pressSelects s.own c)).map (fun c => (c, (s.ownCond c).answer))

/-- The request a press forms for an owner. -/
def State.pressRequest (s : State) (st : Station) : Station × BitVec 8 × Tab 8 AckPair :=
  (st, maskWhere (fun c => s.selects st c), .build (fun c => (s.condEntry st c).answer))

/-- The owners of selected peer conditions, in ascending order. -/
def State.pressOwners (s : State) : List Station :=
  (indices 32).filter (fun st => st ≠ s.own ∧ maskWhere (fun c => s.selects st c) ≠ 0)

/-- A mask of no condition is one whose test none meets. -/
theorem maskWhere_ne_zero (test : CondIx → Bool) : maskWhere test ≠ 0 ↔ ∃ c, test c = true := by
  constructor
  · intro some
    by_contra none
    refine some (BitVec.eq_of_getLsbD_eq fun i hi => ?_)
    rw [getLsbD_maskWhere test ⟨i, hi⟩]
    simpa using fun h => none ⟨_, h⟩
  · rintro ⟨c, is⟩ zero
    have bit := getLsbD_maskWhere test c
    rw [zero, is] at bit
    simp at bit

/-- The owners a press asks. -/
theorem mem_pressOwners {s : State} {st : Station} : st ∈ s.pressOwners ↔ st ≠ s.own ∧ ∃ c, s.pressSelects st c := by
  simp only [State.pressOwners, List.mem_filter, mem_indices, true_and, decide_eq_true_eq, maskWhere_ne_zero,
    selects_iff]

/-- The owners a press asks stand in ascending order. -/
theorem pressOwners_sorted (s : State) : s.pressOwners.Pairwise (· < ·) := List.Pairwise.filter _ (by decide)

/-- The requests of a press are told by their targets, masks and pairs (R78). -/
theorem pressRequests_unique {s : State} {requests : List (Station × BitVec 8 × Tab 8 AckPair)}
    (sorted : (requests.map Prod.fst).Pairwise (· < ·))
    (targets : ∀ st, st ∈ requests.map Prod.fst ↔ st ≠ s.own ∧ ∃ c, s.pressSelects st c)
    (contents : ∀ x ∈ requests, (∀ c : CondIx, x.2.1.getLsbD c.val = true ↔ s.pressSelects x.1 c) ∧
      ∀ c, x.2.2.get c = (s.condEntry x.1 c).answer) :
    requests = s.pressOwners.map s.pressRequest := by
  have owners : requests.map Prod.fst = s.pressOwners :=
    sorted.eq_of_mem_iff (pressOwners_sorted s) (fun st => (targets st).trans mem_pressOwners.symm)
  have each : ∀ x ∈ requests, x = s.pressRequest x.1 := by
    rintro ⟨st, mask, pairs⟩ hx
    obtain ⟨masked, answers⟩ := contents _ hx
    have mask_eq : mask = maskWhere (fun c => s.selects st c) := by
      refine BitVec.eq_of_getLsbD_eq fun i hi => ?_
      rw [getLsbD_maskWhere _ ⟨i, hi⟩, Bool.eq_iff_iff, selects_iff]
      exact masked ⟨i, hi⟩
    have pairs_eq : pairs = .build (fun c => (s.condEntry st c).answer) := Tab.ext fun c => by
      rw [Tab.get_build]
      exact answers c
    rw [mask_eq, pairs_eq]
    rfl
  rw [← owners, List.map_map]
  exact (List.map_congr_left each).symm ▸ (List.map_id _).symm

/-- Acknowledgements formed one by one are those formed before them all, for no two name one condition. -/
theorem foldl_localAck {s : State} {l : List CondIx} (distinct : l.Nodup) {t : State}
    (same : ∀ c ∈ l, t.ownCond c = s.ownCond c) :
    l.foldl (fun t c => if s.selects s.own c then t.localAck c else t) t =
      t.answersAll ((l.filter (fun c => s.pressSelects s.own c)).map (fun c => (c, (s.ownCond c).answer))) := by
  induction l generalizing t with
  | nil => rfl
  | cons c l ih =>
    obtain ⟨notIn, distinct⟩ := List.nodup_cons.1 distinct
    have later := fun k hk => same k (List.mem_cons_of_mem c hk)
    rw [List.foldl_cons, List.filter_cons]
    by_cases selected : s.pressSelects s.own c
    · have applied : t.localAck c = t.applyAck c (s.ownCond c).answer := by
        rw [State.localAck, same c (by simp)]
        rfl
      have own : (t.applyAck c (s.ownCond c).answer).own = t.own := by simp [State.own]
      rw [if_pos ((selects_iff s _ c).2 selected), if_pos (by simpa using selected), applied, ih distinct]
      · rfl
      · intro k hk
        have other : k ≠ c := fun is => notIn (is ▸ hk)
        rw [State.ownCond, own, applyAck_condEntry, if_neg (fun is => other is.2)]
        exact later k hk
    · rw [if_neg (fun is => selected ((selects_iff s _ c).1 is)), if_neg (by simpa using selected)]
      exact ih distinct later

/-- A press is its acknowledgements and then its requests. -/
theorem ackPress_eq (s : State) :
    s.ackPress = (s.answersAll s.pressAcks).asksFor (s.pressOwners.map s.pressRequest) := by
  have acks := foldl_localAck (indices_nodup 8) (s := s) (t := s) (fun _ _ => rfl)
  unfold State.ackPress
  dsimp only
  rw [acks, State.asksFor, List.foldl_map, State.pressOwners, List.foldl_filter]
  refine congrFun (congrFun (congrArg List.foldl ?_) _) _
  funext t st
  by_cases asked : st = s.own ∨ maskWhere (fun c => s.selects st c) = 0
  · rw [if_pos asked, if_neg (by simpa using or_iff_not_imp_left.1 asked)]
  · rw [if_neg asked, if_pos (by simpa [not_or] using asked)]
    rfl

/-! ### What a press does (R62, R78, R79) -/

/-- What the asking of requests leaves as it was. -/
theorem asksFor_keeps (requests : List (Station × BitVec 8 × Tab 8 AckPair)) (s : State) :
    (s.asksFor requests).pic = s.pic :=
  foldl_keeps (fun t : State => t.pic) (fun t x => by split <;> simp) _ _

/-- Outside ACTIVE every request is refused with its record, and nothing else changes (R79, R82). -/
theorem asksFor_of_not_active {s : State} (idle : s.life.life ≠ .active)
    (requests : List (Station × BitVec 8 × Tab 8 AckPair)) :
    s.changesOnly [.journal] (s.asksFor requests) ∧
      s.hands (s.asksFor requests) (requests.map (fun x => .ackRefused x.1 x.2.1)) := by
  induction requests generalizing s with
  | nil => exact ⟨s.changesOnly_refl _, s.hands_nil rfl⟩
  | cons x l ih =>
    have refused : s.asksFor (x :: l) = (s.record (.ackRefused x.1 x.2.1)).asksFor l := by
      simp only [State.asksFor, List.foldl_cons, if_neg idle]
    obtain ⟨only, handed⟩ := ih (s := s.record (.ackRefused x.1 x.2.1)) (by simpa using idle)
    have first : s.changesOnly [.journal] (s.record (.ackRefused x.1 x.2.1)) := by
      intro b hb
      cases b <;> simp at hb <;> simp [Block.same]
    rw [refused]
    refine ⟨State.changesOnly_trans first only, ?_⟩
    exact State.hands_append (by simpa [State.scopePasses] using s.hands_record (.ackRefused x.1 x.2.1)) handed
      (only .clock (by simp)) (by rw [only .settings (by simp)])

/-- The acknowledgements of a press are those of the mask it selects. -/
theorem answersAll_pressAcks (s : State) : s.answersAll s.pressAcks =
    s.ackMasked (maskWhere (fun c => s.selects s.own c)) (.build (fun c => (s.ownCond c).answer)) (indices 8) := by
  rw [ackMasked_eq_answersAll, State.pressAcks]
  simp only [getLsbD_maskWhere, Tab.get_build]
  have tests : ∀ c ∈ indices 8, decide (s.pressSelects s.own c) = s.selects s.own c := fun c _ => by
    rw [Bool.eq_iff_iff, selects_iff, decide_eq_true_eq]
  rw [List.filter_congr tests]

/-- A press acknowledges the selected own conditions and writes no other entry (R62, R78). -/
theorem ackPress_condEntry (s : State) (x : Station) (k : CondIx) : s.ackPress.condEntry x k =
    if x = s.own ∧ s.pressSelects s.own k then s.acknowledged k (s.ownCond k).answer else s.condEntry x k := by
  have asked : s.ackPress.condEntry x k = (s.answersAll s.pressAcks).condEntry x k := by
    rw [ackPress_eq, State.condEntry, asksFor_keeps]
    rfl
  rw [asked, answersAll_pressAcks, ackMasked_condEntry _ _ (indices_nodup 8)]
  simp only [mem_indices, true_and, getLsbD_maskWhere, selects_iff, Tab.get_build]

/-- What the acknowledgement of a press makes of a condition's entry, by the class tables (Tables 4-2 to 4-4). -/
theorem acknowledged_answer (s : State) (c : CondIx) : s.acknowledged c (s.ownCond c).answer =
    match (s.settings.conds.get c).annClass, (s.ownCond c).state with
    | .lock, .alertUnack => { s.ownCond c with state := if s.ann.seqTruth.get c then .alertAck else .normal }
    | .ring, .alertUnack => { s.ownCond c with state := if s.ann.seqTruth.get c then .alertAck else .returnUnack }
    | .ring, .returnUnack => { s.ownCond c with state := .normal }
    | .follow, .alertUnack => { s.ownCond c with state := .alertAck }
    | _, _ => s.ownCond c := by
  simp only [State.acknowledged, CondEntry.answer]
  cases (s.settings.conds.get c).annClass <;> cases state : (s.ownCond c).state <;> simp

/-- What a press makes of each own condition (R62, Tables 4-2 to 4-4). -/
theorem ackPress_ownCond (s : State) (c : CondIx) : s.ackPress.condEntry s.own c =
    if (⟨s.own, c⟩ : CondRef) ∈ s.ann.attention ∧ (s.ownCond c).quality = .good then
      match (s.settings.conds.get c).annClass, (s.ownCond c).state with
      | .lock, .alertUnack => { s.ownCond c with state := if s.ann.seqTruth.get c then .alertAck else .normal }
      | .ring, .alertUnack => { s.ownCond c with state := if s.ann.seqTruth.get c then .alertAck else .returnUnack }
      | .ring, .returnUnack => { s.ownCond c with state := .normal }
      | .follow, .alertUnack => { s.ownCond c with state := .alertAck }
      | _, _ => s.ownCond c
    else s.ownCond c := by
  rw [ackPress_condEntry, acknowledged_answer]
  change (if _ ∧ s.pressSelects s.own c then _ else s.ownCond c) = _
  by_cases covered : (⟨s.own, c⟩ : CondRef) ∈ s.ann.attention ∧ (s.ownCond c).quality = .good
  · rw [if_pos covered]
    by_cases waits : (s.ownCond c).state = .alertUnack ∨ (s.ownCond c).state = .returnUnack
    · exact if_pos ⟨rfl, covered.1, covered.2, waits⟩
    · rw [if_neg (fun is => waits is.2.2.2)]
      cases (s.settings.conds.get c).annClass <;> cases state : (s.ownCond c).state <;> simp [state] at waits ⊢
  · rw [if_neg covered, if_neg (fun is => covered ⟨is.2.1, is.2.2.1⟩)]

/-- The acknowledgements of a press leave the life state. -/
theorem answersAll_pressAcks_life (s : State) : (s.answersAll s.pressAcks).life = s.life := by
  rw [answersAll_pressAcks]
  simp

/-- Outside ACTIVE a press leaves the request table (R79). -/
theorem ackPress_requests {s : State} (idle : s.life.life ≠ .active) : s.ackPress.ann.requests = s.ann.requests := by
  rw [ackPress_eq, answersAll_pressAcks]
  have only := (asksFor_of_not_active (s := s.ackMasked (maskWhere (fun c => s.selects s.own c))
    (.build (fun c => (s.ownCond c).answer)) (indices 8)) (by simpa using idle) (s.pressOwners.map s.pressRequest)).1
  rw [only .ann (by simp)]
  simp

/-! ### A press reads neither the inputs nor the outputs nor the port -/

/-- The station with other inputs, outputs and port. -/
def State.withPanel (i : PointUnit) (o : OutputUnit) (p : Port) (s : State) : State :=
  { s with input := i, out := o, port := p }

section
variable (i : PointUnit) (o : OutputUnit) (p : Port) (s : State)

theorem record_withPanel (b : RecordBody) : (s.withPanel i o p).record b = (s.record b).withPanel i o p := by
  unfold State.record
  change (if s.scopePasses b then _ else _) = _
  split <;> rfl

theorem writeCond_withPanel (st : Station) (c : CondIx) (e : CondEntry) :
    (s.withPanel i o p).writeCond st c e = (s.writeCond st c e).withPanel i o p := by
  have notices : ∀ (t : State) (before : CondEntry), (t.withPanel i o p).noticeCond st c before e =
      (t.noticeCond st c before e).withPanel i o p := by
    intro t before
    unfold State.noticeCond
    change (if t.settings.horn.contains ⟨st, c⟩ && callsForClear before e then _ else _) =
      State.withPanel i o p (if t.settings.horn.contains ⟨st, c⟩ && callsForClear before e then _ else _)
    split <;> rfl
  unfold State.writeCond
  change (if e = s.condEntry st c then _ else _) = _
  split
  · rfl
  · exact notices (s.onPic (Picture.setCond st c e)) (s.condEntry st c)

theorem requestUrgent_withPanel : (s.withPanel i o p).requestUrgent = s.requestUrgent.withPanel i o p := by
  unfold State.requestUrgent
  change (if s.life.life.queues then _ else _) = _
  split <;> rfl

theorem addJob_withPanel (j : Job) : (s.withPanel i o p).addJob j = (s.addJob j).withPanel i o p := by
  have starts : ∀ t : State, (t.withPanel i o p).startReport = t.startReport.withPanel i o p := by
    intro t
    simp only [State.startReport, show (t.withPanel i o p).report = t.report from rfl]
    split <;> rfl
  unfold State.addJob
  change (if s.report.jobs.length < jobQueueSize then _ else _) = _
  split
  · exact starts (s.onReport (fun q => { q with jobs := q.jobs ++ [j] }))
  · exact record_withPanel i o p s _

theorem annChange_withPanel (c : CondIx) (new : AnnState) :
    (s.withPanel i o p).annChange c new = (s.annChange c new).withPanel i o p := by
  have reports : ∀ (t : State) (g : Gen), (t.withPanel i o p).reportChange c new g =
      (t.reportChange c new g).withPanel i o p := by
    intro t g
    rw [reportChange_eq, reportChange_eq, show (t.withPanel i o p).jobOf c new g = t.jobOf c new g from rfl]
    cases t.jobOf c new g with
    | none => rfl
    | some j => exact addJob_withPanel i o p t j
  simp only [State.annChange, record_withPanel, writeCond_withPanel, requestUrgent_withPanel, reports]
  rfl

theorem applyAck_withPanel (c : CondIx) (a : AckPair) :
    (s.withPanel i o p).applyAck c a = (s.applyAck c a).withPanel i o p := by
  rw [State.applyAck, State.applyAck, show (s.withPanel i o p).ownCond c = s.ownCond c from rfl,
    show (s.withPanel i o p).classOfCond c = s.classOfCond c from rfl, show (s.withPanel i o p).ann = s.ann from rfl]
  split
  · cases nextByAck (s.classOfCond c) (s.ownCond c).state (s.ann.seqTruth.get c) with
    | none => rfl
    | some new => exact annChange_withPanel i o p s c new
  · rfl

theorem handRequest_withPanel (st : Station) (mask : BitVec 8) (pairs : Tab 8 AckPair) :
    (s.withPanel i o p).handRequest st mask pairs = (s.handRequest st mask pairs).withPanel i o p := by
  unfold State.handRequest
  rw [show (s.withPanel i o p).requestFor st = s.requestFor st from rfl,
    show (s.withPanel i o p).freePlace = s.freePlace from rfl, show (s.withPanel i o p).ann = s.ann from rfl]
  cases s.requestFor st with
  | some k =>
    dsimp only
    cases s.ann.requests.get k with
    | none => rfl
    | some r =>
      obtain ⟨target, before, asked, retries, timer, pending, again⟩ := r
      cases pending <;> rfl
  | none =>
    cases s.freePlace with
    | some k => rfl
    | none => exact record_withPanel i o p s _

/-- A press leaves other inputs, outputs and port aside. -/
theorem ackPress_withPanel : (s.withPanel i o p).ackPress = s.ackPress.withPanel i o p := by
  have answers : ∀ (l : List (CondIx × AckPair)) (t : State),
      (t.withPanel i o p).answersAll l = (t.answersAll l).withPanel i o p := by
    intro l
    induction l with
    | nil => exact fun t => rfl
    | cons x l ih =>
      intro t
      simp only [State.answersAll, List.foldl_cons, applyAck_withPanel]
      exact ih _
  have asks : ∀ (l : List (Station × BitVec 8 × Tab 8 AckPair)) (t : State),
      (t.withPanel i o p).asksFor l = (t.asksFor l).withPanel i o p := by
    intro l
    induction l with
    | nil => exact fun t => rfl
    | cons x l ih =>
      intro t
      have one : (if (t.withPanel i o p).life.life = .active then (t.withPanel i o p).handRequest x.1 x.2.1 x.2.2
          else (t.withPanel i o p).record (.ackRefused x.1 x.2.1)) =
          (if t.life.life = .active then t.handRequest x.1 x.2.1 x.2.2
            else t.record (.ackRefused x.1 x.2.1)).withPanel i o p := by
        rw [handRequest_withPanel, record_withPanel]
        change (if t.life.life = .active then _ else _) = _
        split <;> rfl
      rw [State.asksFor, List.foldl_cons, one]
      exact ih _
  rw [ackPress_eq, ackPress_eq, ← asks, ← answers]
  rfl

end

/-- The supervisor's ACK_ALL is a press (log entry 12). -/
theorem exec_ackAll {s : State} (held : s.held = false) (running : s.life.life.running = true) :
    exec .ackAll s = .next (s.ackPress.withPanel s.input s.out { s.port with
      pointer := 0x13
      reading := false
      unsent := []
      acks := [true, true, true, true]
      command := 0x02
      result := .ok }).settle := by
  have loaded : s.life.life ≠ .loading ∧ s.life.life ≠ .configFault := by
    constructor <;> intro is <;> simp [is, Life.running] at running
  have settles : ∀ f : Port → Port, (s.onPort f).settleCommand 0x02 = ((s.onPort f).ackPress.result .ok).settle := by
    intro f
    simp [State.settleCommand, State.committing, commandOf, State.runCommand, loaded]
  have panel : ∀ f : Port → Port, s.onPort f = s.withPanel s.input s.out (f s.port) := fun _ => rfl
  rw [exec_running _ held]
  simp only [effectRunning, State.writeCommand_eq, settles]
  rw [← State.settle_onPort, panel, ackPress_withPanel]
  rfl

/-- A press of ACK, accepted at the count its debounce timer is due (R33, R34). -/
theorem exec_ackExpiry {s : State} {due : Ms} (held : s.held = false) (candidate : s.input.ack.candidate = some true)
    (timer : s.input.ack.timer = some due) : exec (.controlDebounceExpiry .ack) s =
      .next ((s.onClock (fun _ => (s.reachTime due).clock)).ackPress.withPanel
        { s.input with ack := ⟨true, none, none⟩ } (s.reachTime due).out s.port).settle := by
  rw [exec_running _ held, ← ackPress_withPanel]
  have reached : (s.reachTime due).setControl .ack ⟨true, none, none⟩ =
      (s.onClock (fun _ => (s.reachTime due).clock)).withPanel { s.input with ack := ⟨true, none, none⟩ }
        (s.reachTime due).out s.port := by
    unfold State.reachTime
    split <;> rfl
  have expires : s.input.ack.expire = ⟨true, none, none⟩ := by simp only [Debouncer.expire, candidate]
  simp only [effectRunning, State.controlExpiry, PointUnit.control, candidate, timer, State.controlChange, if_true,
    expires, reached]

/-- Settles O27: a press of ACK and ACK_ALL are one press, with other inputs, outputs and port beside it. -/
theorem pressAnswersTheAttentionSet : Obligations.PressAnswersTheAttentionSet := by
  intro due s held running
  refine ⟨_, _, ⟨exec_ackExpiry held, exec_ackAll held running⟩, rfl, ?_, rfl, rfl, ?_, ?_, ?_⟩
  · simp [State.withPanel]
  · intro b hb
    cases b <;> simp at hb <;> simp [Block.same, State.withPanel]
  · intro b hb
    cases b <;> simp at hb <;> simp [Block.same, State.withPanel]
  · intro w is
    obtain ⟨clk, i, o, p, pressed, clocked⟩ : ∃ clk i o p,
        w = (s.onClock (fun _ => clk)).ackPress.withPanel i o p ∧ w.clock = clk := by
      rcases is with rfl | rfl
      · exact ⟨_, _, _, _, rfl, by simp [State.withPanel]⟩
      · exact ⟨s.clock, _, _, _, rfl, by simp [State.withPanel]⟩
    have entries : ∀ x c, w.condEntry x c = (s.onClock (fun _ => clk)).ackPress.condEntry x c := by
      rw [pressed]
      exact fun _ _ => rfl
    have own : w.own = s.own := by simp [State.own, pressed, State.withPanel]
    refine ⟨fun c => ?_, fun st c peer => ?_, ?_, ?_, ?_, ?_, ?_, fun idle => ?_, ?_⟩
    · rw [State.ownCond, own, entries]
      exact ackPress_ownCond _ c
    · rw [entries, ackPress_condEntry, if_neg (fun is => peer is.1)]
      rfl
    iterate 5 · simp [pressed, State.withPanel]
    · rw [pressed]
      exact ackPress_requests (s := s.onClock (fun _ => clk)) idle
    · intro requests sorted targets contents
      obtain rfl := pressRequests_unique sorted targets contents
      rw [clocked]
      have formed := ackPress_eq (s.onClock (fun _ => clk))
      have life := congrArg LifeControl.life (answersAll_pressAcks_life (s.onClock (fun _ => clk)))
      have refused : s.life.life ≠ .active → _ := fun idle =>
        (asksFor_of_not_active (life.trans_ne idle) (s.pressOwners.map s.pressRequest)).2
      rw [pressed]
      exact ⟨(congrArg State.pic formed :), (congrArg State.cond formed :), (congrArg State.ann formed :),
        (congrArg State.frame formed :), (congrArg State.journal formed :), (congrArg State.report formed :), refused⟩

end Machine
end Sys2Proof
end

section
namespace Sys2Proof
namespace Machine

/-! ### Places of a table in rising order -/

/-- The place a search of the indices finds is the lowest that meets the test. -/
theorem find_indices_iff {n : Nat} (p : Fin n → Bool) (i : Fin n) :
    (indices n).find? p = some i ↔ p i = true ∧ ∀ j < i, p j = false := by
  rw [List.find?_eq_some_iff_getElem]
  simp only [indices, List.length_ofFn, List.getElem_ofFn, Bool.not_eq_true']
  constructor
  · rintro ⟨is, k, hk, rfl, before⟩
    exact ⟨is, fun j hj => before j.val hj⟩
  · rintro ⟨is, before⟩
    exact ⟨is, i.val, i.isLt, rfl, fun j hj => before ⟨j, by omega⟩ hj⟩

/-- The entry for a target is the lowest place that holds one (R81). -/
theorem requestFor_iff (s : State) (st : Station) (i : ReqIx) : s.requestFor st = some i ↔
    (∃ r, s.ann.requests.get i = some r ∧ r.target = st) ∧
      ∀ j < i, ∀ r, s.ann.requests.get j = some r → r.target ≠ st := by
  rw [State.requestFor, find_indices_iff]
  refine and_congr ?_ (forall₂_congr fun j _ => ?_)
  · cases s.ann.requests.get i <;> simp
  · cases s.ann.requests.get j <;> simp

/-- A target has no entry where no place holds one. -/
theorem requestFor_eq_none_iff (s : State) (st : Station) : s.requestFor st = none ↔
    ∀ i r, s.ann.requests.get i = some r → r.target ≠ st := by
  simp only [State.requestFor, List.find?_eq_none, mem_indices, forall_true_left]
  refine forall_congr' fun i => ?_
  cases s.ann.requests.get i <;> simp

/-- The free place a new entry takes is the lowest (R82). -/
theorem freePlace_iff (s : State) (i : ReqIx) : s.freePlace = some i ↔
    s.ann.requests.get i = none ∧ ∀ j < i, s.ann.requests.get j ≠ none := by
  rw [State.freePlace, find_indices_iff]
  refine and_congr (by simp) (forall₂_congr fun j _ => ?_)
  cases s.ann.requests.get j <;> simp

/-! ### Kinds of queue entries (Table 6-4) -/

@[simp] theorem isState_state (u c o : Bool) : QEntry.isState ⟨.state u c, o⟩ = true := rfl
@[simp] theorem isState_ackreq (i : ReqIx) (o : Bool) : QEntry.isState ⟨.ackreq i, o⟩ = false := rfl
@[simp] theorem isState_silence (z : BitVec 4) (o : Bool) : QEntry.isState ⟨.silence z, o⟩ = false := rfl
@[simp] theorem isSilence_state (u c o : Bool) : QEntry.isSilence ⟨.state u c, o⟩ = false := rfl
@[simp] theorem isSilence_ackreq (i : ReqIx) (o : Bool) : QEntry.isSilence ⟨.ackreq i, o⟩ = false := rfl
@[simp] theorem isSilence_silence (z : BitVec 4) (o : Bool) : QEntry.isSilence ⟨.silence z, o⟩ = true := rfl
@[simp] theorem isAckreq_state (i : ReqIx) (u c o : Bool) : QEntry.isAckreq i ⟨.state u c, o⟩ = false := rfl
@[simp] theorem isAckreq_ackreq (i j : ReqIx) (o : Bool) : QEntry.isAckreq i ⟨.ackreq j, o⟩ = (j == i) := rfl
@[simp] theorem isAckreq_silence (i : ReqIx) (z : BitVec 4) (o : Bool) :
    QEntry.isAckreq i ⟨.silence z, o⟩ = false := rfl

/-- An ACKREQ entry is told by its place and its standing. -/
theorem eq_of_isAckreq {i : ReqIx} {e : QEntry} (h : e.isAckreq i = true) : e = ⟨.ackreq i, e.onLine⟩ := by
  obtain ⟨kind, onLine⟩ := e
  cases kind <;> simp at h ⊢
  exact h

/-- An entry that is neither a STATE nor a SILENCE is an ACKREQ. -/
theorem exists_isAckreq {e : QEntry} (state : e.isState = false) (silence : e.isSilence = false) :
    ∃ i, e.isAckreq i = true := by
  obtain ⟨kind, onLine⟩ := e
  cases kind <;> simp at state silence ⊢

/-- An entry as its transmission's end or start leaves it: its changed mark clear, its standing as given. -/
def QEntry.standing (onLine : Bool) (e : QEntry) : QEntry := { (e.setChanged false) with onLine := onLine }

@[simp] theorem standing_onLine (b : Bool) (e : QEntry) : (e.standing b).onLine = b := rfl

@[simp] theorem standing_keeps (b : Bool) (e : QEntry) : (e.standing b).isState = e.isState ∧
    (e.standing b).isSilence = e.isSilence ∧ ∀ i, (e.standing b).isAckreq i = e.isAckreq i := by
  obtain ⟨kind, onLine⟩ := e
  cases kind <;> exact ⟨rfl, rfl, fun _ => rfl⟩

@[simp] theorem standing_ackreq (b o : Bool) (i : ReqIx) : QEntry.standing b ⟨.ackreq i, o⟩ = ⟨.ackreq i, b⟩ := rfl

/-- A queue holds STATE entries, SILENCE entries and the ACKREQ entries of each place. -/
theorem length_queue (q : List QEntry) : q.length =
    q.countP QEntry.isState + q.countP QEntry.isSilence + ∑ i : ReqIx, q.countP (QEntry.isAckreq i) := by
  induction q with
  | nil => simp
  | cons e q ih =>
    obtain ⟨kind, onLine⟩ := e
    cases kind <;> simp [List.countP_cons, ih, Finset.sum_add_distrib] <;> omega

/-! ### The queue and the request table as one (R84, R102, R110) -/

/-- The ACKREQ entries the queue holds for a place of the request table, by its frame pending (Table 5-2). -/
def ackEntries (i : ReqIx) : Option Request → List QEntry
  | none => []
  | some r => match r.pending with
    | .none => []
    | .queued => [⟨.ackreq i, false⟩]
    | .onLine => [⟨.ackreq i, true⟩]

/-- A place has one ACKREQ at most in the queue. -/
theorem length_ackEntries (i : ReqIx) (place : Option Request) : (ackEntries i place).length ≤ 1 := by
  cases place with
  | none => simp [ackEntries]
  | some r => cases h : r.pending <;> simp [ackEntries, h]

/-- What holds of each entry of the request table by itself (R81, R84). -/
structure Request.Fields (r : Request) : Prop where
  mask : r.mask ≠ 0
  retries : r.retries ≤ 3
  timer : r.timer.isSome = true ↔ r.pending = .none
  sendAgain : r.sendAgain = true → r.pending = .onLine

/-- A queue and a request table that agree, with their targets among the given peers: what the laws of the queue and the
table say apart from the life state. -/
structure Linked (peer : Station → Prop) (sending : Bool) (q : List QEntry) (tab : Tab 8 (Option Request)) : Prop where
  oneState : q.countP QEntry.isState ≤ 1
  oneSilence : q.countP QEntry.isSilence ≤ 1
  ackreqs : ∀ i, q.filter (QEntry.isAckreq i) = ackEntries i (tab.get i)
  sent : q.countP QEntry.onLine ≤ if sending then 1 else 0
  distinct : ∀ i j r x, tab.get i = some r → tab.get j = some x → r.target = x.target → i = j
  target : ∀ i r, tab.get i = some r → peer r.target
  fields : ∀ i r, tab.get i = some r → r.Fields

section
variable {peer : Station → Prop} {sending : Bool} {q : List QEntry} {tab : Tab 8 (Option Request)}

/-- The ACKREQ entries that stand for a place. -/
theorem Linked.mem_iff (law : Linked peer sending q tab) {i : ReqIx} {e : QEntry} (is : e.isAckreq i = true) :
    e ∈ q ↔ e ∈ ackEntries i (tab.get i) := by
  rw [← law.ackreqs, List.mem_filter, and_iff_left is]

/-- A queue without entries agrees with an empty table. -/
theorem linked_nil (peer : Station → Prop) (sending : Bool) (empty : ∀ i, tab.get i = none) :
    Linked peer sending [] tab := by
  constructor <;> simp [empty, ackEntries]

/-- A queue of STATE entries alone agrees with an empty table. -/
theorem linked_states (peer : Station → Prop) (sending : Bool) (empty : ∀ i, tab.get i = none)
    (states : ∀ e ∈ q, e.isState = true) (one : q.length ≤ 1) (waits : ∀ e ∈ q, e.onLine = false) :
    Linked peer sending q tab := by
  have others : ∀ e ∈ q, e.isSilence = false ∧ ∀ i, e.isAckreq i = false := by
    rintro ⟨kind, onLine⟩ he
    have := states _ he
    cases kind <;> simp at this ⊢
  constructor
  case oneState => exact List.countP_le_length.trans one
  case oneSilence => rw [List.countP_eq_zero.2 (by simpa using fun e he => (others e he).1)]; omega
  case ackreqs =>
    intro i
    rw [empty, List.filter_eq_nil_iff.2 (by simpa using fun e he => (others e he).2 i)]
    rfl
  case sent => rw [List.countP_eq_zero.2 (by simpa using waits)]; omega
  all_goals simp [empty]

/-- The link does not depend on more than the peers it needs. -/
theorem Linked.mono (law : Linked peer sending q tab) {peer' : Station → Prop}
    (peers : ∀ i r, tab.get i = some r → peer r.target → peer' r.target) : Linked peer' sending q tab :=
  { law with target := fun i r hr => peers i r hr (law.target i r hr) }

/-- Another queue with the same ACKREQ entries, and no more STATE, SILENCE and ON_LINE entries than allowed. -/
theorem Linked.of_queue (law : Linked peer sending q tab) {q' : List QEntry}
    (state : q'.countP QEntry.isState ≤ 1) (silence : q'.countP QEntry.isSilence ≤ 1)
    (ackreqs : ∀ i, q'.filter (QEntry.isAckreq i) = q.filter (QEntry.isAckreq i))
    (onLine : q'.countP QEntry.onLine ≤ q.countP QEntry.onLine) : Linked peer sending q' tab :=
  { law with
    oneState := state
    oneSilence := silence
    ackreqs := fun i => (ackreqs i).trans (law.ackreqs i)
    sent := onLine.trans law.sent }

/-- A queue changed in its STATE entries alone, with one at most. -/
theorem Linked.of_states (law : Linked peer sending q tab) {q' : List QEntry}
    (others : q'.filter (fun e => !e.isState) = q.filter (fun e => !e.isState))
    (state : q'.countP QEntry.isState ≤ 1) (onLine : q'.countP QEntry.onLine ≤ q.countP QEntry.onLine) :
    Linked peer sending q' tab := by
  have through : ∀ p : QEntry → Bool, (∀ e, e.isState = true → p e = false) → q'.filter p = q.filter p := by
    intro p apart
    have skips : ∀ l : List QEntry, l.filter p = (l.filter (fun e => !e.isState)).filter p := by
      intro l
      rw [List.filter_filter]
      refine List.filter_congr fun e _ => ?_
      cases h : e.isState
      · simp
      · simp [apart e h]
    rw [skips q', skips q, others]
  refine law.of_queue state ?_ (fun i => through _ ?_) onLine
  · rw [List.countP_eq_length_filter, through _ ?_, ← List.countP_eq_length_filter]
    · exact law.oneSilence
    · rintro ⟨kind, onLine⟩ h
      cases kind <;> simp at h ⊢
  · rintro ⟨kind, onLine⟩ h
    cases kind <;> simp at h ⊢

end

/-! ### Requests for frames (Tables 5-4 and 6-5) -/

/-- A queue with a STATE entry, split at it. -/
theorem split_at_state {q : List QEntry} (one : q.countP QEntry.isState ≤ 1) :
    (∀ e ∈ q, e.isState = false) ∨ ∃ before u c o after, q = before ++ ⟨.state u c, o⟩ :: after ∧
      (∀ e ∈ before, e.isState = false) ∧ ∀ e ∈ after, e.isState = false := by
  by_cases held : ∃ e ∈ q, e.isState = true
  · obtain ⟨before, ⟨kind, o⟩, after, rfl, isState, notBefore, -⟩ := find_split _ q held
    obtain ⟨u, c, rfl⟩ : ∃ u c, kind = .state u c := by
      cases kind <;> simp at isState ⊢
    refine .inr ⟨before, u, c, o, after, rfl, notBefore, ?_⟩
    simp only [List.countP_append, List.countP_cons, isState_state, if_true] at one
    simpa using List.countP_eq_zero.1 (show after.countP QEntry.isState = 0 by omega)
  · exact .inl (by simpa using held)

/-- An urgent STATE request changes STATE entries alone, leaves one, and puts none ON_LINE (Table 6-5). -/
theorem urgentRequest_effect {q : List QEntry} (one : q.countP QEntry.isState ≤ 1) :
    (urgentRequest q).filter (fun e => !e.isState) = q.filter (fun e => !e.isState) ∧
      (urgentRequest q).countP QEntry.isState = 1 ∧
      (urgentRequest q).countP QEntry.onLine = q.countP QEntry.onLine := by
  have count : ∀ l : List QEntry, (∀ e ∈ l, e.isState = false) → l.countP QEntry.isState = 0 :=
    fun l h => List.countP_eq_zero.2 (by simpa using h)
  rcases split_at_state one with none | ⟨before, u, c, o, after, rfl, notBefore, notAfter⟩
  · rw [urgentRequest_of_no_state none]
    simp [QEntry.urgentState, count _ none]
  · rw [urgentRequest_of_state u c o notBefore notAfter]
    cases o
    · cases u <;> simp [QEntry.urgentState, List.countP_cons, count _ notBefore, count _ notAfter]
    · simp [List.countP_cons, count _ notBefore, count _ notAfter]

/-- A routine STATE request adds a STATE entry where there is none (Table 6-5). -/
theorem routineRequest_effect {q : List QEntry} (one : q.countP QEntry.isState ≤ 1) :
    (routineRequest q).filter (fun e => !e.isState) = q.filter (fun e => !e.isState) ∧
      (routineRequest q).countP QEntry.isState ≤ 1 ∧
      (routineRequest q).countP QEntry.onLine = q.countP QEntry.onLine := by
  rw [routineRequest]
  split
  · rename_i none
    have count : q.countP QEntry.isState = 0 := List.countP_eq_zero.2 (by simpa using none)
    simp [QEntry.routineState, count]
  · exact ⟨rfl, one, rfl⟩

/-- With no SILENCE entry held, a SILENCE request adds one at the tail (R111). -/
theorem silenceRequest_of_none (reach : BitVec 4) {q : List QEntry} (none : ∀ e ∈ q, e.isSilence = false) :
    silenceRequest reach q = q ++ [⟨.silence reach, false⟩] := by
  rw [silenceRequest, List.find?_eq_none.2 (by simpa using none)]

/-- With a SILENCE entry held, a SILENCE request merges the reach into it (Table 5-4, R111). -/
theorem silenceRequest_of_held (reach zones : BitVec 4) (o : Bool) {before after : List QEntry}
    (none : ∀ e ∈ before, e.isSilence = false) : silenceRequest reach (before ++ ⟨.silence zones, o⟩ :: after) =
      before ++ ⟨.silence (zones ||| reach), o⟩ :: after := by
  have found : (before ++ ⟨.silence zones, o⟩ :: after).find? QEntry.isSilence = some ⟨.silence zones, o⟩ := by
    rw [List.find?_append, List.find?_eq_none.2 (by simpa using none)]
    rfl
  rw [silenceRequest, found]
  exact changeFirst_split _ _ _ _ _ (isSilence_silence ..) none

/-- A queue holds no SILENCE entry, or a first one. -/
theorem silence_none_or_first (q : List QEntry) : (∀ e ∈ q, e.isSilence = false) ∨
    ∃ before zones o after, q = before ++ ⟨.silence zones, o⟩ :: after ∧ ∀ e ∈ before, e.isSilence = false := by
  by_cases held : ∃ e ∈ q, e.isSilence = true
  · obtain ⟨before, ⟨kind, o⟩, after, rfl, isSilence, notBefore, -⟩ := find_split _ q held
    obtain ⟨zones, rfl⟩ : ∃ zones, kind = .silence zones := by
      cases kind <;> simp at isSilence ⊢
    exact .inr ⟨before, zones, o, after, rfl, notBefore⟩
  · exact .inl (by simpa using held)

section
variable {peer : Station → Prop} {sending : Bool} {q : List QEntry} {tab : Tab 8 (Option Request)}

/-- An urgent STATE request keeps the link. -/
theorem Linked.urgentRequest (law : Linked peer sending q tab) : Linked peer sending (urgentRequest q) tab := by
  obtain ⟨others, one, onLine⟩ := urgentRequest_effect law.oneState
  exact law.of_states others (le_of_eq one) (le_of_eq onLine)

/-- A routine STATE request keeps the link. -/
theorem Linked.routineRequest (law : Linked peer sending q tab) : Linked peer sending (routineRequest q) tab := by
  obtain ⟨others, one, onLine⟩ := routineRequest_effect law.oneState
  exact law.of_states others one (le_of_eq onLine)

/-- A SILENCE request keeps the link. -/
theorem Linked.silenceRequest (law : Linked peer sending q tab) (reach : BitVec 4) :
    Linked peer sending (silenceRequest reach q) tab := by
  have oneState := law.oneState
  have oneSilence := law.oneSilence
  rcases silence_none_or_first q with none | ⟨before, zones, o, after, rfl, none⟩
  · have count : q.countP QEntry.isSilence = 0 := List.countP_eq_zero.2 (by simpa using none)
    rw [silenceRequest_of_none reach none]
    exact law.of_queue (by simpa using oneState) (by simp [count]) (by simp) (by simp)
  · rw [silenceRequest_of_held reach zones o none]
    simp only [List.countP_append, List.countP_cons, isState_silence, isSilence_silence] at oneState oneSilence
    exact law.of_queue (by simpa [List.countP_cons] using oneState) (by simpa [List.countP_cons] using oneSilence)
      (by simp) (by simp [List.countP_cons])

/-! ### Entries of the request table (R82 to R86, R110) -/

/-- An entry whose place has no ACKREQ in the queue takes its place with its ACKREQ queued at the tail. -/
theorem Linked.queue (law : Linked peer sending q tab) {i : ReqIx} {r : Request}
    (noFrame : ackEntries i (tab.get i) = []) (queued : r.pending = .queued) (fields : r.Fields)
    (target : peer r.target)
    (alone : ∀ j x, tab.get j = some x → x.target = r.target → j = i) :
    Linked peer sending (q ++ [⟨.ackreq i, false⟩]) (tab.set i (some r)) := by
  obtain ⟨oneState, oneSilence, ackreqs, sent, distinct, targets, allFields⟩ := law
  constructor
  case oneState => simpa using oneState
  case oneSilence => simpa using oneSilence
  case ackreqs =>
    intro j
    by_cases h : i = j
    · subst h
      rw [List.filter_append, ackreqs, noFrame]
      simp [ackEntries, queued]
    · simp [List.filter_append, ackreqs, h, Tab.get_set_other]
  case sent => simpa using sent
  case distinct =>
    intro j k x y hx hy same
    rw [Tab.get_set] at hx hy
    split at hx <;> split at hy
    · omega
    · cases hx; rename_i hj _; rw [← hj]; exact (alone k y hy same.symm).symm
    · cases hy; rename_i _ hk; rw [← hk]; exact alone j x hx same
    · exact distinct j k x y hx hy same
  case target =>
    intro j x hx
    rw [Tab.get_set] at hx
    split at hx
    · cases hx; exact target
    · exact targets j x hx
  case fields =>
    intro j x hx
    rw [Tab.get_set] at hx
    split at hx
    · cases hx; exact fields
    · exact allFields j x hx

/-- An entry changed in its place, with its target and frame pending as they were. -/
theorem Linked.change (law : Linked peer sending q tab) {i : ReqIx} {r x : Request} (held : tab.get i = some r)
    (target : x.target = r.target) (pending : x.pending = r.pending) (fields : x.Fields) :
    Linked peer sending q (tab.set i (some x)) := by
  obtain ⟨oneState, oneSilence, ackreqs, sent, distinct, targets, allFields⟩ := law
  have was : ∀ j y, (tab.set i (some x)).get j = some y → ∃ z, tab.get j = some z ∧ y.target = z.target := by
    intro j y hy
    rw [Tab.get_set] at hy
    split at hy
    · rename_i h; cases hy; exact ⟨r, h ▸ held, target⟩
    · exact ⟨y, hy, rfl⟩
  refine ⟨oneState, oneSilence, fun j => ?_, sent, ?_, ?_, ?_⟩
  · rw [ackreqs, Tab.get_set]
    split
    · rename_i h
      rw [← h, held]
      simp only [ackEntries, pending]
    · rfl
  · intro j k y z hy hz same
    obtain ⟨y', hy', ty⟩ := was j y hy
    obtain ⟨z', hz', tz⟩ := was k z hz
    exact distinct j k y' z' hy' hz' (by rw [← ty, ← tz, same])
  · intro j y hy
    obtain ⟨z, hz, ty⟩ := was j y hy
    rw [ty]
    exact targets j z hz
  · intro j y hy
    rw [Tab.get_set] at hy
    split at hy
    · cases hy; exact fields
    · exact allFields j y hy

/-- An entry freed, with its ACKREQ out of the queue. -/
theorem Linked.free (law : Linked peer sending q tab) (i : ReqIx) :
    Linked peer sending (q.filter (fun e => !e.isAckreq i)) (tab.set i none) := by
  obtain ⟨oneState, oneSilence, ackreqs, sent, distinct, targets, allFields⟩ := law
  have sub : (q.filter (fun e => !e.isAckreq i)).Sublist q := List.filter_sublist
  have was : ∀ {j x}, (tab.set i none).get j = some x → tab.get j = some x := by
    intro j x hx
    rw [Tab.get_set] at hx
    split at hx
    · cases hx
    · exact hx
  refine ⟨(sub.countP_le).trans oneState, (sub.countP_le).trans oneSilence, fun j => ?_, (sub.countP_le).trans sent,
    fun j k x y hx hy => distinct j k x y (was hx) (was hy), fun j x hx => targets j x (was hx),
    fun j x hx => allFields j x (was hx)⟩
  rw [List.filter_filter, Tab.get_set]
  split
  · rename_i h
    subst h
    exact List.filter_eq_nil_iff.2 (by simp)
  · rename_i h
    rw [← ackreqs]
    refine List.filter_congr fun e _ => ?_
    cases is : e.isAckreq j
    · rfl
    · rw [eq_of_isAckreq is]
      simp [Ne.symm h]

/-! ### Transmissions (R84, R106, R108, R109) -/

/-- What the start of a transmission makes of the entry whose ACKREQ it sends. -/
def Request.started (r : Request) : Request := { r with pending := .onLine }

/-- What the breaking off of a transmission makes of an entry of the request table: one ON_LINE is QUEUED again
(R84). -/
def Request.brokenOff (r : Request) : Request :=
  if r.pending = .onLine then { r with pending := .queued, sendAgain := false } else r

/-- What the breaking off of a transmission makes of a queue entry: one ON_LINE waits again (R109). -/
def QEntry.brokenOff (e : QEntry) : QEntry := if e.onLine then e.standing false else e

@[simp] theorem brokenOff_keeps (e : QEntry) : e.brokenOff.onLine = false ∧ e.brokenOff.isState = e.isState ∧
    e.brokenOff.isSilence = e.isSilence ∧ ∀ i, e.brokenOff.isAckreq i = e.isAckreq i := by
  rw [QEntry.brokenOff]
  split
  · simp
  · rename_i h; simpa using h

/-- A transmission starts with no frame on the line: the entry picked goes ON_LINE, and with it the request of an
ACKREQ. -/
theorem Linked.start {before after : List QEntry} {e : QEntry} (law : Linked peer false (before ++ e :: after) tab)
    (waits : e.onLine = false) {tab' : Tab 8 (Option Request)}
    (table : ∀ i, tab'.get i = if e.isAckreq i then (tab.get i).map Request.started else tab.get i) :
    Linked peer true (before ++ e.standing true :: after) tab' := by
  obtain ⟨oneState, oneSilence, ackreqs, sent, distinct, targets, allFields⟩ := law
  have was : ∀ {i x}, tab'.get i = some x → ∃ r, tab.get i = some r ∧ x.target = r.target ∧
      (x = r ∨ e.isAckreq i = true ∧ x = r.started) := by
    intro i x hx
    rw [table] at hx
    split at hx
    · rename_i is
      obtain ⟨r, hr, rfl⟩ := Option.map_eq_some_iff.1 hx
      exact ⟨r, hr, rfl, .inr ⟨is, rfl⟩⟩
    · exact ⟨x, hx, rfl, .inl rfl⟩
  have alone : ∀ i, e.isAckreq i = true → before.filter (QEntry.isAckreq i) = [] ∧
      after.filter (QEntry.isAckreq i) = [] ∧ ∃ r, tab.get i = some r ∧ r.pending = .queued := by
    intro i is
    have all := ackreqs i
    rw [List.filter_append, List.filter_cons, if_pos is] at all
    cases held : tab.get i with
    | none => simp [held, ackEntries] at all
    | some r =>
      cases pending : r.pending <;> simp [held, ackEntries, pending, List.append_eq_cons_iff] at all
      · exact ⟨by simpa using all.1, by simpa using all.2.2, r, rfl, pending⟩
      · rw [all.2.1] at waits; cases waits
  refine ⟨?_, ?_, fun i => ?_, ?_, fun i j x y hx hy same => ?_, fun i x hx => ?_, fun i x hx => ?_⟩
  · simpa [List.countP_cons] using oneState
  · simpa [List.countP_cons] using oneSilence
  · by_cases is : e.isAckreq i = true
    · obtain ⟨b, a, r, held, pending⟩ := alone i is
      have e_eq := eq_of_isAckreq is
      rw [List.filter_append, List.filter_cons, b, a, table, if_pos is, held, e_eq]
      simp [ackEntries, Request.started]
    · rw [table, if_neg is, ← ackreqs]
      simp [List.filter_append, is]
  · have none : (before ++ e :: after).countP QEntry.onLine = 0 := by simpa using sent
    simp only [List.countP_append, List.countP_cons, waits, Bool.false_eq_true, if_false] at none
    simp only [List.countP_append, List.countP_cons, standing_onLine, if_true]
    omega
  · obtain ⟨r, hr, tx, -⟩ := was hx
    obtain ⟨z, hz, ty, -⟩ := was hy
    exact distinct i j r z hr hz (by rw [← tx, ← ty, same])
  · obtain ⟨r, hr, tx, -⟩ := was hx
    rw [tx]
    exact targets i r hr
  · obtain ⟨r, hr, -, rfl | ⟨is, rfl⟩⟩ := was hx
    · exact allFields i _ hr
    · obtain ⟨-, -, r', hr', pending⟩ := alone i is
      obtain rfl : r' = r := by simpa [hr] using hr'.symm
      obtain ⟨mask, retries, timer, sendAgain⟩ := allFields i _ hr
      exact ⟨mask, retries, by simpa [Request.started, pending] using timer, fun _ => rfl⟩

/-- The breaking off of a transmission keeps the link, with nothing on the line. -/
theorem Linked.brokenOff (law : Linked peer sending q tab) {tab' : Tab 8 (Option Request)}
    (table : ∀ i, tab'.get i = (tab.get i).map Request.brokenOff) :
    Linked peer false (q.map QEntry.brokenOff) tab' := by
  obtain ⟨oneState, oneSilence, ackreqs, sent, distinct, targets, allFields⟩ := law
  have was : ∀ {i x}, tab'.get i = some x → ∃ r, tab.get i = some r ∧ x.target = r.target ∧ x = r.brokenOff := by
    intro i x hx
    rw [table] at hx
    obtain ⟨r, hr, rfl⟩ := Option.map_eq_some_iff.1 hx
    refine ⟨r, hr, ?_, rfl⟩
    rw [Request.brokenOff]
    split <;> rfl
  have counts : ∀ p : QEntry → Bool, (∀ e, p e.brokenOff = p e) → (q.map QEntry.brokenOff).countP p = q.countP p := by
    intro p same
    rw [List.countP_map]
    exact List.countP_congr fun e _ => by simp [same]
  refine ⟨?_, ?_, fun i => ?_, ?_, fun i j x y hx hy same => ?_, fun i x hx => ?_, fun i x hx => ?_⟩
  · rw [counts _ (by simp)]; exact oneState
  · rw [counts _ (by simp)]; exact oneSilence
  · have filtered : (q.map QEntry.brokenOff).filter (QEntry.isAckreq i) =
        (q.filter (QEntry.isAckreq i)).map QEntry.brokenOff := by
      rw [List.filter_map]
      exact congrArg _ (List.filter_congr fun e _ => by simp)
    rw [filtered, ackreqs, table]
    cases tab.get i with
    | none => rfl
    | some r => cases h : r.pending <;> simp [ackEntries, Request.brokenOff, h, QEntry.brokenOff]
  · rw [List.countP_eq_zero.2 (by simp)]
    omega
  · obtain ⟨r, hr, tx, -⟩ := was hx
    obtain ⟨z, hz, ty, -⟩ := was hy
    exact distinct i j r z hr hz (by rw [← tx, ← ty, same])
  · obtain ⟨r, hr, tx, -⟩ := was hx
    rw [tx]
    exact targets i r hr
  · obtain ⟨r, hr, -, rfl⟩ := was hx
    obtain ⟨mask, retries, timer, sendAgain⟩ := allFields i _ hr
    rw [Request.brokenOff]
    split
    · rename_i h
      exact ⟨mask, retries, by simpa [h] using timer, by simp⟩
    · exact ⟨mask, retries, timer, sendAgain⟩

end

end Machine
end Sys2Proof
end

section
namespace Sys2Proof
namespace Machine

/-! ### The laws of the line, the queue and the request table as one -/

/-- Whether a station is a peer that is PRESENT, which a request's target is (R81). -/
def State.presentPeer (s : State) (st : Station) : Prop :=
  st ≠ s.own ∧ (s.pic.roster.get st).presence = .present

/-- The PRESENT peers are read from Life Control and the roster. -/
theorem State.presentPeer_congr {s t : State} (life : t.life = s.life) (roster : t.pic.roster = s.pic.roster) :
    t.presentPeer = s.presentPeer := by
  unfold State.presentPeer State.own
  rw [life, roster]

/-- The laws of the line, the queue and the request table together: all but that of the quiet start (R128). -/
structure State.TrafficLaw (s : State) : Prop where
  line : s.LineLaw
  linked : Linked s.presentPeer s.line.sending.isSome s.frame.queue s.ann.requests
  active : s.life.life ≠ .active → (∀ e ∈ s.frame.queue, e.isState = true) ∧ ∀ i, s.ann.requests.get i = none
  duplicate : s.life.life = .duplicate → s.frame.queue = []

/-- The laws that stand at the end of every event. -/
structure State.SettledLaw (s : State) : Prop where
  traffic : s.TrafficLaw
  quiet : s.QuietLaw

/-- The queue's law and the table's law give the ACKREQ entries of each place. -/
theorem filter_isAckreq {s : State} (queue : s.QueueLaw) (requests : s.RequestLaw) (i : ReqIx) :
    s.frame.queue.filter (QEntry.isAckreq i) = ackEntries i (s.ann.requests.get i) := by
  have one := queue.ackreq i
  have mem : ∀ e, e ∈ s.frame.queue.filter (QEntry.isAckreq i) ↔ e ∈ s.frame.queue ∧ e.isAckreq i = true :=
    fun e => List.mem_filter
  rw [List.countP_eq_length_filter] at one
  generalize s.frame.queue.filter (QEntry.isAckreq i) = l at one mem
  match l, one with
  | [], _ =>
    have absent : ∀ e ∈ s.frame.queue, e.isAckreq i = true → False := fun e he is => by simpa using (mem e).2 ⟨he, is⟩
    cases held : s.ann.requests.get i with
    | none => rfl
    | some r =>
      cases pending : r.pending with
      | none => simp [ackEntries, pending]
      | queued =>
        obtain ⟨e, he, is, -⟩ := (requests.queued i r held).1 pending
        exact (absent e he is).elim
      | onLine =>
        obtain ⟨e, he, is, -⟩ := (requests.onLine i r held).1 pending
        exact (absent e he is).elim
  | [e], _ =>
    obtain ⟨he, is⟩ := (mem e).1 (by simp)
    obtain ⟨r, held⟩ := Option.isSome_iff_exists.1 (requests.entry i e he is)
    rw [held, eq_of_isAckreq is]
    cases onLine : e.onLine with
    | false => simp [ackEntries, (requests.queued i r held).2 ⟨e, he, is, onLine⟩]
    | true => simp [ackEntries, (requests.onLine i r held).2 ⟨e, he, is, onLine⟩]
  | _ :: _ :: _, one => simp at one

/-- The three laws, put together. -/
theorem trafficLaw_iff (s : State) : s.TrafficLaw ↔ s.LineLaw ∧ s.QueueLaw ∧ s.RequestLaw := by
  constructor
  · rintro ⟨line, linked, active, duplicate⟩
    have count : ∀ i, s.frame.queue.countP (QEntry.isAckreq i) ≤ 1 := fun i => by
      rw [List.countP_eq_length_filter, linked.ackreqs]
      exact length_ackEntries i _
    have stands : ∀ i r, s.ann.requests.get i = some r → ∀ b,
        ((∃ e ∈ s.frame.queue, e.isAckreq i = true ∧ e.onLine = b) ↔ r.pending = if b then .onLine else .queued) := by
      intro i r held b
      constructor
      · rintro ⟨e, he, is, rfl⟩
        rw [linked.mem_iff is, held, eq_of_isAckreq is] at he
        cases pending : r.pending <;> simp [ackEntries, pending] at he <;> simp [he]
      · intro pending
        have is : QEntry.isAckreq i ⟨.ackreq i, b⟩ = true := by simp
        refine ⟨⟨.ackreq i, b⟩, ?_, is, rfl⟩
        rw [linked.mem_iff is, held]
        cases b <;> simp [ackEntries, pending]
    refine ⟨line, ⟨linked.oneState, linked.oneSilence, count, ?_, ?_, ?_, ?_, duplicate⟩, ?_⟩
    · rw [length_queue]
      have sum : ∑ i : ReqIx, s.frame.queue.countP (QEntry.isAckreq i) ≤ ∑ _i : ReqIx, 1 :=
        Finset.sum_le_sum fun i _ => count i
      have one := linked.oneState
      have silence := linked.oneSilence
      simp only [Finset.sum_const, Finset.card_univ, Fintype.card_fin, smul_eq_mul] at sum
      omega
    · exact linked.sent.trans (by split <;> omega)
    · intro e he onLine
      have sent := linked.sent
      by_contra none
      rw [if_neg none] at sent
      have := List.countP_eq_zero.1 (Nat.le_zero.1 sent) e he
      exact this onLine
    · intro e he notState
      by_contra idle
      rw [(active idle).1 e he] at notState
      cases notState
    · constructor
      case active =>
        intro i r held
        by_contra idle
        rw [(active idle).2 i] at held
        cases held
      case distinct => exact linked.distinct
      case target => exact linked.target
      case mask => exact fun i r held => (linked.fields i r held).mask
      case retries => exact fun i r held => (linked.fields i r held).retries
      case timer => exact fun i r held => (linked.fields i r held).timer
      case queued => exact fun i r held => (stands i r held false).symm
      case onLine => exact fun i r held => (stands i r held true).symm
      case entry =>
        intro i e he is
        rw [linked.mem_iff is] at he
        cases held : s.ann.requests.get i with
        | none => simp [held, ackEntries] at he
        | some r => rfl
      case sendAgain => exact fun i r held => (linked.fields i r held).sendAgain
  · rintro ⟨line, queue, requests⟩
    refine ⟨line, ⟨queue.state, queue.silence, filter_isAckreq queue requests, ?_, requests.distinct, requests.target,
      fun i r held => ⟨requests.mask i r held, requests.retries i r held, requests.timer i r held,
        requests.sendAgain i r held⟩⟩, fun idle => ⟨fun e he => ?_, fun i => ?_⟩, queue.duplicate⟩
    · split
      · exact queue.onLine
      · rename_i none
        exact le_of_eq (List.countP_eq_zero.2 fun e he onLine => none (queue.sent e he onLine))
    · by_contra notState
      exact idle (queue.active e he (by simpa using notState))
    · by_contra held
      obtain ⟨r, held⟩ := Option.ne_none_iff_exists'.1 held
      exact idle (requests.active i r held)

/-! ### What keeps the laws -/

/-- The line's law reads the line, the life state and the line-stuck field. -/
theorem State.LineLaw.of_same {s t : State} (law : s.LineLaw) (line : t.line = s.line)
    (life : t.life.life = s.life.life) (stuck : t.life.lineStuck = s.life.lineStuck) : t.LineLaw := by
  obtain ⟨sending, jam, jamLength, slot, lineStuck, rx⟩ := law
  constructor <;> simp only [line, life, stuck] <;> assumption

/-- The line's law of a station that drives nothing, whose line state, slot and reception stand. -/
theorem State.LineLaw.of_silent {s t : State} (law : s.LineLaw) (silent : t.line.sending = none)
    (quiet : t.line.jam = []) (state : t.line.state = s.line.state) (slot : t.line.slot = s.line.slot)
    (rx : t.line.rx = s.line.rx) (stuck : t.life.lineStuck = s.life.lineStuck) : t.LineLaw where
  sending := by simp [silent]
  jam := by simp [quiet]
  jamLength := .inl quiet
  slot := by rw [slot, state]; exact law.slot
  stuck := by rw [stuck, state]; exact law.stuck
  rx := by rw [rx, state]; exact law.rx

/-- A change of the line and of the roster that leaves the frame on the line and the targets PRESENT. -/
theorem State.TrafficLaw.of_targets {s t : State} (law : s.TrafficLaw) (line : t.LineLaw)
    (sending : t.line.sending = s.line.sending) (life : t.life.life = s.life.life) (own : t.own = s.own)
    (queue : t.frame.queue = s.frame.queue) (requests : t.ann.requests = s.ann.requests)
    (present : ∀ i r, s.ann.requests.get i = some r → (s.pic.roster.get r.target).presence = .present →
      (t.pic.roster.get r.target).presence = .present) : t.TrafficLaw where
  line := line
  linked := by
    rw [sending, queue, requests]
    exact law.linked.mono fun i r held ⟨peer, is⟩ => ⟨own ▸ peer, present i r held is⟩
  active := by rw [life, queue, requests]; exact law.active
  duplicate := by rw [life, queue]; exact law.duplicate

/-- A change of the line and of the roster that leaves the frame on the line and the PRESENT stations. -/
theorem State.TrafficLaw.of_line {s t : State} (law : s.TrafficLaw) (line : t.LineLaw)
    (sending : t.line.sending = s.line.sending) (life : t.life.life = s.life.life) (own : t.own = s.own)
    (queue : t.frame.queue = s.frame.queue) (requests : t.ann.requests = s.ann.requests)
    (present : ∀ st, (s.pic.roster.get st).presence = .present → (t.pic.roster.get st).presence = .present) :
    t.TrafficLaw :=
  law.of_targets line sending life own queue requests fun _ _ _ => present _

/-- An event that leaves the line, Life Control, the queue, the request table and the roster. -/
theorem State.TrafficLaw.of_same {s t : State} (law : s.TrafficLaw) (line : t.line = s.line) (life : t.life = s.life)
    (queue : t.frame.queue = s.frame.queue) (requests : t.ann.requests = s.ann.requests)
    (roster : t.pic.roster = s.pic.roster) : t.TrafficLaw :=
  law.of_line (law.line.of_same line (by rw [life]) (by rw [life])) (by rw [line]) (by rw [life])
    (by rw [State.own, life]; rfl) queue requests (by rw [roster]; exact fun _ => id)

/-- A record handed on keeps the laws. -/
theorem State.TrafficLaw.record {s : State} (law : s.TrafficLaw) (b : RecordBody) : (s.record b).TrafficLaw :=
  law.of_same (by simp) (by simp) (by simp) (by simp) (by simp)

/-- The count reached at a timer's expiry keeps the laws. -/
theorem State.TrafficLaw.reachTime {s : State} (law : s.TrafficLaw) (due : Ms) : (s.reachTime due).TrafficLaw :=
  law.of_same (by simp) (by simp) (by simp) (by simp) (by simp)

/-- The law of the quiet start reads the life state, the line state and the queue. -/
theorem State.QuietLaw.of_same {s t : State} (law : s.QuietLaw) (line : t.line.state = s.line.state)
    (life : t.life.life = s.life.life) (queue : t.frame.queue = s.frame.queue) : t.QuietLaw := by
  unfold State.QuietLaw
  rw [line, life, queue]
  exact law

/-- The law of the quiet start outside QUIET. -/
theorem quietLaw_of_not_quiet {s : State} (state : s.line.state ≠ .quiet) : s.QuietLaw :=
  fun _ quiet => absurd quiet state

/-- An event that leaves the line, Life Control, the queue, the request table and the roster keeps all the laws. -/
theorem State.SettledLaw.of_same {s t : State} (law : s.SettledLaw) (line : t.line = s.line) (life : t.life = s.life)
    (queue : t.frame.queue = s.frame.queue) (requests : t.ann.requests = s.ann.requests)
    (roster : t.pic.roster = s.pic.roster) : t.SettledLaw :=
  ⟨law.traffic.of_same line life queue requests roster,
    law.quiet.of_same (by rw [line]) (by rw [life]) queue⟩

/-- The recomputing of the outputs keeps all the laws. -/
theorem State.SettledLaw.driveOutputs {s : State} (law : s.SettledLaw) : s.driveOutputs.SettledLaw :=
  law.of_same rfl rfl rfl rfl rfl

/-- A station with every part of its traffic at reset (R81, R114, R118). -/
theorem settledLaw_of_reset {s : State} (line : s.line = .reset) (life : s.life.life ≠ .active)
    (stuck : s.life.lineStuck = false) (queue : s.frame.queue = []) (requests : s.ann.requests = .fill 8 none) :
    s.SettledLaw := by
  have empty : ∀ i, s.ann.requests.get i = none := by simp [requests]
  refine ⟨⟨?_, ?_, fun _ => ⟨by simp [queue], empty⟩, fun _ => queue⟩, fun active => absurd active life⟩
  · constructor <;> simp [line, stuck, LineUnit.reset]
  · rw [queue]
    exact linked_nil _ _ empty

/-! ### Requests for frames -/

/-- An urgent STATE request keeps the laws (R104). -/
theorem State.TrafficLaw.requestUrgent {s : State} (law : s.TrafficLaw) : s.requestUrgent.TrafficLaw := by
  unfold State.requestUrgent
  split
  · rename_i queues
    refine ⟨law.line.of_same rfl rfl rfl, law.linked.urgentRequest, fun idle => ⟨?_, (law.active idle).2⟩,
      fun duplicate => ?_⟩
    · have others := (urgentRequest_effect law.linked.oneState).1
      have none : s.frame.queue.filter (fun e => !e.isState) = [] :=
        List.filter_eq_nil_iff.2 (by simpa using (law.active idle).1)
      simpa [none] using others
    · rw [State.onFrame_life] at duplicate
      rw [duplicate] at queues
      cases queues
  · exact law

/-- An event that leaves the line, Life Control, the request table and the roster, and asks for an urgent STATE or
leaves the queue. -/
theorem State.TrafficLaw.of_urgent {s t : State} (law : s.TrafficLaw)
    (queue : t.frame.queue = s.frame.queue ∨ t.frame.queue = s.requestUrgent.frame.queue) (line : t.line = s.line)
    (life : t.life = s.life) (requests : t.ann.requests = s.ann.requests) (roster : t.pic.roster = s.pic.roster) :
    t.TrafficLaw := by
  rcases queue with same | asked
  · exact law.of_same line life same requests roster
  · exact law.requestUrgent.of_same (by simpa using line) (by simpa using life) asked (by simpa using requests)
      (by simpa using roster)

/-- A routine STATE request in ACTIVE keeps the laws (R104, R113). -/
theorem State.TrafficLaw.requestRoutine {s : State} (law : s.TrafficLaw) (active : s.life.life = .active) :
    s.requestRoutine.TrafficLaw := by
  unfold State.requestRoutine
  split
  · exact ⟨law.line.of_same rfl rfl rfl, law.linked.routineRequest, fun idle => absurd active idle,
      fun duplicate => by rw [State.onFrame_life, active] at duplicate; cases duplicate⟩
  · exact law

/-- A SILENCE press keeps the laws: its frame is asked for in ACTIVE alone (R93). -/
theorem State.TrafficLaw.silencePress {s : State} (law : s.TrafficLaw) : s.silencePress.TrafficLaw := by
  simp only [State.silencePress]
  split
  · rename_i active
    exact ⟨law.line.of_same rfl rfl rfl, law.linked.silenceRequest _, fun idle => absurd active idle,
      fun duplicate => by
        have : s.life.life = .duplicate := duplicate
        rw [active] at this
        cases this⟩
  · exact law.of_same rfl rfl rfl rfl rfl

/-- A change of an own condition's annunciation state keeps the laws (R68). -/
theorem State.TrafficLaw.annChange {s : State} (law : s.TrafficLaw) (c : CondIx) (new : AnnState) :
    (s.annChange c new).TrafficLaw := by
  refine law.of_urgent (.inr ?_) (by simp) (by simp) (by simp) (by simp)
  rw [(annChange_effect s c new).2.2.1, State.requestUrgent_frame]

/-- An acknowledgement keeps the laws. -/
theorem State.TrafficLaw.applyAck {s : State} (law : s.TrafficLaw) (c : CondIx) (a : AckPair) :
    (s.applyAck c a).TrafficLaw := by
  rcases applyAck_cases s c a with ⟨applied, -⟩ | ⟨new, -, applied, -⟩ <;> rw [applied]
  · exact law
  · exact law.annChange c new

/-- An edge taken keeps the laws. -/
theorem State.TrafficLaw.takeEdge {s : State} (law : s.TrafficLaw) (c : CondIx) : (s.takeEdge c).TrafficLaw := by
  cases found : s.ann.edges.find? (fun x => x.cond == c) with
  | none =>
    have same : s.takeEdge c = s := by simp only [State.takeEdge, found]
    rwa [same]
  | some e =>
    have taken : (s.edgeTaken c e.rising).TrafficLaw := law.of_same rfl rfl rfl rfl rfl
    rw [takeEdge_found found]
    split
    · exact taken
    · exact taken.annChange c _

/-- An edge of truth made keeps the laws (R52). -/
theorem State.TrafficLaw.truthEdge {s : State} (law : s.TrafficLaw) (c : CondIx) (rising : Bool) :
    (s.truthEdge c rising).TrafficLaw := by
  obtain ⟨-, -, -, -, -, frame, -⟩ := truthEdge_effect s c rising
  exact law.of_urgent (.inr (by rw [frame, State.requestUrgent_frame])) (by simp) (by simp) (by simp) (by simp)

/-- An evaluation keeps the laws (R45, R52). -/
theorem State.TrafficLaw.evaluate {s : State} (law : s.TrafficLaw) (c : CondIx) : (s.evaluate c).TrafficLaw := by
  have setRun : ∀ r, (s.setRun c r).TrafficLaw := fun r => law.of_same rfl rfl rfl rfl rfl
  simp only [State.evaluate]
  split
  · unfold State.moveRaw
    dsimp only
    split
    · split
      · exact (setRun _).truthEdge c true
      · exact setRun _
    · exact setRun _
    · split
      · exact (setRun _).truthEdge c false
      · exact setRun _
    all_goals exact setRun _
  · exact law

/-- Own points written keep the laws (R26, R29). -/
theorem State.TrafficLaw.writeOwnPoints {s : State} (law : s.TrafficLaw) {l : List (PointIx × PointEntry)}
    (distinct : (l.map Prod.fst).Nodup) : (s.writeOwnPoints l).TrafficLaw := by
  obtain ⟨-, -, -, frame, -⟩ := writeOwnPoints_effect s l distinct
  exact law.of_urgent (.inr (by rw [frame, State.requestUrgent_frame])) (by simp) (by simp) (by simp) (by simp)

/-! ### Requests in the table -/

/-- A new request meets what holds of each by itself (R82). -/
theorem Request.new_fields {mask : BitVec 8} (asked : mask ≠ 0) (target : Station) (pairs : Tab 8 AckPair) :
    (Request.new target mask pairs).Fields :=
  ⟨asked, by simp [Request.new], by simp [Request.new], by simp [Request.new]⟩

/-- A merged request meets what holds of each by itself (R83, Table 5-3). -/
theorem Request.Fields.merge {r : Request} (fields : r.Fields) (mask : BitVec 8) (pairs : Tab 8 AckPair) :
    (r.merge mask pairs).Fields := by
  obtain ⟨some, retries, timer, sendAgain⟩ := fields
  refine ⟨?_, le_refl _, ?_, ?_⟩
  · intro zero
    refine some (BitVec.eq_of_getLsbD_eq fun k hk => ?_)
    have bit := congrArg (fun m : BitVec 8 => m.getLsbD k) zero
    simp only [Request.merge, BitVec.getLsbD_or] at bit
    simpa using (Bool.or_eq_false_iff.1 (bit.trans (by simp))).1
  · cases pending : r.pending
    case none => simp [Request.merge, pending]
    all_goals simpa [Request.merge, pending] using timer
  · cases pending : r.pending
    case onLine => simp [Request.merge, pending]
    all_goals simpa [Request.merge, pending] using sendAgain

/-- A request handed to the table for a target that has an entry is merged into it (R83). -/
theorem handRequest_of_entry {s : State} {target : Station} {i : ReqIx} {r : Request}
    (found : s.requestFor target = some i) (entry : s.ann.requests.get i = some r) (mask : BitVec 8)
    (pairs : Tab 8 AckPair) : s.handRequest target mask pairs =
      if r.pending = .none then (s.setRequest i (some (r.merge mask pairs))).queueAckreq i
      else s.setRequest i (some (r.merge mask pairs)) := by
  simp only [State.handRequest, found, entry]
  cases r.pending <;> rfl

/-- A request for a target without an entry takes the lowest free place (R82). -/
theorem handRequest_of_free {s : State} {target : Station} {i : ReqIx} (absent : s.requestFor target = none)
    (free : s.freePlace = some i) (mask : BitVec 8) (pairs : Tab 8 AckPair) :
    s.handRequest target mask pairs = (s.setRequest i (some (.new target mask pairs))).queueAckreq i := by
  simp only [State.handRequest, absent, free]

/-- A request for a target without an entry is refused where no place is free (R82). -/
theorem handRequest_of_full {s : State} {target : Station} (absent : s.requestFor target = none)
    (full : s.freePlace = none) (mask : BitVec 8) (pairs : Tab 8 AckPair) :
    s.handRequest target mask pairs = s.record (.ackRefused target mask) := by
  simp only [State.handRequest, absent, full]

/-- A request handed to the table in ACTIVE for a PRESENT peer keeps the laws (R82, R83). -/
theorem State.TrafficLaw.handRequest {s : State} (law : s.TrafficLaw) (active : s.life.life = .active)
    {target : Station} (peer : s.presentPeer target) {mask : BitVec 8} (asked : mask ≠ 0) (pairs : Tab 8 AckPair) :
    (s.handRequest target mask pairs).TrafficLaw := by
  have built : ∀ {t : State}, t.line = s.line → t.life = s.life → t.pic.roster = s.pic.roster →
      Linked s.presentPeer s.line.sending.isSome t.frame.queue t.ann.requests → t.TrafficLaw := by
    intro t line life roster linked
    have same := State.presentPeer_congr life roster
    exact ⟨law.line.of_same line (by rw [life]) (by rw [life]), by rw [same, line]; exact linked,
      fun idle => absurd (life ▸ active) idle, fun duplicate => by rw [life, active] at duplicate; cases duplicate⟩
  refine built (by simp) (by simp) (by simp) ?_
  cases found : s.requestFor target with
  | some i =>
    obtain ⟨r, held, rfl⟩ := s.requestFor_some found
    have merged := (law.linked.fields i r held).merge mask pairs
    rw [handRequest_of_entry found held]
    have pendings : (r.merge mask pairs).pending = match r.pending with
      | .none => .queued
      | .queued => .queued
      | .onLine => .onLine := rfl
    cases pending : r.pending with
    | none =>
      refine law.linked.queue (by simp [held, ackEntries, pending]) (by rw [pendings, pending]) merged peer ?_
      exact fun j x hx same => law.linked.distinct j i x r hx held same
    | queued => exact law.linked.change held rfl (by rw [pendings, pending]) merged
    | onLine => exact law.linked.change held rfl (by rw [pendings, pending]) merged
  | none =>
    cases free : s.freePlace with
    | some i =>
      have none := ((freePlace_iff s i).1 free).1
      rw [handRequest_of_free found free]
      refine law.linked.queue (by simp [none, ackEntries]) rfl (Request.new_fields asked target pairs) peer ?_
      exact fun j x hx same => absurd same ((requestFor_eq_none_iff s target).1 found j x hx)
    | none => simpa [handRequest_of_full found free] using law.linked

/-- An entry freed keeps the laws (R110). -/
theorem State.TrafficLaw.freeRequest {s : State} (law : s.TrafficLaw) (i : ReqIx) : (s.freeRequest i).TrafficLaw := by
  obtain ⟨ann, frame⟩ := State.freeRequest_effect i s
  have queue : (s.freeRequest i).frame.queue = s.frame.queue.filter (fun e => !e.isAckreq i) := by rw [frame]
  refine ⟨law.line.of_same rfl rfl rfl, law.linked.free i, fun idle => ?_, fun duplicate => ?_⟩
  · obtain ⟨states, empty⟩ := law.active idle
    refine ⟨fun e he => states e (List.mem_of_mem_filter (queue ▸ he)), fun j => ?_⟩
    rw [ann, Tab.get_set]
    split
    · rfl
    · exact empty j
  · rw [queue, law.duplicate duplicate]
    rfl

/-- An entry failed keeps the laws. -/
theorem State.TrafficLaw.failRequest {s : State} (law : s.TrafficLaw) (i : ReqIx) : (s.failRequest i).TrafficLaw := by
  unfold State.failRequest
  split
  · exact law
  · exact (law.record _).freeRequest i

/-- A target failed keeps the laws, and no entry asks it any more (R87). -/
theorem State.TrafficLaw.failTarget {s : State} (law : s.TrafficLaw) (st : Station) : (s.failTarget st).TrafficLaw ∧
    ∀ i r, (s.failTarget st).ann.requests.get i = some r → r.target ≠ st := by
  cases found : s.requestFor st with
  | none =>
    rw [State.failTarget_of_none found]
    exact ⟨law, (requestFor_eq_none_iff s st).1 found⟩
  | some i =>
    obtain ⟨r, held, target⟩ := s.requestFor_some found
    rw [State.failTarget_of_some found held]
    refine ⟨(law.record _).freeRequest i, fun j x hx same => ?_⟩
    rw [(State.freeRequest_effect i _).1] at hx
    simp only [State.record_keeps, Tab.get_set] at hx
    split at hx
    · cases hx
    · rename_i apart
      exact apart (law.linked.distinct i j r x held hx (target.trans same.symm))

/-- A STATE taken resolves its origin's request and keeps the laws (R86). -/
theorem State.TrafficLaw.resolveRequest {s : State} (law : s.TrafficLaw) (origin : Station) (first : Bool) :
    (s.resolveRequest origin first).TrafficLaw := by
  cases found : s.requestFor origin with
  | none => rwa [resolveRequest_of_none first found]
  | some i =>
    obtain ⟨r, held, -⟩ := s.requestFor_some found
    rw [resolveRequest_of_some first found held]
    split
    · exact law.freeRequest i
    · rename_i left
      obtain ⟨-, retries, timer, sendAgain⟩ := law.linked.fields i r held
      have linked := law.linked.change (x := { r with mask := stillAsked r first (s.condEntry origin) }) held rfl rfl
        ⟨left, retries, timer, sendAgain⟩
      refine ⟨law.line.of_same rfl rfl rfl, linked, fun idle => ?_, law.duplicate⟩
      have none := (law.active idle).2 i
      rw [held] at none
      cases none

/-! ### Transmissions -/

/-- The station sends no frame outside TRANSMITTING. -/
theorem State.TrafficLaw.sending_eq_none {s : State} (law : s.TrafficLaw) (state : s.line.state ≠ .transmitting) :
    s.line.sending = none := by
  by_contra sends
  exact state (law.line.sending (by simpa [Option.isSome_iff_ne_none] using sends)).2

/-- The station drives no jam outside JAMMING. -/
theorem State.LineLaw.jam_eq_nil {s : State} (law : s.LineLaw) (state : s.line.state ≠ .jamming) : s.line.jam = [] := by
  by_contra jams
  exact state (law.jam jams).2

/-- With no entry WAITING nothing starts (R106). -/
theorem startTransmission_of_none_waits {s : State} (none : ∀ e ∈ s.frame.queue, e.onLine = true) :
    s.startTransmission = s := by
  have nothing : pick s.frame.queue = .none := by
    rw [pick, List.find?_eq_none]
    intro e he
    unfold pickTest
    split <;> simp [QEntry.waitsUrgent, QEntry.waits, none e he]
  simp only [State.startTransmission, nothing]

/-- A transmission that starts in QUIET or WINDOW keeps the laws (R84, R106, R130). -/
theorem State.TrafficLaw.startTransmission {s : State} (law : s.TrafficLaw) (active : s.life.life = .active)
    (state : s.line.state = .quiet ∨ s.line.state = .window) : s.startTransmission.TrafficLaw := by
  by_cases waits : ∃ e ∈ s.frame.queue, e.onLine = false
  · obtain ⟨before, e, after, split, wait, -, frame, line, started, other, only⟩ := startTransmission_starts s waits
    have silent : s.line.sending = none := law.sending_eq_none (by rcases state with h | h <;> simp [h])
    have jam : s.line.jam = [] := law.line.jam_eq_nil (by rcases state with h | h <;> simp [h])
    have stuck : s.life.lineStuck = false := by
      have := law.line.stuck
      rcases state with h | h <;> simpa [h] using this
    obtain ⟨t, ht⟩ : ∃ t, t = s.startTransmission := ⟨_, rfl⟩
    rw [← ht] at frame line started other only ⊢
    have life : t.life = s.life := only .life (by simp)
    have pic : t.pic = s.pic := only .pic (by simp)
    have table : ∀ i, t.ann.requests.get i =
        if e.isAckreq i then (s.ann.requests.get i).map Request.started else s.ann.requests.get i := by
      intro i
      by_cases is : e.isAckreq i = true
      · have kind : e.kind = .ackreq i := by rw [eq_of_isAckreq is]
        rw [if_pos is]
        cases held : s.ann.requests.get i with
        | none =>
          rw [other (fun j hj => by rw [kind] at hj; cases hj; exact held), held]
          rfl
        | some r =>
          rw [started i r kind held]
          simp [Request.started]
      · rw [if_neg is]
        by_cases ack : ∃ j r, e.kind = .ackreq j ∧ s.ann.requests.get j = some r
        · obtain ⟨j, r, kind, held⟩ := ack
          have apart : j ≠ i := by
            rintro rfl
            exact is (by simp [QEntry.isAckreq, kind])
          rw [started j r kind held]
          simp [Tab.get_set_other, apart]
        · rw [other fun j kind => by
            by_contra held
            obtain ⟨r, held⟩ := Option.ne_none_iff_exists'.1 held
            exact ack ⟨j, r, kind, held⟩]
    have linked := law.linked
    rw [silent, split] at linked
    have peers : t.presentPeer = s.presentPeer := State.presentPeer_congr life (by rw [pic])
    refine ⟨?_, ?_, fun idle => absurd (life ▸ active) idle, fun duplicate => ?_⟩
    · constructor <;> simp [line, life, active, jam, stuck]
    · rw [peers, frame, line]
      exact linked.start wait table
    · rw [life, active] at duplicate
      cases duplicate
  · rwa [startTransmission_of_none_waits (by simpa using waits)]

/-- The quiet start keeps the laws and meets its own (R128). -/
theorem State.TrafficLaw.quietStart {s : State} (law : s.TrafficLaw) : s.quietStart.SettledLaw := by
  unfold State.quietStart
  split
  · rename_i starts
    refine ⟨law.startTransmission starts.1 (.inl starts.2), fun active quiet e he => ?_⟩
    by_contra waits
    by_cases some : ∃ e ∈ s.frame.queue, e.onLine = false
    · obtain ⟨_, _, _, _, _, _, _, line, _⟩ := startTransmission_starts s some
      rw [line] at quiet
      cases quiet
    · rw [startTransmission_of_none_waits (by simpa using some)] at he
      exact some ⟨e, he, by simpa using waits⟩
  · rename_i starts
    exact ⟨law, fun active quiet => absurd ⟨active, quiet⟩ starts⟩

/-- The end of an event keeps the laws, and the quiet start's stands after it. -/
theorem State.TrafficLaw.settle {s : State} (law : s.TrafficLaw) : s.settle.SettledLaw :=
  law.quietStart.of_same (by simp [State.settle]) (by simp [State.settle]) (by simp [State.settle])
    (by simp [State.settle]) (by simp [State.settle])

end Machine
end Sys2Proof
end

section
namespace Sys2Proof
namespace Machine

/-! ### Units that agree in all but one field -/

/-- An Annunciation Unit that agrees in all but the request table differs in that alone. -/
theorem AnnUnit.eq_with_requests {u v : AnnUnit} (seqTruth : u.seqTruth = v.seqTruth) (edges : u.edges = v.edges)
    (clears : u.clears = v.clears) (attention : u.attention = v.attention) : u = { v with requests := u.requests } := by
  cases u; cases v; simp_all

/-- A Frame Unit that agrees in all but the queue differs in that alone. -/
theorem FrameUnit.eq_with_queue {u v : FrameUnit} (nextSeq : u.nextSeq = v.nextSeq) (first : u.first = v.first)
    (refresh : u.refresh = v.refresh) (discarded : u.discarded = v.discarded) : u = { v with queue := u.queue } := by
  cases u; cases v; simp_all

/-! ### Every request failed (R88) -/

/-- The ACK_FAILED record of a target's entry, if there is one (R87). -/
def State.ackFailureOf (s : State) (st : Station) : Option RecordBody :=
  (s.requestFor st).bind (fun i => (s.ann.requests.get i).map (fun r => .ackFailed st r.mask))

/-- At most one entry of the request table per target (R81). -/
def State.distinctTargets (s : State) : Prop :=
  ∀ i j r x, s.ann.requests.get i = some r → s.ann.requests.get j = some x → r.target = x.target → i = j

/-- The requests of some targets failed one after the other. -/
def State.failTargets (l : List Station) (s : State) : State := l.foldl (fun t st => t.failTarget st) s

/-- Every request failed is the requests of all stations failed. -/
theorem failAll_eq (s : State) : s.failAll = s.failTargets (indices 32) := by
  rw [State.failAll, State.failTargets]

/-- A target's request failed leaves the others, with its record alone. -/
theorem failTarget_effect {s : State} (distinct : s.distinctTargets) (st : Station) :
    (∀ i, (s.failTarget st).ann.requests.get i = (s.ann.requests.get i).filter (fun r => r.target ≠ st)) ∧
      s.hands (s.failTarget st) (s.ackFailureOf st).toList := by
  cases found : s.requestFor st with
  | none =>
    have others := (requestFor_eq_none_iff s st).1 found
    rw [State.failTarget_of_none found, State.ackFailureOf, found]
    refine ⟨fun i => ?_, s.hands_nil rfl⟩
    cases held : s.ann.requests.get i with
    | none => rfl
    | some r => simp [Option.filter, others i r held]
  | some i =>
    obtain ⟨r, held, target⟩ := s.requestFor_some found
    rw [State.failTarget_of_some found held, State.ackFailureOf, found]
    refine ⟨fun j => ?_, ?_⟩
    · simp only [State.freeRequest_effect, State.record_keeps, Tab.get_set]
      split
      · rename_i same
        rw [← same, held]
        simp [Option.filter, target]
      · rename_i apart
        cases held' : s.ann.requests.get j with
        | none => rfl
        | some x =>
          have other : x.target ≠ st := fun is => apart (distinct i j r x held held' (target.trans is.symm))
          simp [Option.filter, other]
    · have handed := s.hands_record (.ackFailed st r.mask)
      exact State.hands_of_journal (by simpa [held, State.scopePasses] using handed) (by simp) (by simp) (by simp)

/-- The requests of some targets failed: their entries are free, with their records in the targets' order. -/
theorem failTargets_effect {l : List Station} (unlike : l.Nodup) {s : State} (distinct : s.distinctTargets) :
    (∀ i, (s.failTargets l).ann.requests.get i = (s.ann.requests.get i).filter (fun r => r.target ∉ l)) ∧
      s.hands (s.failTargets l) (l.filterMap s.ackFailureOf) := by
  induction l generalizing s with
  | nil =>
    refine ⟨fun i => ?_, s.hands_nil rfl⟩
    cases held : s.ann.requests.get i <;> simp [State.failTargets, held, Option.filter]
  | cons st l ih =>
    obtain ⟨notIn, unlike⟩ := List.nodup_cons.1 unlike
    obtain ⟨left, handed⟩ := failTarget_effect distinct st
    obtain ⟨t, ht⟩ : ∃ t, t = s.failTarget st := ⟨_, rfl⟩
    have failed : s.failTargets (st :: l) = t.failTargets l := by rw [ht]; rfl
    have clock : t.clock = s.clock ∧ t.settings = s.settings := by simp [ht]
    rw [← ht] at left handed
    have held_iff : ∀ i r, t.ann.requests.get i = some r ↔ s.ann.requests.get i = some r ∧ r.target ≠ st := by
      intro i r
      rw [left]
      cases s.ann.requests.get i with
      | none => simp
      | some x =>
        simp only [Option.filter_some, Option.some.injEq, decide_eq_true_eq]
        by_cases other : x.target = st
        · simp only [other, ne_eq, not_true, if_false, reduceCtorEq, false_iff, not_and, not_not]
          rintro rfl
          exact other
        · simp only [other, ne_eq, not_false_eq_true, if_true, Option.some.injEq]
          exact ⟨fun is => ⟨is, is ▸ other⟩, fun is => is.1⟩
    have distinct' : t.distinctTargets := fun i j r x hr hx =>
      distinct i j r x ((held_iff i r).1 hr).1 ((held_iff j x).1 hx).1
    have later : ∀ x ∈ l, t.ackFailureOf x = s.ackFailureOf x := by
      intro x hx
      have apart : x ≠ st := fun is => notIn (is ▸ hx)
      have found : t.requestFor x = s.requestFor x := by
        refine Option.ext fun i => ?_
        rw [requestFor_iff, requestFor_iff]
        refine and_congr (exists_congr fun r => ?_) (forall₂_congr fun j _ => forall_congr' fun r => ?_)
        · rw [held_iff, and_assoc, and_congr_right_iff]
          exact fun _ => and_iff_right_of_imp fun target => target ▸ apart
        · rw [held_iff]
          constructor
          · exact fun other held target => other ⟨held, target ▸ apart⟩ target
          · exact fun other held => other held.1
      rw [State.ackFailureOf, State.ackFailureOf, found]
      cases some : s.requestFor x with
      | none => rfl
      | some i =>
        obtain ⟨r, held, target⟩ := s.requestFor_some some
        simp only [Option.bind_some, held, (held_iff i r).2 ⟨held, target ▸ apart⟩]
    obtain ⟨rest, records⟩ := ih unlike distinct'
    rw [failed]
    refine ⟨fun i => ?_, ?_⟩
    · rw [rest, left]
      cases s.ann.requests.get i with
      | none => rfl
      | some r => by_cases is : r.target = st <;> simp [Option.filter, is]
    · have all := State.hands_append handed records
        (foldl_keeps (fun t : State => t.clock) (fun t x => by simp) _ _)
        (congrArg Settings.attnEnabled (foldl_keeps (fun t : State => t.settings) (fun t x => by simp) _ _))
      rw [List.filterMap_congr later] at all
      rw [List.filterMap_cons]
      cases record : s.ackFailureOf st with
      | none => simpa [record] using all
      | some b => simpa [record] using all

/-- Every request failed: the table is empty, with the ACK_FAILED records in ascending order of target (R88). -/
theorem failAll_effect {s : State} (distinct : s.distinctTargets) :
    s.failAll.ann = { s.ann with requests := .fill 8 none } ∧ s.hands s.failAll s.ackFailures := by
  obtain ⟨left, handed⟩ := failTargets_effect (indices_nodup 32) distinct
  rw [← failAll_eq] at left handed
  have requests : s.failAll.ann.requests = .fill 8 none := Tab.ext fun i => by
    have := left i
    cases held : s.ann.requests.get i <;> simpa [held, Option.filter] using this
  refine ⟨?_, handed⟩
  rw [← requests]
  exact AnnUnit.eq_with_requests (by simp) (by simp) (by simp) (by simp)

/-- An entry that is no ACKREQ. -/
def QEntry.stays (e : QEntry) : Bool := e.isState || e.isSilence

/-- Every request failed: the ACKREQ entries leave the queue, and no other entry does (R88, R110). -/
theorem failAll_queue {s : State} (distinct : s.distinctTargets)
    (entry : ∀ i e, e ∈ s.frame.queue → e.isAckreq i = true → (s.ann.requests.get i).isSome = true) :
    s.failAll.frame.queue = s.frame.queue.filter QEntry.stays := by
  have freed : ∀ (t : State) (i : ReqIx), (t.frame.queue.filter (fun e => !e.isAckreq i)).filter QEntry.stays =
      t.frame.queue.filter QEntry.stays := by
    intro t i
    rw [List.filter_filter]
    refine List.filter_congr ?_
    rintro ⟨kind, onLine⟩ -
    cases kind <;> simp [QEntry.stays]
  have all : ∀ l : List Station, (s.failTargets l).frame.queue.filter QEntry.stays =
      s.frame.queue.filter QEntry.stays ∧ ∀ i e, e ∈ (s.failTargets l).frame.queue → e.isAckreq i = true →
        ((s.failTargets l).ann.requests.get i).isSome = true := by
    intro l
    refine List.foldlRecOn (motive := fun t : State => t.frame.queue.filter QEntry.stays =
      s.frame.queue.filter QEntry.stays ∧
      ∀ i e, e ∈ t.frame.queue → e.isAckreq i = true → (t.ann.requests.get i).isSome = true)
      l (fun t st => t.failTarget st) ⟨rfl, entry⟩ ?_
    rintro t ⟨stay, entries⟩ st -
    cases found : t.requestFor st with
    | none => rw [State.failTarget_of_none found]; exact ⟨stay, entries⟩
    | some i =>
      obtain ⟨r, held, -⟩ := t.requestFor_some found
      rw [State.failTarget_of_some found held]
      simp only [State.freeRequest_effect, State.record_keeps]
      refine ⟨(freed t i).trans stay, fun j e he is => ?_⟩
      obtain ⟨he, out⟩ := List.mem_filter.1 he
      have apart : i ≠ j := by
        rintro rfl
        simp [is] at out
      rw [Tab.get_set_other _ _ apart]
      exact entries j e he is
  obtain ⟨stay, entries⟩ := all (indices 32)
  rw [← failAll_eq] at stay entries
  have empty : s.failAll.ann.requests = .fill 8 none := by rw [(failAll_effect distinct).1]
  rw [← stay]
  refine (List.filter_eq_self.2 fun e he => ?_).symm
  by_contra goes
  simp only [QEntry.stays, Bool.not_eq_true, Bool.or_eq_false_iff] at goes
  obtain ⟨i, is⟩ := exists_isAckreq goes.1 goes.2
  have held := entries i e he is
  simp [empty] at held

/-! ### A frame that bears the own number (R101, R148, R149) -/

/-- A frame that bears the own number makes a duplicate notice (R101). -/
theorem receiveFrame_of_own {s : State} {bytes : List Byte} (own : frameOrigin bytes = s.own) : s.receiveFrame bytes =
    (if (decodeFrame bytes).isNone then s.raiseDiscarded else s).duplicateNotice := by
  unfold State.receiveFrame
  split <;> exact if_pos (by simpa [State.own] using own)

/-- Entry to DUPLICATE from a station that drives nothing (R114, R149). -/
theorem enterDuplicate_effect {s : State} (distinct : s.distinctTargets) (silent : s.line.state = .window) :
    let u := s.enterDuplicate
    u.life = { s.life with life := .duplicate, listen := none, sfault := true } ∧
      u.frame = { s.frame with queue := [], refresh := none } ∧ u.ann = { s.ann with requests := .fill 8 none } ∧
      s.hands u (.duplicate s.own :: s.ackFailures) ∧ u.line = s.line ∧
      s.changesOnly [.life, .frame, .ann, .journal] u := by
  intro u
  obtain ⟨m, hm⟩ : ∃ m, m = s.record (.duplicate s.own) := ⟨_, rfl⟩
  have requests : m.ann = s.ann := by simp [hm]
  have same : m.clock = s.clock ∧ m.settings = s.settings ∧ m.life = s.life ∧ m.frame = s.frame := by simp [hm]
  obtain ⟨clock, settings, life, frame⟩ := same
  obtain ⟨ann, handed⟩ := failAll_effect (s := m) (by unfold State.distinctTargets; rw [requests]; exact distinct)
  have failures : m.ackFailures = s.ackFailures := by
    simp only [State.ackFailures, State.requestFor, requests]
  have first : s.hands m [.duplicate s.own] := by
    rw [hm]
    simpa [State.scopePasses] using s.hands_record (.duplicate s.own)
  have entered : u = (m.failAll.onFrame (fun f => { f with queue := [], refresh := none })).setLife
      (fun l => { l with life := .duplicate, listen := none }) := by
    have stays : s.stopDriving = s := by simp only [State.stopDriving, silent]
    simp only [u, State.enterDuplicate, stays, hm]
  refine ⟨?_, ?_, ?_, ?_, by simp [u, State.enterDuplicate, State.stopDriving, silent], ?_⟩
  · simp [entered, life, LifeControl.driveSfault]
  · simp [entered, frame]
  · simp [entered, ann, requests]
  · have all := State.hands_append first handed (by simp) (by simp)
    rw [failures] at all
    exact State.hands_of_journal all (by simp [entered]) (by simp [entered]) (by simp [entered])
  · intro b hb
    cases b <;> simp at hb <;> simp [Block.same, entered, hm]

/-- Settles O36: the notice finds the station after its line went to WINDOW, so that it drives nothing. -/
theorem duplicateFrameHaltsTheStation : Obligations.DuplicateFrameHaltsTheStation := by
  intro levels bytes s hears own law
  obtain ⟨m, hm⟩ : ∃ m, m =
      if (decodeFrame bytes).isNone then (s.atFrameEnd bytes).raiseDiscarded else s.atFrameEnd bytes := ⟨_, rfl⟩
  have keeps : m.life = s.life ∧ m.ann = s.ann ∧ m.journal = s.journal ∧ m.settings = s.settings ∧
      m.clock = s.clock ∧ m.line = (s.atFrameEnd bytes).line ∧
      m.frame = { s.frame with discarded := m.frame.discarded } ∧ s.changesOnly [.frame, .line] m := by
    rw [hm]
    refine ⟨?_, ?_, ?_, ?_, ?_, ?_, ?_, fun b hb => ?_⟩
    iterate 6 · split <;> simp
    · split
      · rfl
      · simp
    · split <;> cases b <;> simp at hb <;> simp [Block.same]
  obtain ⟨life, ann, journal, settings, clock, line, frame, only⟩ := keeps
  have taken : (s.atFrameEnd bytes).receiveFrame bytes = m.duplicateNotice := by
    rw [hm]
    exact receiveFrame_of_own (by simpa [State.own] using own)
  refine ⟨m.duplicateNotice, by rw [exec_frameEnd_of_hears hears, taken], fun acts => ?_, fun dropped => ?_⟩
  · have entered : m.duplicateNotice = m.enterDuplicate := by
      rcases acts with h | h <;> simp only [State.duplicateNotice, life, h]
    obtain ⟨uLife, uFrame, uAnn, handed, uLine, uOnly⟩ := enterDuplicate_effect (s := m)
      (by unfold State.distinctTargets; rw [ann]; exact law.distinct) (by rw [line]; rfl)
    rw [entered]
    have failures : m.ackFailures = s.ackFailures := by simp only [State.ackFailures, State.requestFor, ann]
    refine ⟨by rw [uLife, life], by rw [uFrame, frame], by rw [uAnn, ann], ?_, ?_⟩
    · rw [failures, State.own, life] at handed
      rw [State.hands, journal] at handed
      exact handed
    · exact State.changesOnly_trans (State.changesOnly_mono only (by decide)) (State.changesOnly_mono uOnly (by decide))
  · have same : m.duplicateNotice = m := by
      rcases dropped with h | h <;> simp only [State.duplicateNotice, life, h]
    rw [same]
    exact ⟨frame, only⟩

/-! ### A transmission broken off (R84, R109) -/

/-- With one entry ON_LINE at most, breaking off changes each entry that is (R109). -/
theorem changeFirst_onLine {q : List QEntry} (one : q.countP QEntry.onLine ≤ 1) :
    changeFirst QEntry.onLine (fun x => { x.setChanged false with onLine := false }) q = q.map QEntry.brokenOff := by
  induction q with
  | nil => rfl
  | cons e q ih =>
    rw [List.countP_cons] at one
    simp only [changeFirst, List.map_cons, QEntry.brokenOff]
    cases onLine : e.onLine with
    | true =>
      have none : ∀ x ∈ q, x.brokenOff = x := by
        rw [onLine] at one
        have := List.countP_eq_zero.1 (show q.countP QEntry.onLine = 0 by simpa using one)
        intro x hx
        simp [QEntry.brokenOff, this x hx]
      have same : q.map QEntry.brokenOff = q := by
        rw [List.map_congr_left none, List.map_id']
      rw [if_pos rfl, if_pos rfl]
      exact congrArg _ same.symm
    | false =>
      rw [if_neg Bool.false_ne_true, if_neg Bool.false_ne_true, ih (by simpa [onLine] using one)]

/-- Breaking off: the entry waits again in its place, and nothing is sent. -/
theorem breakOff_effect {s : State} (one : s.frame.queue.countP QEntry.onLine ≤ 1) :
    s.breakOff.frame = { s.frame with queue := s.frame.queue.map QEntry.brokenOff } ∧
      s.breakOff.line = { s.line with sending := none } ∧
      (∀ i r, s.onLineEntry = some ⟨.ackreq i, true⟩ → s.ann.requests.get i = some r → s.breakOff.ann =
        { s.ann with requests := s.ann.requests.set i (some { r with pending := .queued, sendAgain := false }) }) ∧
      ((∀ i r, s.onLineEntry = some ⟨.ackreq i, true⟩ → s.ann.requests.get i ≠ some r) → s.breakOff.ann = s.ann) := by
  have onLine : ∀ e, s.onLineEntry = some e → e.onLine = true := fun e found => List.find?_some found
  refine ⟨?_, ?_, ?_, ?_⟩
  · rw [← changeFirst_onLine one]
    unfold State.breakOff
    cases s.onLineEntry <;> simp
  · unfold State.breakOff
    cases s.onLineEntry <;> simp
  · intro i r found held
    simp [State.breakOff, found, State.onRequestOf, held, State.setRequest]
  · intro none
    unfold State.breakOff
    cases found : s.onLineEntry with
    | none => rfl
    | some e =>
      obtain ⟨kind, b⟩ := e
      obtain rfl : b = true := onLine _ found
      cases kind with
      | state u c => rfl
      | silence z => rfl
      | ackreq i =>
        have free : s.ann.requests.get i = .none := by
          cases held : s.ann.requests.get i with
          | none => rfl
          | some r => exact absurd held (none i r found)
        simp [State.onRequestOf, free]

/-- The request ON_LINE is that of the entry whose frame is on the line. -/
theorem pending_onLine_iff {s : State} (queue : s.QueueLaw) (requests : s.RequestLaw) {j : ReqIx} {r : Request}
    (held : s.ann.requests.get j = some r) : r.pending = .onLine ↔ s.onLineEntry = some ⟨.ackreq j, true⟩ := by
  rw [requests.onLine j r held]
  constructor
  · rintro ⟨e, he, is, onLine⟩
    obtain ⟨before, x, after, split, xOnLine, -, found⟩ := find_split QEntry.onLine _ ⟨e, he, onLine⟩
    have one := queue.onLine
    rw [split, List.countP_append, List.countP_cons, xOnLine, if_pos rfl] at one
    have noBefore := List.countP_eq_zero.1 (show before.countP QEntry.onLine = 0 by omega)
    have noAfter := List.countP_eq_zero.1 (show after.countP QEntry.onLine = 0 by omega)
    have e_eq : e = x := by
      rw [split, List.mem_append, List.mem_cons] at he
      rcases he with h | h | h
      · exact absurd onLine (noBefore e h)
      · exact h
      · exact absurd onLine (noAfter e h)
    rw [State.onLineEntry, found, ← e_eq, eq_of_isAckreq is, onLine]
  · intro found
    exact ⟨_, List.mem_of_find?_eq_some found, by simp, rfl⟩

/-- Breaking off leaves the request table but for the request of the frame on the line (R84). -/
theorem breakOff_requests {s : State} (queue : s.QueueLaw) (requests : s.RequestLaw) (i : ReqIx) :
    s.breakOff.ann.requests.get i = (s.ann.requests.get i).map Request.brokenOff := by
  obtain ⟨-, -, acks, others⟩ := breakOff_effect queue.onLine
  by_cases ack : ∃ j r, s.onLineEntry = some ⟨.ackreq j, true⟩ ∧ s.ann.requests.get j = some r
  · obtain ⟨j, r, found, held⟩ := ack
    rw [acks j r found held, Tab.get_set]
    split
    · rename_i same
      rw [← same, held]
      simp [Request.brokenOff, (pending_onLine_iff queue requests held).2 found]
    · rename_i apart
      cases held' : s.ann.requests.get i with
      | none => rfl
      | some x =>
        have notOnLine : x.pending ≠ .onLine := by
          intro is
          have := (pending_onLine_iff queue requests held').1 is
          rw [found] at this
          cases this
          exact apart rfl
        simp [Request.brokenOff, notOnLine]
  · rw [others fun j r found held => ack ⟨j, r, found, held⟩]
    cases held : s.ann.requests.get i with
    | none => rfl
    | some r =>
      have notOnLine : r.pending ≠ .onLine := fun is => ack ⟨i, r, (pending_onLine_iff queue requests held).1 is, held⟩
      simp [Request.brokenOff, notOnLine]

end Machine
end Sys2Proof
end

section
namespace Sys2Proof
namespace Machine

/-! ### The line STUCK (R134) -/

/-- Settles O43: an own frame under way is broken off as `breakOff_effect` says, and without one no entry is ON_LINE. -/
theorem dominantLineIsStuck : Obligations.DominantLineIsStuck := by
  intro s held running state queue
  obtain ⟨m, hm⟩ : ∃ m, m = if s.line.sending.isSome then s.breakOff else s := ⟨_, rfl⟩
  obtain ⟨frame, line, acks, others⟩ := breakOff_effect queue.onLine
  have quiet : s.line.sending = none → m = s := fun none => by simp [hm, none]
  have broken : s.line.sending ≠ none → m = s.breakOff := fun some => by
    rw [hm, if_pos (by simpa [Option.isSome_iff_ne_none] using some)]
  have mFrame : m.frame = { s.frame with queue := s.frame.queue.map QEntry.brokenOff } := by
    by_cases none : s.line.sending = none
    · have waits : ∀ e ∈ s.frame.queue, e.brokenOff = e := by
        intro e he
        cases onLine : e.onLine with
        | false => simp [QEntry.brokenOff, onLine]
        | true => simpa [none] using queue.sent e he onLine
      rw [quiet none, List.map_congr_left waits, List.map_id']
    · rw [broken none, frame]
  have mLine : m.line = { s.line with sending := none } := by
    by_cases none : s.line.sending = none
    · rw [quiet none, ← none]
    · rw [broken none, line]
  have mSame : s.changesOnly [.frame, .line, .ann] m := by
    intro b hb
    rw [hm]
    cases b <;> simp at hb <;> simp only [Block.same] <;> split <;> simp
  have mAnn : m.ann = { s.ann with requests := m.ann.requests } := by
    rw [hm]
    split
    · exact AnnUnit.eq_with_requests (by simp) (by simp) (by simp) (by simp)
    · rfl
  obtain ⟨t, ht⟩ : ∃ t, t = s.lineStuck := ⟨_, rfl⟩
  have t_eq : t = (((if s.receiving .frame then m.raiseDiscarded else m).onLine (fun l => { l with
      state := .stuck, slot := none, rx := .none, jam := [] })).record .lineStuck).setLife
        (fun l => { l with lineStuck := true }) := by
    rw [ht, hm, State.lineStuck, if_pos ⟨running, state⟩]
  have receiving : (s.receiving .frame = true) ↔ (s.line.state = .receiving ∧ s.line.rx = .frame) := by
    simp [State.receiving, running]
  have mLife : m.life = s.life := mSame .life (by simp)
  have ann : t.ann = m.ann := by
    rw [t_eq]
    split <;> simp
  refine ⟨t, by rw [ht]; exact exec_running _ held, ?_, ?_, ?_, ?_, ?_, ?_, ?_, ?_⟩
  · rw [t_eq]
    split <;> simp [mLine]
  · rw [t_eq]
    split <;> simp [mLife, LifeControl.driveSfault]
  · have handed : m.hands (m.record .lineStuck) [.lineStuck] := by
      simpa [State.scopePasses] using m.hands_record .lineStuck
    rw [State.hands, mSame .journal (by simp)] at handed
    rw [t_eq, State.hands]
    split <;> simpa [State.record, State.scopePasses] using handed
  · have frame_eq : t.frame = (if s.receiving .frame then m.raiseDiscarded else m).frame := by rw [t_eq]; simp
    rw [frame_eq]
    by_cases rx : s.receiving .frame = true
    · rw [if_pos rx, if_pos (receiving.1 rx)]
      simp only [State.raiseDiscarded, State.onFrame_frame, mFrame]
      rfl
    · rw [if_neg rx, if_neg (fun is => rx (receiving.2 is)), mFrame]
      rfl
  · rw [ann, mAnn]
  · intro none
    rw [ann, quiet none]
  · intro some
    rw [ann, broken some]
    refine ⟨fun i r found held => by rw [acks i r found held], fun none => others fun i _ found _ => none i found,
      fun requests i => breakOff_requests queue requests i⟩
  · intro b hb
    have kept := mSame b (by intro is; exact hb (by revert is; cases b <;> simp))
    cases b <;> simp at hb <;> simp only [Block.same] at kept ⊢ <;> rw [← kept, t_eq] <;> split <;> simp

/-! ### Collisions (R131, R132, R150) -/

/-- An entry made URGENT, where it is a STATE (R114). -/
def QEntry.madeUrgent (e : QEntry) : QEntry :=
  match e.kind with
  | .state _ changed => { e with kind := .state true changed }
  | .ackreq _ => e
  | .silence _ => e

@[simp] theorem madeUrgent_keeps (e : QEntry) : e.madeUrgent.onLine = e.onLine ∧ e.madeUrgent.isState = e.isState ∧
    e.madeUrgent.isSilence = e.isSilence ∧ ∀ i, e.madeUrgent.isAckreq i = e.isAckreq i := by
  obtain ⟨kind, onLine⟩ := e
  cases kind <;> exact ⟨rfl, rfl, rfl, fun _ => rfl⟩

/-- The withdraw duration lies between 2P and 3P (R151). -/
theorem withdrawMs_bounds (period draw : Nat) :
    2 * period ≤ withdrawMs period draw ∧ withdrawMs period draw ≤ 3 * period := by
  have := Nat.mod_lt draw (show 0 < period + 1 by omega)
  unfold withdrawMs
  omega

/-- What is left of the entry to WITHDRAWN once the queue has lost its SILENCE entry: the requests fail and the withdraw
timer starts (R88, R151). -/
def State.withdrawing (s : State) : State :=
  let s := s.failAll
  let duration := withdrawMs s.period (Config.withdrawDraw s.life.draws)
  s.setLife (fun l => { l with
    life := .withdrawn
    withdraw := some (s.after duration)
    withdrawFor := duration
    draws := l.draws + 1 })

theorem enterWithdrawn_eq (s : State) : s.enterWithdrawn =
    ((s.onFrame (fun f => { f with
      queue := (s.frame.queue.filter (fun e => !e.isSilence)).map QEntry.madeUrgent
      refresh := none })).record (.withdrawn s.own)).withdrawing := by
  unfold State.enterWithdrawn
  refine congrArg State.withdrawing ?_
  rfl

/-- Entry to WITHDRAWN (R88, R114, R150, R151). -/
theorem enterWithdrawn_effect {s : State} (distinct : s.distinctTargets)
    (entry : ∀ i e, e ∈ s.frame.queue → e.isAckreq i = true → (s.ann.requests.get i).isSome = true) :
    let u := s.enterWithdrawn
    u.frame = { s.frame with queue := (s.frame.queue.filter QEntry.isState).map QEntry.madeUrgent, refresh := none } ∧
      u.ann = { s.ann with requests := .fill 8 none } ∧ s.hands u (.withdrawn s.own :: s.ackFailures) ∧
      (∃ n, 2 * s.period ≤ n ∧ n ≤ 3 * s.period ∧ u.life = { s.life with
        life := .withdrawn
        withdraw := some (s.after n)
        withdrawFor := n
        draws := s.life.draws + 1
        sfault := true }) ∧
      u.line = s.line ∧ s.changesOnly [.frame, .ann, .life, .journal] u := by
  intro u
  obtain ⟨q, hq⟩ : ∃ q, q = (s.frame.queue.filter (fun e => !e.isSilence)).map QEntry.madeUrgent := ⟨_, rfl⟩
  obtain ⟨m, hm⟩ : ∃ m, m =
    (s.onFrame (fun f => { f with queue := q, refresh := none })).record (.withdrawn s.own) := ⟨_, rfl⟩
  have same : m.clock = s.clock ∧ m.settings = s.settings ∧ m.life = s.life ∧ m.ann = s.ann ∧
      m.frame = { s.frame with queue := q, refresh := none } := by simp [hm]
  obtain ⟨clock, settings, life, mAnn, mFrame⟩ := same
  have distinctM : m.distinctTargets := by unfold State.distinctTargets; rw [mAnn]; exact distinct
  obtain ⟨ann, handed⟩ := failAll_effect distinctM
  have queue := failAll_queue distinctM (by
    intro i e he is
    rw [mFrame, hq] at he
    obtain ⟨x, hx, rfl⟩ := List.mem_map.1 he
    rw [mAnn]
    exact entry i x (List.mem_of_mem_filter hx) (by simpa using is))
  have states : q.filter QEntry.stays = (s.frame.queue.filter QEntry.isState).map QEntry.madeUrgent := by
    rw [hq, List.filter_map, List.filter_filter]
    refine congrArg _ (List.filter_congr ?_)
    rintro ⟨kind, onLine⟩ -
    cases kind <;> rfl
  have failures : m.ackFailures = s.ackFailures := by simp only [State.ackFailures, State.requestFor, mAnn]
  have first : s.hands m [.withdrawn s.own] := by
    have handed := s.hands_record (.withdrawn s.own)
    rw [if_pos (by rfl)] at handed
    exact State.hands_of_journal handed (by rw [hm]; rfl) (by simp [clock]) (by simp [settings])
  have entered : u = m.withdrawing := by
    rw [hm, hq]
    exact enterWithdrawn_eq s
  simp only [State.withdrawing] at entered
  have period : m.failAll.period = s.period := by simp [State.period, settings]
  refine ⟨?_, ?_, ?_, ⟨withdrawMs s.period (Config.withdrawDraw s.life.draws), (withdrawMs_bounds _ _).1,
    (withdrawMs_bounds _ _).2, ?_⟩, by simp [u], ?_⟩
  · have kept : m.failAll.frame = { m.frame with queue := m.failAll.frame.queue } :=
      FrameUnit.eq_with_queue (by simp) (by simp) (by simp) (by simp)
    have frame : u.frame = m.failAll.frame := by simp [entered]
    rw [frame, kept, queue, mFrame, states]
  · simp [entered, ann, mAnn]
  · have all := State.hands_append first handed (by simp) (by simp)
    rw [failures] at all
    exact State.hands_of_journal all (by simp [entered]) (by simp [entered]) (by simp [entered])
  · rw [entered, period]
    simp [life, LifeControl.driveSfault, State.after, clock]
  · intro b hb
    cases b <;> simp at hb <;> simp [Block.same, entered, hm]

/-- Settles O42: the frame is broken off (`breakOff_effect`), and the sixteenth collision withdraws the station
(`enterWithdrawn_effect`). -/
theorem collisionJamsOrWithdraws : Obligations.CollisionJamsOrWithdraws := by
  intro bitTime bytes s held active state sends recessive queue requests bound back
  obtain ⟨frame, line, -, -⟩ := breakOff_effect queue.onLine
  have table := breakOff_requests queue requests
  have occurs : s.transmitting = true ∧ s.sendsRecessive bitTime = true := by
    simp [State.transmitting, State.sendsRecessive, active, state, sends, recessive]
  obtain ⟨m, hm⟩ : ∃ m, m = s.breakOff.onLine (fun l => { l with collisions := min 16 (s.line.collisions + 1) }) :=
    ⟨_, rfl⟩
  have mLine : m.line = { s.line with sending := none, collisions := min 16 (s.line.collisions + 1) } := by
    rw [hm, State.onLine_line, line]
  have mFrame : m.frame = { s.frame with queue := back } := by
    rw [hm, State.onLine_frame, frame]
    rfl
  have mOnly : s.changesOnly [.line, .frame, .ann] m := by
    intro b hb
    cases b <;> simp at hb <;> simp [Block.same, hm]
  have mAnn : m.ann = { s.ann with requests := m.ann.requests } :=
    AnnUnit.eq_with_requests (by simp [hm]) (by simp [hm]) (by simp [hm]) (by simp [hm])
  have mTable : ∀ i, m.ann.requests.get i = (s.ann.requests.get i).map Request.brokenOff := by
    rw [hm]
    exact table
  have collided : s.collision bitTime = if min 16 (s.line.collisions + 1) = 16 then
      ((m.onLine (fun l => { l with state := .receiving, rx := .frame })).enterWithdrawn).driveOutputs
      else m.onLine (fun l => { l with state := .jamming, jam := ownJam }) := by
    simp only [State.collision, if_pos occurs, hm]
  refine ⟨fun few => ?_, fun many => ?_⟩
  · have below : min 16 (s.line.collisions + 1) = s.line.collisions + 1 := by omega
    rw [below, if_neg (by omega)] at collided
    rw [below] at mLine
    refine ⟨_, exec_running _ held, ?_⟩
    simp only [effectRunning, collided]
    refine ⟨by simp [mLine], fun k => ?_, by simp [ownJam], by simpa using mFrame, ?_, fun i => ⟨mAnn, mTable i⟩⟩
    · simp only [LineUnit.drives, State.onLine_line, mLine, ownJam, List.getD_eq_getElem?_getD, List.getElem?_replicate]
      split <;> rfl
    · intro b hb
      have kept := mOnly b hb
      cases b <;> simp at hb <;> exact kept
  · have sixteen : min 16 (s.line.collisions + 1) = 16 := by omega
    rw [sixteen, if_pos rfl] at collided
    rw [sixteen] at mLine
    obtain ⟨n, hn⟩ : ∃ n, n = m.onLine (fun l => { l with state := .receiving, rx := .frame }) := ⟨_, rfl⟩
    have nAnn : n.ann = m.ann := by rw [hn]; rfl
    have nFrame : n.frame = m.frame := by rw [hn]; rfl
    have held_of : ∀ {i x}, n.ann.requests.get i = some x → ∃ r, s.ann.requests.get i = some r ∧ x = r.brokenOff := by
      intro i x hx
      rw [nAnn, mTable] at hx
      obtain ⟨r, hr, is⟩ := Option.map_eq_some_iff.1 hx
      exact ⟨r, hr, is.symm⟩
    have targets : ∀ r : Request, r.brokenOff.target = r.target ∧ r.brokenOff.mask = r.mask := by
      intro r
      rw [Request.brokenOff]
      split <;> exact ⟨rfl, rfl⟩
    have distinct : n.distinctTargets := by
      intro i j x y hx hy same
      obtain ⟨r, hr, rfl⟩ := held_of hx
      obtain ⟨z, hz, rfl⟩ := held_of hy
      exact requests.distinct i j r z hr hz (by simpa [targets] using same)
    obtain ⟨uFrame, uAnn, handed, ⟨d, low, high, life⟩, uLine, only⟩ := enterWithdrawn_effect distinct (by
      intro i e he is
      rw [nFrame, mFrame] at he
      obtain ⟨x, hx, rfl⟩ := List.mem_map.1 he
      rw [nAnn, mTable, Option.isSome_map]
      exact requests.entry i x hx (by simpa [QEntry.brokenOff] using (brokenOff_keeps x).2.2.2 i ▸ is))
    have nSame : s.changesOnly [.line, .frame, .ann] n := by
      intro b hb
      have kept := mOnly b hb
      rw [hn]
      cases b <;> simp at hb <;> exact kept
    have nLife : n.life = s.life := nSame .life (by simp)
    have failures : n.ackFailures = s.ackFailures := by
      have found : ∀ st, n.requestFor st = s.requestFor st := by
        intro st
        refine congrArg (fun p => (indices 8).find? p) (funext fun i => ?_)
        rw [nAnn, mTable]
        cases s.ann.requests.get i <;> simp [targets]
      unfold State.ackFailures
      refine List.filterMap_congr fun st _ => ?_
      rw [found]
      refine congrArg _ (funext fun i => ?_)
      rw [nAnn, mTable]
      cases s.ann.requests.get i <;> simp [targets]
    have clock : n.clock = s.clock := nSame .clock (by simp)
    have settings : n.settings = s.settings := nSame .settings (by simp)
    have own : n.own = s.own := congrArg LifeControl.stn nLife
    have period : n.period = s.period := by rw [State.period, settings]; rfl
    refine ⟨n.enterWithdrawn, by rw [exec_running _ held]; simp only [effectRunning, collided, hn], ?_, ?_, ?_, ?_,
      ⟨d, period ▸ low, period ▸ high, ?_⟩, ?_⟩
    · rw [uLine, hn, State.onLine_line, mLine]
    · rw [uFrame, nFrame, mFrame]
      rfl
    · rw [uAnn, nAnn, mAnn]
    · rw [failures, own, State.hands, nSame .journal (by simp)] at handed
      exact handed
    · rw [life, nLife, State.after, clock]
      rfl
    · exact State.changesOnly_trans (State.changesOnly_mono nSame (by decide)) (State.changesOnly_mono only (by decide))

/-! ### Transmissions that complete (R108, R130) -/

/-- Settles O41, by the entry whose frame is on the line. -/
theorem transmissionCompletes : Obligations.TransmissionCompletes := by
  intro s held sends
  have completes : exec .transmissionComplete s =
      .next (s.complete.onLine (fun l => { l with collisions := 0, sending := none })) := by
    rw [exec_running _ held]
    simp only [effectRunning, State.transmissionComplete, if_pos sends]
  refine ⟨_, completes, by simp, ?_, fun freed => ?_, fun urgent changed found => ?_, fun zones found => ?_,
    fun i r found entry => ⟨fun once => ?_, fun again => ?_⟩⟩
  · intro b hb
    cases b <;> simp at hb <;> simp [Block.same]
  · simp [State.complete, freed]
  · simp [State.complete, found, State.completeState, QEntry.urgentState]
  · simp [State.complete, found]
  · simp [State.complete, found, State.completeAckreq, entry, once, State.setRequest, State.after]
  · simp [State.complete, found, State.completeAckreq, entry, again, State.setRequest, State.queueAckreq]

end Machine
end Sys2Proof
end

section
namespace Sys2Proof
namespace Machine

/-! ### Retry timers (R85) -/

/-- Settles O29. -/
theorem retryExpiryResendsOrFails : Obligations.RetryExpiryResendsOrFails := by
  intro i r due s held entry timer
  obtain ⟨t, ht⟩ : ∃ t, t = s.reachTime due := ⟨_, rfl⟩
  have tEntry : t.ann.requests.get i = some r := by simpa [ht] using entry
  obtain ⟨u, hu⟩ : ∃ u, u = if 0 < r.retries then
    (t.setRequest i (some { r with retries := r.retries - 1, timer := none, pending := .queued })).queueAckreq i
    else t.failRequest i := ⟨_, rfl⟩
  have expires : exec (.retryTimerExpiry i) s = .next u.settle := by
    rw [exec_running _ held]
    simp only [effectRunning, State.retryExpiry, entry, timer, hu, ht]
  have fails : t.failRequest i = (t.record (.ackFailed r.target r.mask)).freeRequest i := by
    simp only [State.failRequest, tEntry]
  have out : u.out = (s.reachTime due).out := by
    rw [hu, ← ht]
    split <;> simp
  refine ⟨u, expires, ?_, fun some => ?_, fun none => ⟨?_, ?_, ?_⟩, ?_, out⟩
  · rw [hu, ← ht]
    split <;> simp
  · rw [hu, if_pos some]
    simp [State.setRequest, State.queueAckreq, ht]
  · have freed := t.hands_record (.ackFailed r.target r.mask)
    rw [if_pos (by rfl)] at freed
    have handed : t.hands u [.ackFailed r.target r.mask] :=
      State.hands_of_journal freed (by simp [hu, none, fails]) (by simp [hu, none, fails]) (by simp [hu, none, fails])
    rw [State.hands] at handed ⊢
    simpa [ht] using handed
  · rw [hu, if_neg (by omega), fails]
    simp [State.freeRequest, State.setRequest, ht]
  · rw [hu, if_neg (by omega), fails]
    simp [State.freeRequest, State.setRequest, ht]
  · intro b hb
    rw [hu]
    cases b <;> simp at hb <;> simp only [Block.same] <;> split <;> simp [ht]

/-! ### SILENCE frames (R94) -/

/-- Settles O38: the station hears the origin, which writes at most its absence timer, and takes the zones. -/
theorem receivedSilenceSetsTheLatch : Obligations.ReceivedSilenceSetsTheLatch := by
  intro levels bytes st zones s hears decoded other
  obtain ⟨m, hm⟩ : ∃ m, m = (s.atFrameEnd bytes).heard st := ⟨_, rfl⟩
  have taken : (s.atFrameEnd bytes).receiveFrame bytes = m.takeSilence zones := by
    rw [receiveFrame_eq decoded (by simpa [State.own] using other), hm]
  have mRoster : m.pic.roster = if (s.pic.roster.get st).presence = .present then
      s.pic.roster.set st { s.pic.roster.get st with
        absence := some (s.after (absenceMs ((s.pic.roster.get st).refreshCode.getD 4))) }
      else s.pic.roster := by
    rw [hm, heard_eq]
    simp only [State.atFrameEnd_keeps]
    split
    · simp [State.onPic, Picture.setRoster, State.after]
    · simp
  have roster : (m.takeSilence zones).pic.roster = m.pic.roster := by simp
  refine ⟨m.takeSilence zones, by rw [exec_frameEnd_of_hears hears, taken], ?_, by simp [hm], by simp [hm],
    by simp [hm], fun absent => ?_, fun present n code => ?_, ?_⟩
  · rw [State.takeSilence]
    by_cases within : zones.getLsbD s.settings.zone.val = true
    · rw [if_pos (by simpa [hm] using within), if_pos within]
      simp [State.setLatch, hm]
    · rw [if_neg (by simpa [hm] using within), if_neg within]
      simp [hm]
  · rw [roster, mRoster, if_neg absent]
  · rw [roster, mRoster, if_pos present, code]
    rfl
  · intro b hb
    cases b <;> simp at hb <;> simp [Block.same, hm]

/-! ### The silence latch and HORN (R95, R164) -/

/-- With the latch clear, a running unit's HORN sounds for a horn-set condition of quality GOOD in ALERT_UNACK
(R164). -/
theorem driveOutputs_horn_of_unlatched {s : State} (running : s.life.life.running = true)
    (clear : s.out.latch = false) : s.driveOutputs.out.horn = true ↔
      ∃ x ∈ s.settings.horn, s.condEntry x.station x.cond =
        ⟨.alertUnack, (s.condEntry x.station x.cond).truth, (s.condEntry x.station x.cond).gen, .good⟩ := by
  have sounds : s.driveOutputs.out.horn = s.hornLevel := by simp [State.driveOutputs, running]
  have entry : ∀ e : CondEntry, (e.quality = .good ∧ e.state = .alertUnack) ↔
      e = ⟨.alertUnack, e.truth, e.gen, .good⟩ := by
    rintro ⟨state, truth, gen, quality⟩
    simp [and_comm]
  rw [sounds]
  simp [State.hornLevel, clear, entry]

/-- Settles O26. -/
theorem latchClearLetsTheHornSound : Obligations.LatchClearLetsTheHornSound := by
  intro r rest s held running clears
  obtain ⟨u, hu⟩ : ∃ u, u = (s.onAnn (fun a => { a with clears := rest })).setLatch false := ⟨_, rfl⟩
  have cleared : exec .silenceLatchClear s = .next u.driveOutputs := by
    rw [exec_running _ held]
    simp only [effectRunning, State.latchClear, clears, hu]
  have same : u.condEntry = s.condEntry ∧ u.settings = s.settings ∧ u.life = s.life := by
    rw [hu]
    exact ⟨rfl, rfl, rfl⟩
  obtain ⟨entries, settings, life⟩ := same
  refine ⟨_, cleared, by simp [hu, State.setLatch], by simp [hu], ?_, by simp [hu, State.setLatch],
    by simp [hu, State.setLatch], by simp [hu, State.setLatch], ?_⟩
  · rw [driveOutputs_horn_of_unlatched (by rwa [life]) (by simp [hu, State.setLatch]), entries, settings]
  · intro b hb
    cases b <;> simp at hb <;> simp [Block.same, hu]

/-! ### Commands at the supervisor port (R181) -/

/-- The station with COMMAND written, its code and the address bytes of the transaction taken. -/
def State.commandWritten (code : Byte) (s : State) : State :=
  s.onPort (fun p => { p with
    reading := false
    unsent := []
    acks := [true, true, true, true]
    pointer := 0x12
    command := code })

/-- In the running life states a command written goes on to step 5 of R181. -/
theorem writeCommand_running {s : State} {code : Byte} {c : Command} (running : s.life.life.running = true)
    (known : commandOf code = some c) : s.writeCommand code =
      ((s.commandWritten code).runCommand c).onPort (fun p => { p with pointer := p.pointer + 1 }) := by
  have loaded : s.life.life ≠ .loading ∧ s.life.life ≠ .configFault := by
    constructor <;> intro is <;> simp [is, Life.running] at running
  have settles : (s.commandWritten code).settleCommand code = (s.commandWritten code).runCommand c := by
    simp [State.settleCommand, State.committing, known, loaded, State.commandWritten]
  rw [State.writeCommand_eq, ← settles]
  rfl

/-- Settles O46. -/
theorem simpleCommandsActAndAnswerOk : Obligations.SimpleCommandsActAndAnswerOk := by
  intro s held running answered
  have runs : ∀ (code : Byte) {c : Command} (i : Instr), effectRunning i = State.writeCommand code →
      commandOf code = some c → exec i s =
        .next (((s.commandWritten code).runCommand c).onPort (fun p => { p with pointer := p.pointer + 1 })) := by
    intro code c i writes known
    rw [exec_running _ held, writes, writeCommand_running running known]
  have pressed : ∀ code, (s.commandWritten code).silencePress = s.silencePress.onPort (fun _ =>
      (s.commandWritten code).port) := by
    intro code
    by_cases active : s.life.life = .active
    · simp only [State.silencePress, if_pos active, State.commandWritten]
      exact if_pos active
    · simp only [State.silencePress, if_neg active, State.commandWritten]
      exact if_neg active
  refine ⟨⟨s.silencePress.onPort (fun _ => answered 0x04), ?_, rfl, ?_, fun idle => ?_,
      fun active => ⟨?_, fun none => ?_, fun before after zones line queue none => ?_⟩, ?_⟩,
    ⟨(s.onOut (fun o => { o with lampTest := true })).onPort (fun _ => answered 0x05),
      runs 0x05 .lampTestOn rfl rfl, rfl, rfl, ?_⟩,
    ⟨(s.onOut (fun o => { o with lampTest := false })).onPort (fun _ => answered 0x06),
      runs 0x06 .lampTestOff rfl rfl, rfl, rfl, ?_⟩,
    ⟨(s.onFrame (fun f => { f with discarded := 0 })).onPort (fun _ => answered 0x07),
      runs 0x07 .countClear rfl rfl, rfl, rfl, ?_⟩⟩
  · rw [runs 0x04 .silence rfl rfl]
    simp only [State.runCommand, pressed]
    rw [← State.settle_onPort]
    rfl
  · rw [State.onPort_out, State.silencePress]
    split <;> rfl
  · simp [State.silencePress, idle]
  · simp [State.silencePress, active]
  · simpa [State.silencePress, active] using silenceRequest_of_none _ none
  · simpa [State.silencePress, active, queue] using silenceRequest_of_held _ zones line none
  all_goals
    intro b hb
    cases b <;> simp at hb <;> simp [Block.same]

end Machine
end Sys2Proof
end

section
namespace Sys2Proof
namespace Machine

/-! ### A press on an empty request table (R78, R82) -/

/-- The station whose request table holds the given requests in its lowest places, as new entries, with their ACKREQs
queued. -/
structure State.Asked (requests : List (Station × BitVec 8 × Tab 8 AckPair)) (s : State) : Prop where
  table : ∀ i : ReqIx, s.ann.requests.get i = requests[i.val]?.map (fun x => Request.new x.1 x.2.1 x.2.2)
  queued : ∀ i : ReqIx, i.val < requests.length → ⟨.ackreq i, false⟩ ∈ s.frame.queue

/-- A request for another target takes the place after those taken. -/
theorem State.Asked.handRequest {requests : List (Station × BitVec 8 × Tab 8 AckPair)} {s : State}
    (asked : s.Asked requests) (room : requests.length < 8) (x : Station × BitVec 8 × Tab 8 AckPair)
    (other : x.1 ∉ requests.map Prod.fst) : (s.handRequest x.1 x.2.1 x.2.2).Asked (requests ++ [x]) := by
  have absent : s.requestFor x.1 = none := by
    refine (requestFor_eq_none_iff s x.1).2 fun i r held same => other ?_
    rw [asked.table] at held
    obtain ⟨y, hy, rfl⟩ := Option.map_eq_some_iff.1 held
    exact same ▸ List.mem_map_of_mem (List.mem_of_getElem? hy)
  have free : s.freePlace = some ⟨requests.length, room⟩ := by
    refine (freePlace_iff s _).2 ⟨by simp [asked.table], fun j before => ?_⟩
    have within : j.val < requests.length := before
    simp [asked.table, within]
  rw [handRequest_of_free absent free]
  refine ⟨fun i => ?_, fun i within => ?_⟩
  · by_cases last : i.val = requests.length
    · obtain rfl : i = ⟨requests.length, room⟩ := Fin.ext last
      simp [State.setRequest]
    · have place : ¬ (⟨requests.length, room⟩ : ReqIx) = i := fun is => last (is ▸ rfl)
      have before : (requests ++ [x])[i.val]? = requests[i.val]? := by
        rcases Nat.lt_or_gt_of_ne last with lt | gt
        · exact List.getElem?_append_left lt
        · rw [List.getElem?_eq_none (by simp; omega), List.getElem?_eq_none (by omega)]
      rw [before, ← asked.table]
      exact Tab.get_set_other _ _ place
  · by_cases last : i.val = requests.length
    · obtain rfl : i = ⟨requests.length, room⟩ := Fin.ext last
      simp [State.queueAckreq]
    · have queued := asked.queued i (by simp at within; omega)
      simp [State.queueAckreq, State.setRequest, queued]

/-- In ACTIVE requests for different targets take the places after those taken, one by one. -/
theorem State.Asked.asksFor {before requests : List (Station × BitVec 8 × Tab 8 AckPair)} {s : State}
    (asked : s.Asked before) (active : s.life.life = .active) (room : (before ++ requests).length ≤ 8)
    (distinct : ((before ++ requests).map Prod.fst).Nodup) : (s.asksFor requests).Asked (before ++ requests) := by
  induction requests generalizing before s with
  | nil => simpa [State.asksFor] using asked
  | cons x l ih =>
    have other : x.1 ∉ before.map Prod.fst := by
      rw [List.map_append, List.map_cons] at distinct
      intro held
      exact (List.nodup_append.1 distinct).2.2 _ held _ (List.mem_cons_self ..) rfl
    have first := asked.handRequest (by simp at room; omega) x other
    have rest := ih first (by simpa using active) (by simpa using room) (by simpa using distinct)
    have one : s.asksFor (x :: l) = (s.handRequest x.1 x.2.1 x.2.2).asksFor l := by
      simp only [State.asksFor, List.foldl_cons, if_pos active]
    rw [one]
    simpa using rest

/-- In ACTIVE a press on an empty table forms its requests in the lowest places. -/
theorem ackPress_asked {s : State} (active : s.life.life = .active) (empty : ∀ i, s.ann.requests.get i = none)
    (room : s.pressOwners.length ≤ 8) : s.ackPress.Asked (s.pressOwners.map s.pressRequest) := by
  obtain ⟨t, ht⟩ : ∃ t, t = s.answersAll s.pressAcks := ⟨_, rfl⟩
  have kept : t.life = s.life ∧ t.ann.requests = s.ann.requests := by
    rw [ht, answersAll_pressAcks]
    simp
  obtain ⟨life, requests⟩ := kept
  have none : t.Asked [] := ⟨fun i => by rw [requests, empty]; rfl, fun i within => by simp at within⟩
  have targets : (s.pressOwners.map s.pressRequest).map Prod.fst = s.pressOwners := by
    rw [List.map_map]
    exact List.map_id _
  rw [ackPress_eq, ← ht]
  refine none.asksFor (by rw [life, active]) (by simpa using room) ?_
  rw [List.nil_append, targets]
  exact (pressOwners_sorted s).imp fun h => ne_of_lt h

/-- The phase a press asks with for a condition that waits for its acknowledgement (R78). -/
theorem answer_of_selected {e : CondEntry} (waits : e.state = .alertUnack ∨ e.state = .returnUnack) :
    e.answer = ⟨if e.state = .alertUnack then .alert else .returned, e.gen⟩ := by
  rcases waits with is | is <;> simp [CondEntry.answer, is]

/-! ### A request handed to the table (R82, R83) -/

/-- What a request merged into the entry of its target does (R83, Table 5-3). -/
theorem handRequest_merges {s : State} {target : Station} {i : ReqIx} {r : Request}
    (found : s.requestFor target = some i) (entry : s.ann.requests.get i = some r) (mask : BitVec 8)
    (pairs : Tab 8 AckPair) :
    let t := s.handRequest target mask pairs
    t.ann = { s.ann with requests := s.ann.requests.set i (some (r.merge mask pairs)) } ∧
      t.frame = (if r.pending = .none then { s.frame with queue := s.frame.queue ++ [⟨.ackreq i, false⟩] }
        else s.frame) ∧
      s.changesOnly [.ann, .frame] t := by
  rw [handRequest_of_entry found entry]
  cases r.pending <;> refine ⟨rfl, rfl, fun b hb => ?_⟩ <;> cases b <;> simp at hb <;> simp [Block.same]

/-- What a new request does (R82). -/
theorem handRequest_takes {s : State} {target : Station} {i : ReqIx} (absent : s.requestFor target = none)
    (free : s.freePlace = some i) (mask : BitVec 8) (pairs : Tab 8 AckPair) :
    let t := s.handRequest target mask pairs
    t.ann = { s.ann with requests := s.ann.requests.set i (some (.new target mask pairs)) } ∧
      t.frame = { s.frame with queue := s.frame.queue ++ [⟨.ackreq i, false⟩] } ∧ s.changesOnly [.ann, .frame] t := by
  rw [handRequest_of_free absent free]
  refine ⟨rfl, rfl, fun b hb => ?_⟩
  cases b <;> simp at hb <;> simp [Block.same]

/-- What a refused request does (R82). -/
theorem handRequest_refuses {s : State} {target : Station} (absent : s.requestFor target = none)
    (full : s.freePlace = none) (mask : BitVec 8) (pairs : Tab 8 AckPair) :
    s.hands (s.handRequest target mask pairs) [.ackRefused target mask] ∧
      s.changesOnly [.journal] (s.handRequest target mask pairs) := by
  rw [handRequest_of_full absent full]
  refine ⟨by simpa [State.scopePasses] using s.hands_record (.ackRefused target mask), fun b hb => ?_⟩
  cases b <;> simp at hb <;> simp [Block.same]

/-- Settles O28: the requests of a press fill the empty table (`ackPress_asked`), and a request is merged, taken or
refused. -/
theorem pressFormsOneRequestPerOwner : Obligations.PressFormsOneRequestPerOwner := by
  refine ⟨?_, ?_, fun target s => ⟨requestFor_iff s target, freePlace_iff s⟩⟩
  · intro s held active empty selected owners room sorted members
    obtain rfl : owners = s.pressOwners :=
      sorted.eq_of_mem_iff (pressOwners_sorted s) (fun st => (members st).trans mem_pressOwners.symm)
    obtain ⟨table, queued⟩ := ackPress_asked active empty room
    refine ⟨_, exec_ackAll held (by rw [active]; rfl), fun i => ⟨fun none => ?_, fun st owner => ?_⟩⟩
    · exact (table i).trans (by simp [none])
    · have within : i.val < s.pressOwners.length := (List.getElem?_eq_some_iff.1 owner).1
      refine ⟨_, (table i).trans (by rw [List.getElem?_map, owner]; rfl), rfl, rfl, rfl, rfl, rfl, fun c => ?_,
        fun c is => ?_, queued i (by simpa using within)⟩
      · change (maskWhere (fun c => s.selects st c)).getLsbD c.val = true ↔ _
        rw [getLsbD_maskWhere, selects_iff]
      · change (Tab.build fun c => (s.condEntry st c).answer).get c = _
        rw [Tab.get_build]
        exact answer_of_selected is.2.2
  · intro target mask pairs s t
    refine ⟨fun i r found entry => ?_, fun i absent free => handRequest_takes absent free mask pairs,
      fun absent full => handRequest_refuses absent full mask pairs⟩
    obtain ⟨ann, frame, only⟩ := handRequest_merges found entry mask pairs
    refine ⟨_, ann, rfl, rfl, fun c => BitVec.getLsbD_or .., fun c => Tab.get_build .., ?_, ?_, ?_, only⟩
    all_goals
      intro pending
      simp [t, frame, Request.merge, pending]

end Machine
end Sys2Proof
end

section
namespace Sys2Proof
namespace Machine

/-! ### ACK_ONE (R80, Table 5-1) -/

/-- The checks of Table 5-1 for an own condition. -/
def State.ackOneOwn (c : CondIx) (s : State) : State :=
  if (s.ownCond c).state = .unused then s.result .badArg
  else if (s.ownCond c).state.answerable then ((s.localAck c).result .ok).settle
  else s.result .ok

/-- The checks of Table 5-1 for a condition of another station. -/
def State.ackOnePeer (st : Station) (c : CondIx) (s : State) : State :=
  if (s.pic.roster.get st).presence = .notExpected then s.result .badArg
  else if (s.condEntry st c).quality ≠ .good then s.result .refused
  else if (s.condEntry st c).state = .unused then s.result .badArg
  else if s.life.life ≠ .active then s.result .refused
  else if ¬ (s.condEntry st c).state.answerable then s.result .ok
  else ((s.handRequest st (maskWhere (fun k => k == c)) (.fill 8 (s.condEntry st c).answer)).result
    (if (s.requestFor st).isSome || s.freePlace.isSome then .ok else .refused)).settle

/-- ACK_ONE goes by the owner of the condition its arguments name. -/
theorem ackOneChecks_eq {a0 a1 : Byte} {st : Station} {c : CondIx} (h0 : a0.toNat = st.val) (h1 : a1.toNat = c.val)
    (s : State) : s.ackOneChecks a0 a1 = if st = s.own then s.ackOneOwn c else s.ackOnePeer st c := by
  have low0 : a0.toNat < 32 := by omega
  have low1 : a1.toNat < 8 := by omega
  obtain rfl : (⟨a0.toNat, low0⟩ : Station) = st := Fin.ext h0
  obtain rfl : (⟨a1.toNat, low1⟩ : CondIx) = c := Fin.ext h1
  simp only [State.ackOneChecks, dif_pos low0, dif_pos low1]
  split
  next own =>
    simp only [State.ackOneOwn, State.ownCond, own]
    rfl
  next => rfl

/-- Arguments out of range are bad arguments (Table 5-1). -/
theorem ackOneChecks_of_range {a0 a1 : Byte} (range : 32 ≤ a0.toNat ∨ 8 ≤ a1.toNat) (s : State) :
    s.ackOneChecks a0 a1 = s.result .badArg := by
  unfold State.ackOneChecks
  rcases range with high | high
  · rw [dif_neg (by omega)]
  · split
    · rw [dif_neg (by omega)]
    · rfl

/-- The waiting states of a condition. -/
theorem answerable_iff (a : AnnState) : a.answerable = true ↔ a = .alertUnack ∨ a = .returnUnack := by
  cases a <;> simp [AnnState.answerable]

/-- An acknowledgement leaves the port aside. -/
theorem applyAck_onPort (f : Port → Port) (c : CondIx) (a : AckPair) (s : State) :
    (s.onPort f).applyAck c a = (s.applyAck c a).onPort f := by
  have aside := applyAck_withPanel s.input s.out (f s.port) s c a
  have kept : (s.applyAck c a).withPanel s.input s.out (f s.port) = (s.applyAck c a).onPort f := by
    rw [← (by simp : (s.applyAck c a).input = s.input), ← (by simp : (s.applyAck c a).out = s.out),
      ← (by simp : (s.applyAck c a).port = s.port)]
    rfl
  exact aside.trans kept

/-- A request handed to the table leaves the port aside. -/
theorem handRequest_onPort (f : Port → Port) (st : Station) (mask : BitVec 8) (pairs : Tab 8 AckPair) (s : State) :
    (s.onPort f).handRequest st mask pairs = (s.handRequest st mask pairs).onPort f := by
  have aside := handRequest_withPanel s.input s.out (f s.port) s st mask pairs
  have kept : (s.handRequest st mask pairs).withPanel s.input s.out (f s.port) =
      (s.handRequest st mask pairs).onPort f := by
    rw [← (by simp : (s.handRequest st mask pairs).input = s.input),
      ← (by simp : (s.handRequest st mask pairs).out = s.out),
      ← (by simp : (s.handRequest st mask pairs).port = s.port)]
    rfl
  exact aside.trans kept

/-- ACK_ONE makes the checks of Table 5-1 with the station's arguments (log entry 12). -/
theorem exec_ackOne {s : State} (held : s.held = false) (running : s.life.life.running = true) :
    exec .ackOne s = .next (((s.commandWritten 0x03).ackOneChecks s.port.arg0 s.port.arg1).onPort
      (fun p => { p with pointer := p.pointer + 1 })) := by
  rw [exec_running _ held]
  exact congrArg _ (writeCommand_running running (c := .ackOne) rfl)

/-- ACK_ONE for an own condition. -/
theorem exec_ackOne_own {s : State} {c : CondIx} (held : s.held = false) (running : s.life.life.running = true)
    (h0 : s.port.arg0.toNat = s.own.val) (h1 : s.port.arg1.toNat = c.val) :
    exec .ackOne s =
      .next (((s.commandWritten 0x03).ackOneOwn c).onPort (fun p => { p with pointer := p.pointer + 1 })) := by
  rw [exec_ackOne held running, ackOneChecks_eq h0 h1]
  exact congrArg (fun t : State => Host.Outcome.next (t.onPort _)) (if_pos rfl)

/-- ACK_ONE for another station's condition. -/
theorem exec_ackOne_peer {s : State} {st : Station} {c : CondIx} (held : s.held = false)
    (running : s.life.life.running = true) (h0 : s.port.arg0.toNat = st.val) (h1 : s.port.arg1.toNat = c.val)
    (peer : st ≠ s.own) : exec .ackOne s =
      .next (((s.commandWritten 0x03).ackOnePeer st c).onPort (fun p => { p with pointer := p.pointer + 1 })) := by
  rw [exec_ackOne held running, ackOneChecks_eq h0 h1]
  exact congrArg (fun t : State => Host.Outcome.next (t.onPort _)) (if_neg peer)

/-- A check that answers at once leaves everything but the port. -/
theorem result_answers {s t : State} {r : Result} (is : t = (s.commandWritten 0x03).result r) :
    let u := t.onPort (fun p => { p with pointer := p.pointer + 1 })
    u.port.result = r ∧ s.changesOnly [.port] u := by
  subst is
  refine ⟨rfl, fun b hb => ?_⟩
  cases b <;> simp at hb <;> rfl

/-- The own condition's acknowledgement by ACK_ONE, where it waits for one (R80). -/
theorem ackOneOwn_acts {s : State} {c : CondIx}
    (waits : (s.ownCond c).state = .alertUnack ∨ (s.ownCond c).state = .returnUnack) :
    ∃ g : Port → Port, (((s.commandWritten 0x03).ackOneOwn c).onPort (fun p => { p with pointer := p.pointer + 1 })) =
      ((s.applyAck c (s.ownCond c).answer).onPort g).settle ∧ ∀ p, (g p).result = .ok := by
  obtain ⟨f, written⟩ : ∃ f : Port → Port, s.commandWritten 0x03 = s.onPort f := ⟨_, rfl⟩
  have used : (s.ownCond c).state ≠ .unused := by rcases waits with is | is <;> simp [is]
  obtain ⟨v, hv⟩ : ∃ v, v = s.applyAck c (s.ownCond c).answer := ⟨_, rfl⟩
  have acts : (s.onPort f).ackOneOwn c = ((v.onPort f).result .ok).settle := by
    rw [hv, ← applyAck_onPort]
    exact (if_neg used).trans (if_pos ((answerable_iff _).2 waits))
  refine ⟨fun p => { f p with pointer := (f p).pointer + 1, result := .ok }, ?_, fun _ => rfl⟩
  rw [written, acts, ← State.settle_onPort, ← hv]
  rfl

/-- The request of ACK_ONE for a peer's condition that waits for its acknowledgement: its mask is that condition alone
(R80, R82, R83). -/
theorem ackOnePeer_acts {s : State} {st : Station} {c : CondIx}
    (expected : (s.pic.roster.get st).presence ≠ .notExpected) (good : (s.condEntry st c).quality = .good)
    (active : s.life.life = .active)
    (waits : (s.condEntry st c).state = .alertUnack ∨ (s.condEntry st c).state = .returnUnack) :
    ∃ (g : Port → Port) (m : BitVec 8) (pairs : Tab 8 AckPair),
      ((s.commandWritten 0x03).ackOnePeer st c).onPort (fun p => { p with pointer := p.pointer + 1 }) =
        ((s.handRequest st m pairs).onPort g).settle ∧
      (∀ p, (g p).result = if (s.requestFor st).isSome || s.freePlace.isSome then .ok else .refused) ∧
      (∀ k : CondIx, m.getLsbD k.val = true ↔ k = c) ∧ pairs.get c = (s.condEntry st c).answer := by
  obtain ⟨f, written⟩ : ∃ f : Port → Port, s.commandWritten 0x03 = s.onPort f := ⟨_, rfl⟩
  have used : (s.condEntry st c).state ≠ .unused := by rcases waits with is | is <;> simp [is]
  obtain ⟨v, hv⟩ : ∃ v, v = s.handRequest st (maskWhere (fun k => k == c)) (.fill 8 (s.condEntry st c).answer) :=
    ⟨_, rfl⟩
  obtain ⟨r, hr⟩ : ∃ r : Result, r = if (s.requestFor st).isSome || s.freePlace.isSome then .ok else .refused :=
    ⟨_, rfl⟩
  have acts : (s.onPort f).ackOnePeer st c = ((v.onPort f).result r).settle := by
    rw [hv, hr, ← handRequest_onPort]
    exact (if_neg expected).trans ((if_neg (not_not.2 good)).trans ((if_neg used).trans
      ((if_neg (not_not.2 active)).trans (if_neg (not_not.2 ((answerable_iff _).2 waits))))))
  refine ⟨fun p => { f p with pointer := (f p).pointer + 1, result := r }, maskWhere (fun k => k == c), _, ?_,
    fun _ => hr, fun k => ?_, Tab.get_fill ..⟩
  · rw [written, acts, ← State.settle_onPort, ← hv]
    rfl
  · rw [getLsbD_maskWhere, beq_iff_eq]

/-- What a change of the port beside other changes leaves as it was. -/
theorem changesOnly_onPort {s t : State} {bs : List Block} (only : s.changesOnly bs t) (f : Port → Port) :
    s.changesOnly (bs ++ [.port]) (t.onPort f) := by
  intro b hb
  have kept := only b (fun is => hb (List.mem_append_left _ is))
  cases b <;> simp at hb <;> exact kept

/-- Settles O45: the checks in their order (`ackOneChecks_eq`), the acknowledgement by `applyAck_condEntry` and the
request by `handRequest_merges`, `handRequest_takes` and `handRequest_refuses`. -/
theorem ackOneFollowsItsChecks : Obligations.AckOneFollowsItsChecks := by
  intro s held running answers
  have answered : ∀ {t : State} {r : Result},
      exec .ackOne s = .next (t.onPort (fun p => { p with pointer := p.pointer + 1 })) →
      t = (s.commandWritten 0x03).result r → answers r := fun runs is => ⟨_, runs, result_answers is⟩
  refine ⟨fun range => answered (exec_ackOne held running) (ackOneChecks_of_range range _), ?_⟩
  intro st c h0 h1 e unanswered
  refine ⟨fun own => ?_, fun peer => ?_⟩
  · subst own
    have runs := exec_ackOne_own held running h0 h1
    refine ⟨fun unused => answered runs (if_pos unused), fun settled => answered runs ?_, fun waits => ?_⟩
    · have used : e.state ≠ .unused := by rcases settled with is | is <;> simp [is]
      have idle : ¬ e.state.answerable = true := by rcases settled with is | is <;> simp [is, AnnState.answerable]
      exact (if_neg used).trans (if_neg idle)
    · obtain ⟨g, acts, result⟩ := ackOneOwn_acts waits
      obtain ⟨v, hv⟩ : ∃ v, v = s.applyAck c e.answer := ⟨_, rfl⟩
      have own : v.own = s.own := by simp [State.own, hv]
      have entries : ∀ x k, v.condEntry x k =
          if x = s.own ∧ k = c then s.acknowledged c e.answer else s.condEntry x k := by
        rw [hv]
        exact applyAck_condEntry s c e.answer
      have only : s.changesOnly [.pic, .cond, .ann, .frame, .journal, .report] v := fun b hb => by
        cases b <;> simp at hb <;> simp [Block.same, hv]
      refine ⟨v.onPort g, by rw [runs, acts, hv]; rfl, result _, ?_,
        fun x k other => (entries x k).trans (if_neg other), by simp [hv], by simp [hv], by simp [hv],
        by simp [hv], ?_, changesOnly_onPort only g⟩
      · rw [← answer_of_selected waits]
        exact (congrArg (fun x => v.condEntry x c) own).trans ((entries s.own c).trans (if_pos ⟨rfl, rfl⟩))
      · rw [← hv, ← (by simp [hv] : v.port = s.port)]
        rfl
  · have runs := exec_ackOne_peer held running h0 h1 peer
    refine ⟨fun unexpected => answered runs (if_pos unexpected), fun expected => ⟨fun bad => ?_, fun good =>
      ⟨fun unused => ?_, fun used => ⟨fun idle => ?_, fun active => ⟨fun settled => ?_, fun waits absent full => ?_,
        fun waits room => ?_⟩⟩⟩⟩⟩
    · exact answered runs ((if_neg expected).trans (if_pos bad))
    · exact answered runs ((if_neg expected).trans ((if_neg (not_not.2 good)).trans (if_pos unused)))
    · exact answered runs ((if_neg expected).trans ((if_neg (not_not.2 good)).trans ((if_neg used).trans
        (if_pos idle))))
    · exact answered runs ((if_neg expected).trans ((if_neg (not_not.2 good)).trans ((if_neg used).trans
        ((if_neg (not_not.2 active)).trans (if_pos (fun is => settled ((answerable_iff _).1 is)))))))
    · obtain ⟨g, m, pairs, acts, result, masked, -⟩ := ackOnePeer_acts expected good active waits
      obtain ⟨handed, only⟩ := handRequest_refuses absent full m pairs
      exact ⟨_, runs.trans (congrArg _ acts), (result _).trans (by rw [absent, full]; rfl), only .ann (by simp),
        ⟨m, masked, handed⟩, changesOnly_onPort only g⟩
    · obtain ⟨g, m, pairs, acts, result, masked, asked⟩ := ackOnePeer_acts expected good active waits
      obtain ⟨v, hv⟩ : ∃ v, v = s.handRequest st m pairs := ⟨_, rfl⟩
      rw [acts, ← hv] at runs
      have formed : { v.onPort g with port := s.port } = v := by
        rw [← (by simp [hv] : v.port = s.port)]
        rfl
      have ok : (g v.port).result = .ok := by
        rw [result]
        exact if_pos (by simpa [Option.isSome_iff_ne_none] using room)
      cases found : s.requestFor st with
      | some i =>
        obtain ⟨q, entry, target⟩ := s.requestFor_some found
        obtain ⟨ann, -, only⟩ := handRequest_merges found entry m pairs
        rw [← hv] at ann only
        refine ⟨v.onPort g, i, _, runs, ok, only .journal (by simp), ann, target, rfl, .inl rfl, ?_, fun k => ?_,
          ⟨m, pairs, masked, asked, formed.trans hv⟩, changesOnly_onPort only g⟩
        · rw [Request.merge, Tab.get_build, if_pos ((masked c).2 rfl), asked]
          exact answer_of_selected waits
        · have bit : (q.merge m pairs).mask.getLsbD k.val = (q.mask.getLsbD k.val || m.getLsbD k.val) :=
            BitVec.getLsbD_or ..
          rw [bit, Bool.or_eq_true, masked, or_comm]
          refine or_congr_right ⟨fun is => ⟨q, rfl, entry, is⟩, ?_⟩
          rintro ⟨x, -, held, is⟩
          rwa [Option.some.inj (entry.symm.trans held)]
      | none =>
        obtain ⟨i, free⟩ : ∃ i, s.freePlace = some i := by
          simpa [found, Option.ne_none_iff_exists'] using room
        obtain ⟨ann, -, only⟩ := handRequest_takes found free m pairs
        rw [← hv] at ann only
        refine ⟨v.onPort g, i, _, runs, ok, only .journal (by simp), ann, rfl, rfl, .inr ⟨rfl, free⟩, ?_, fun k => ?_,
          ⟨m, pairs, masked, asked, formed.trans hv⟩, changesOnly_onPort only g⟩
        · rw [Request.new, asked]
          exact answer_of_selected waits
        · exact (masked k).trans (by simp)

end Machine
end Sys2Proof
end

section
namespace Sys2Proof
namespace Machine

/-! ### The end of a transmission and the laws (R84, R108, R109) -/

/-- What the completion of a transmission makes of an entry of the request table: one ON_LINE waits for its retry timer
(R84). -/
def Request.completed (due : Ms) (r : Request) : Request :=
  if r.pending = .onLine then { r with pending := .none, timer := some due, sendAgain := false } else r

@[simp] theorem completed_target (due : Ms) (r : Request) : (r.completed due).target = r.target := by
  rw [Request.completed]
  split <;> rfl

/-- The completion of a transmission keeps the link, with nothing on the line. -/
theorem Linked.completed {peer : Station → Prop} {sending : Bool} {q : List QEntry} {tab tab' : Tab 8 (Option Request)}
    (law : Linked peer sending q tab) (due : Ms) (table : ∀ i, tab'.get i = (tab.get i).map (Request.completed due)) :
    Linked peer false (q.filter (fun e => !e.onLine)) tab' := by
  obtain ⟨oneState, oneSilence, ackreqs, sent, distinct, targets, allFields⟩ := law
  have sub : (q.filter (fun e => !e.onLine)).Sublist q := List.filter_sublist
  have was : ∀ {i x}, tab'.get i = some x → ∃ r, tab.get i = some r ∧ x = r.completed due := by
    intro i x hx
    rw [table] at hx
    obtain ⟨r, hr, rfl⟩ := Option.map_eq_some_iff.1 hx
    exact ⟨r, hr, rfl⟩
  refine ⟨(sub.countP_le).trans oneState, (sub.countP_le).trans oneSilence, fun i => ?_, ?_,
    fun i j x y hx hy same => ?_, fun i x hx => ?_, fun i x hx => ?_⟩
  · rw [List.filter_filter, table]
    have swapped : q.filter (fun e => e.isAckreq i && !e.onLine) =
        (q.filter (QEntry.isAckreq i)).filter (fun e => !e.onLine) := by
      rw [List.filter_filter]
      exact List.filter_congr fun e _ => Bool.and_comm ..
    rw [swapped, ackreqs]
    cases tab.get i with
    | none => rfl
    | some r => cases h : r.pending <;> simp [ackEntries, Request.completed, h]
  · rw [List.countP_eq_zero.2 (by simp)]
    omega
  · obtain ⟨r, hr, rfl⟩ := was hx
    obtain ⟨z, hz, rfl⟩ := was hy
    exact distinct i j r z hr hz (by simpa using same)
  · obtain ⟨r, hr, rfl⟩ := was hx
    rw [completed_target]
    exact targets i r hr
  · obtain ⟨r, hr, rfl⟩ := was hx
    obtain ⟨mask, retries, timer, sendAgain⟩ := allFields i r hr
    rw [Request.completed]
    split
    · exact ⟨mask, retries, by simp, by simp⟩
    · exact ⟨mask, retries, timer, sendAgain⟩

/-- An urgent STATE joins the tail of a queue that holds none. -/
theorem Linked.urgentState {peer : Station → Prop} {sending : Bool} {q : List QEntry} {tab : Tab 8 (Option Request)}
    (law : Linked peer sending q tab) (none : q.countP QEntry.isState = 0) :
    Linked peer sending (q ++ [.urgentState]) tab :=
  law.of_states (by simp [QEntry.urgentState]) (by simp [QEntry.urgentState, none]) (by simp [QEntry.urgentState])

/-- A table whose entry ON_LINE is that of one ACKREQ, completed. -/
theorem completed_table {s : State} (queue : s.QueueLaw) (requests : s.RequestLaw) (due : Ms) {i : ReqIx} {r : Request}
    (found : s.onLineEntry = some ⟨.ackreq i, true⟩) (held : s.ann.requests.get i = some r) (j : ReqIx) :
    (s.ann.requests.set i (some { r with pending := .none, timer := some due, sendAgain := false })).get j =
      (s.ann.requests.get j).map (Request.completed due) := by
  rw [Tab.get_set]
  split
  · rename_i same
    rw [← same, held]
    simp [Request.completed, (pending_onLine_iff queue requests held).2 found]
  · rename_i apart
    cases held' : s.ann.requests.get j with
    | none => rfl
    | some x =>
      have notOnLine : x.pending ≠ .onLine := by
        intro is
        have other := (pending_onLine_iff queue requests held').1 is
        rw [found] at other
        cases other
        exact apart rfl
      simp [Request.completed, notOnLine]

/-- With no ACKREQ on the line the completion leaves the table. -/
theorem completed_table_of_other {s : State} (queue : s.QueueLaw) (requests : s.RequestLaw) (due : Ms)
    (other : ∀ i, s.onLineEntry ≠ some ⟨.ackreq i, true⟩) (j : ReqIx) :
    s.ann.requests.get j = (s.ann.requests.get j).map (Request.completed due) := by
  cases held : s.ann.requests.get j with
  | none => rfl
  | some r =>
    have notOnLine : r.pending ≠ .onLine := fun is => other j ((pending_onLine_iff queue requests held).1 is)
    simp [Request.completed, notOnLine]

/-- The completion of the own transmission keeps the link (R84, R108). -/
theorem State.TrafficLaw.complete_linked {s : State} (law : s.TrafficLaw) :
    Linked s.presentPeer false s.complete.frame.queue s.complete.ann.requests := by
  obtain ⟨-, queue, requests⟩ := (trafficLaw_iff s).1 law
  have others := fun h => law.linked.completed (s.after 200) (completed_table_of_other queue requests (s.after 200) h)
  cases found : s.onLineEntry with
  | none =>
    have stays : s.complete = s := by simp [State.complete, found]
    have waits : ∀ e ∈ s.frame.queue, (!e.onLine) = true := by
      simpa using List.find?_eq_none.1 found
    have kept := others (by simp [found])
    rw [List.filter_eq_self.2 waits] at kept
    rwa [stays]
  | some e =>
    obtain ⟨kind, b⟩ := e
    obtain rfl : b = true := List.find?_some (p := QEntry.onLine) found
    cases kind with
    | state urgent changed =>
      have kept := others (by simp [found])
      have completed : s.complete = s.completeState changed := by simp only [State.complete, found]
      rw [completed]
      have none : (s.frame.queue.filter (fun e => !e.onLine)).countP QEntry.isState = 0 := by
        obtain ⟨before, after, split⟩ := List.append_of_mem (List.mem_of_find?_eq_some found)
        have one := queue.state
        rw [split, List.countP_append, List.countP_cons, isState_state, if_pos rfl] at one
        rw [split, List.filter_append, List.filter_cons, if_neg (by simp), List.countP_append]
        have fewer : ∀ l : List QEntry,
            (l.filter (fun e => !e.onLine)).countP QEntry.isState ≤ l.countP QEntry.isState :=
          fun l => List.filter_sublist.countP_le
        have first := fewer before
        have last := fewer after
        omega
      cases changed
      · simpa [State.completeState] using kept
      · exact kept.urgentState none
    | silence zones =>
      have kept := others (by simp [found])
      have completed : s.complete = s.onFrame (fun f => { f with queue := f.queue.filter (fun x => !x.onLine) }) := by
        simp only [State.complete, found]
      rw [completed]
      exact kept
    | ackreq i =>
      obtain ⟨r, held⟩ := Option.isSome_iff_exists.1
        (requests.entry i _ (List.mem_of_find?_eq_some found) (by simp))
      have kept := law.linked.completed (s.after 200) (completed_table queue requests (s.after 200) found held)
      have completed : s.complete = s.completeAckreq i := by simp only [State.complete, found]
      have pending := (pending_onLine_iff queue requests held).2 found
      obtain ⟨mask, retries, timer, -⟩ := law.linked.fields i r held
      rw [completed]
      cases again : r.sendAgain with
      | false =>
        have once : s.completeAckreq i = (s.onFrame (fun f => { f with
            queue := f.queue.filter (fun x => !x.onLine) })).setRequest i (some { r with
              pending := .none, timer := some (s.after 200), sendAgain := false }) := by
          simp [State.completeAckreq, held, again, State.after]
        rw [once]
        exact kept
      | true =>
        have asked : s.completeAckreq i = ((s.onFrame (fun f => { f with
            queue := f.queue.filter (fun x => !x.onLine) })).setRequest i (some { r with
              sendAgain := false, pending := .queued })).queueAckreq i := by
          simp [State.completeAckreq, held, again]
        have idle : r.timer.isSome ≠ true := fun is => by simp [timer.1 is] at pending
        have queued := kept.queue (i := i) (r := { r with sendAgain := false, pending := .queued })
          (by simp [ackEntries]) rfl ⟨mask, retries, by simpa using idle, by simp⟩ (law.linked.target i r held)
          (fun j x hx same => by
            rw [completed_table queue requests (s.after 200) found held] at hx
            obtain ⟨z, hz, rfl⟩ := Option.map_eq_some_iff.1 hx
            exact law.linked.distinct j i z r hz held (by simpa using same))
        have replaced : ∀ x y, (s.ann.requests.set i x).set i y = s.ann.requests.set i y := fun x y =>
          Tab.ext fun j => by
            simp only [Tab.get_set]
            split <;> rfl
        rw [replaced] at queued
        rw [asked]
        exact queued

end Machine
end Sys2Proof
end

section
namespace Sys2Proof
namespace Machine

/-! ### Events of the line and the laws (Chapter 7) -/

/-- An event that opens a window, with nothing driven, and touches neither the queue nor the table nor the roster. -/
theorem State.TrafficLaw.opensWindow {s t : State} (law : s.TrafficLaw) (silent : s.line.sending = none)
    (line : t.line.state = .window ∧ t.line.slot = some 0 ∧ t.line.rx = .none ∧ t.line.sending = none ∧ t.line.jam = [])
    (stuck : t.life.lineStuck = false) (life : t.life.life = s.life.life) (own : t.own = s.own)
    (queue : t.frame.queue = s.frame.queue) (requests : t.ann.requests = s.ann.requests)
    (roster : t.pic.roster = s.pic.roster) : t.SettledLaw := by
  obtain ⟨state, slot, rx, sending, jam⟩ := line
  refine ⟨law.of_line ?_ (by rw [sending, silent]) life own queue requests (by rw [roster]; exact fun _ => id),
    quietLaw_of_not_quiet (by rw [state]; decide)⟩
  constructor <;> simp [state, slot, rx, sending, jam, stuck]

/-- The line is not stuck outside STUCK. -/
theorem State.LineLaw.not_stuck {s : State} (law : s.LineLaw) (state : s.line.state ≠ .stuck) :
    s.life.lineStuck = false := by
  simpa using fun is => state (law.stuck.1 is)

/-- A window begun by a station that drives nothing. -/
theorem State.TrafficLaw.beginWindow {s : State} (law : s.TrafficLaw) (silent : s.line.sending = none)
    (jam : s.line.jam = []) (state : s.line.state ≠ .stuck) : s.beginWindow.SettledLaw :=
  law.opensWindow silent ⟨rfl, rfl, rfl, silent, jam⟩ (law.line.not_stuck state) rfl rfl rfl rfl rfl

/-- A reception begun by a station that drives nothing. -/
theorem State.TrafficLaw.receives {s t : State} (law : s.TrafficLaw) (silent : s.line.sending = none)
    (jam : s.line.jam = []) (state : s.line.state ≠ .stuck) {rx : Rx} (is : rx ≠ .none)
    (received : t = s.onLine (fun l => { l with state := .receiving, slot := none, rx := rx })) : t.SettledLaw := by
  have stuck := law.line.not_stuck state
  subst received
  refine ⟨law.of_line ?_ rfl rfl rfl rfl rfl (fun _ => id), quietLaw_of_not_quiet (by simp)⟩
  constructor <;> simp [silent, jam, stuck, is]

/-- STARTUP_WAIT_END keeps the laws (R119). -/
theorem startupWaitEnd_settledLaw {s : State} (law : s.SettledLaw) : s.startupWaitEnd.SettledLaw := by
  unfold State.startupWaitEnd
  split
  · rename_i ends
    obtain ⟨-, state, -⟩ := ends
    exact law.traffic.beginWindow (law.traffic.sending_eq_none (by simp [state]))
      (law.traffic.line.jam_eq_nil (by simp [state])) (by simp [state])
  · exact law

/-- RECEPTION_START keeps the laws (R120). -/
theorem receptionStart_settledLaw {s : State} (law : s.SettledLaw) : s.receptionStart.SettledLaw := by
  have receives : s.line.state ≠ .transmitting → s.line.state ≠ .jamming → s.line.state ≠ .stuck →
      (s.onLine (fun l => { l with state := .receiving, slot := none, rx := .frame })).SettledLaw :=
    fun sends jams stuck => law.traffic.receives (law.traffic.sending_eq_none sends) (law.traffic.line.jam_eq_nil jams)
      stuck (by decide) rfl
  unfold State.receptionStart
  split
  · cases state : s.line.state <;> dsimp only
    case quiet => exact receives (by simp [state]) (by simp [state]) (by simp [state])
    case window => exact receives (by simp [state]) (by simp [state]) (by simp [state])
    case transmitting =>
      split
      · rename_i none
        exact law.traffic.receives (by simpa using none) (law.traffic.line.jam_eq_nil (by simp [state]))
          (by simp [state]) (by decide) rfl
      · exact law
    all_goals exact law
  · exact law

/-- A reception under way is one in RECEIVING. -/
theorem receiving_iff (s : State) (rx : Rx) : s.receiving rx = true ↔
    s.life.life.running = true ∧ s.line.state = .receiving ∧ s.line.rx = rx := by
  simp [State.receiving, and_assoc]

/-- A window begun at the end of a reception keeps the laws (R121 to R123). -/
theorem State.TrafficLaw.endsReception {s t : State} (law : s.TrafficLaw) {rx : Rx} (receives : s.receiving rx = true)
    (line : t.line = { s.line with
      state := .window, slot := some 0, nextSlot := 0, rx := .none, blind := t.line.blind, w := t.line.w })
    (life : t.life = s.life) (queue : t.frame.queue = s.frame.queue) (requests : t.ann = s.ann)
    (pic : t.pic = s.pic) : t.SettledLaw := by
  obtain ⟨-, state, -⟩ := (receiving_iff s rx).1 receives
  have silent := law.sending_eq_none (by simp [state])
  exact law.opensWindow silent (by rw [line]; exact ⟨rfl, rfl, rfl, silent, law.line.jam_eq_nil (by simp [state])⟩)
    (by rw [life]; exact law.line.not_stuck (by simp [state])) (by rw [life]) (by rw [State.own, life]; rfl) queue
    (by rw [requests]) (by rw [pic])

/-- An invalid end keeps the laws (R122). -/
theorem invalidEnd_settledLaw {s : State} (law : s.SettledLaw) : s.invalidEnd.SettledLaw := by
  simp only [State.invalidEnd]
  split
  · rename_i receives
    exact law.traffic.endsReception receives rfl rfl rfl rfl rfl
  · split
    · rename_i receives
      exact law.traffic.endsReception receives rfl rfl rfl rfl rfl
    · exact law

/-- INVALID_RECEPTION_END keeps the laws (R122). -/
theorem invalidReceptionEnd_settledLaw {s : State} (law : s.SettledLaw) (levels : List Level) :
    (s.invalidReceptionEnd levels).SettledLaw := by
  have ended := invalidEnd_settledLaw law
  unfold State.invalidReceptionEnd
  split
  · exact ended
  · split
    · exact law
    · exact ended
  · exact law
  · exact law

/-- JAM_END keeps the laws (R123, R131). -/
theorem jamEnd_settledLaw {s : State} (law : s.SettledLaw) (levels : List Level) : (s.jamEnd levels).SettledLaw := by
  unfold State.jamEnd
  split
  · rename_i jams
    obtain ⟨-, state⟩ := jams
    have silent := law.traffic.sending_eq_none (by simp [state])
    exact law.traffic.opensWindow silent ⟨rfl, rfl, rfl, silent, rfl⟩ (law.traffic.line.not_stuck (by simp [state]))
      rfl rfl rfl rfl rfl
  · split
    · split
      · rename_i receives
        exact law.traffic.endsReception receives rfl rfl rfl rfl rfl
      · split
        · rename_i receives
          exact law.traffic.endsReception receives rfl rfl rfl rfl rfl
        · exact law
    · exact law

/-- OWN_FRAME_END keeps the laws (R130). -/
theorem ownFrameEnd_settledLaw {s : State} (law : s.SettledLaw) : s.ownFrameEnd.SettledLaw := by
  unfold State.ownFrameEnd
  split
  · rename_i ends
    obtain ⟨-, state, silent⟩ := ends
    exact law.traffic.opensWindow silent ⟨rfl, rfl, rfl, silent, law.traffic.line.jam_eq_nil (by simp [state])⟩
      (law.traffic.line.not_stuck (by simp [state])) rfl rfl rfl rfl rfl
  · exact law

/-- LINE_RELEASED keeps the laws (R136). -/
theorem lineReleased_settledLaw {s : State} (law : s.SettledLaw) : s.lineReleased.SettledLaw := by
  unfold State.lineReleased
  split
  · rename_i released
    obtain ⟨-, state⟩ := released
    have silent := law.traffic.sending_eq_none (by simp [state])
    refine law.traffic.opensWindow silent ⟨rfl, rfl, rfl, ?_, ?_⟩ rfl ?_ ?_ ?_ ?_ ?_
    · simpa [State.beginWindow] using silent
    · simpa [State.beginWindow] using law.traffic.line.jam_eq_nil (by simp [state])
    · simp [LifeControl.driveSfault]
    · simp [State.own, LifeControl.driveSfault]
    all_goals simp
  · exact law

/-- SLOT_START keeps the laws (R124 to R127). -/
theorem slotStart_settledLaw {s : State} (law : s.SettledLaw) (slot : Fin 64) : (s.slotStart slot).SettledLaw := by
  unfold State.slotStart
  split
  · rename_i starts
    obtain ⟨-, state, -⟩ := starts
    obtain ⟨t, ht⟩ : ∃ t, t = s.onLine (fun l => { l with slot := some slot, nextSlot := slot.val + 1 }) := ⟨_, rfl⟩
    have tState : t.line.state = .window := by rw [ht]; exact state
    have traffic : t.TrafficLaw := by
      rw [ht]
      refine law.traffic.of_line ?_ rfl rfl rfl rfl rfl (fun _ => id)
      obtain ⟨sending, jam, jamLength, -, stuck, rx⟩ := law.traffic.line
      exact ⟨sending, jam, jamLength, by simp [state], stuck, rx⟩
    dsimp only
    rw [← ht]
    split
    · rename_i takes
      have active : t.life.life = .active := by
        simp only [State.startsIn, Bool.and_eq_true, beq_iff_eq] at takes
        rw [ht]
        exact takes.1.1
      refine ⟨traffic.startTransmission active (.inr tState), quietLaw_of_not_quiet ?_⟩
      by_cases waits : ∃ e ∈ t.frame.queue, e.onLine = false
      · obtain ⟨_, _, _, _, _, _, _, line, _⟩ := startTransmission_starts t waits
        simp [line]
      · rw [startTransmission_of_none_waits (by simpa using waits), tState]
        decide
    · exact ⟨traffic, quietLaw_of_not_quiet (by simp [tState])⟩
  · exact law

/-- WINDOW_END keeps the laws (R124, R128). -/
theorem windowEnd_settledLaw {s : State} (law : s.SettledLaw) : s.windowEnd.SettledLaw := by
  unfold State.windowEnd
  split
  · rename_i ends
    obtain ⟨-, state⟩ := ends
    refine State.TrafficLaw.quietStart (law.traffic.of_line ?_ rfl rfl rfl rfl rfl (fun _ => id))
    have silent := law.traffic.sending_eq_none (by simp [state])
    have jam := law.traffic.line.jam_eq_nil (by simp [state])
    have stuck := law.traffic.line.not_stuck (by simp [state])
    have rx : s.line.rx = .none := by
      by_contra receives
      have := law.traffic.line.rx
      simp [state, receives] at this
    constructor <;> simp [silent, jam, stuck, rx]
  · exact law

/-- TRANSMISSION_COMPLETE keeps the laws (R84, R108, R130). -/
theorem transmissionComplete_settledLaw {s : State} (law : s.SettledLaw) : s.transmissionComplete.SettledLaw := by
  unfold State.transmissionComplete
  split
  · rename_i sends
    simp only [State.transmitting, Bool.and_eq_true, beq_iff_eq] at sends
    obtain ⟨⟨active, state⟩, -⟩ := sends
    refine ⟨⟨?_, ?_, fun idle => absurd active (by simpa using idle), fun duplicate => ?_⟩,
      quietLaw_of_not_quiet (by simp [state])⟩
    · have jam := law.traffic.line.jam_eq_nil (by simp [state])
      have stuck := law.traffic.line.not_stuck (by simp [state])
      have rx := law.traffic.line.rx
      have slot := law.traffic.line.slot
      constructor <;> simp_all
    · rw [State.presentPeer_congr (s := s) (by simp) (by simp)]
      exact law.traffic.complete_linked
    · have life : s.life.life = .duplicate := by simpa using duplicate
      rw [active] at life
      cases life
  · exact law

/-- A transmission broken off keeps the laws, with nothing sent (R84, R109). -/
theorem State.TrafficLaw.breakOff {s : State} (law : s.TrafficLaw) :
    s.breakOff.TrafficLaw ∧ s.breakOff.line = { s.line with sending := none } := by
  obtain ⟨-, queue, requests⟩ := (trafficLaw_iff s).1 law
  obtain ⟨frame, line, -, -⟩ := breakOff_effect queue.onLine
  have table := breakOff_requests queue requests
  have peers : s.breakOff.presentPeer = s.presentPeer := State.presentPeer_congr (by simp) (by simp)
  refine ⟨⟨?_, ?_, fun idle => ?_, fun duplicate => ?_⟩, line⟩
  · obtain ⟨-, jam, jamLength, slot, stuck, rx⟩ := law.line
    exact ⟨by simp [line], by simpa [line] using jam, by simpa [line] using jamLength, by simpa [line] using slot,
      by simpa [line] using stuck, by simpa [line] using rx⟩
  · rw [peers, frame, line]
    exact law.linked.brokenOff table
  · obtain ⟨states, empty⟩ := law.active (by simpa using idle)
    rw [frame]
    refine ⟨fun e he => ?_, fun i => by rw [table, empty]; rfl⟩
    obtain ⟨x, hx, rfl⟩ := List.mem_map.1 he
    rw [(brokenOff_keeps x).2.1]
    exact states x hx
  · rw [frame, law.duplicate (by simpa using duplicate)]
    rfl

/-- LINE_STUCK keeps the laws (R134, R152). -/
theorem lineStuck_settledLaw {s : State} (law : s.SettledLaw) : s.lineStuck.SettledLaw := by
  unfold State.lineStuck
  split
  · obtain ⟨m, hm⟩ : ∃ m, m = if s.line.sending.isSome then s.breakOff else s := ⟨_, rfl⟩
    have silent : m.TrafficLaw ∧ m.line.sending = none := by
      rw [hm]
      split
      · obtain ⟨traffic, line⟩ := law.traffic.breakOff
        exact ⟨traffic, by rw [line]⟩
      · rename_i none
        exact ⟨law.traffic, by simpa using none⟩
    obtain ⟨traffic, silent⟩ := silent
    dsimp only
    rw [← hm]
    refine ⟨traffic.of_line ?_ ?_ ?_ ?_ ?_ ?_ ?_, quietLaw_of_not_quiet (by simp)⟩
    · constructor <;> split <;> simp [silent, LifeControl.driveSfault]
    all_goals split <;> simp [State.own, LifeControl.driveSfault]
  · exact law

/-- Entry to WITHDRAWN keeps the laws: the queue is left its STATE entry and the table none (R88, R114, R150). -/
theorem enterWithdrawn_trafficLaw {s : State} (law : s.TrafficLaw) (silent : s.line.sending = none)
    (jam : s.line.jam = []) : s.enterWithdrawn.TrafficLaw := by
  obtain ⟨-, queue, requests⟩ := (trafficLaw_iff s).1 law
  obtain ⟨frame, ann, -, ⟨n, -, -, life⟩, line, -⟩ := enterWithdrawn_effect requests.distinct requests.entry
  have states : ∀ e ∈ (s.frame.queue.filter QEntry.isState).map QEntry.madeUrgent, e.isState = true := by
    intro e he
    obtain ⟨x, hx, rfl⟩ := List.mem_map.1 he
    rw [(madeUrgent_keeps x).2.1]
    exact (List.mem_filter.1 hx).2
  have empty : ∀ i, s.enterWithdrawn.ann.requests.get i = none := by simp [ann]
  refine ⟨?_, ?_, fun _ => ⟨by rw [frame]; exact states, empty⟩, fun duplicate => ?_⟩
  · exact law.line.of_silent (by rw [line, silent]) (by rw [line, jam]) (by rw [line]) (by rw [line]) (by rw [line])
      (by rw [life])
  · rw [frame]
    refine linked_states _ _ empty states ?_ ?_
    · rw [List.length_map, ← List.countP_eq_length_filter]
      exact queue.state
    · intro e he
      obtain ⟨x, hx, rfl⟩ := List.mem_map.1 he
      rw [(madeUrgent_keeps x).1]
      by_contra onLine
      have sent := queue.sent x (List.mem_of_mem_filter hx) (by simpa using onLine)
      simp [silent] at sent
  · rw [life] at duplicate
    cases duplicate

/-- COLLISION keeps the laws (R84, R109, R131, R132). -/
theorem collision_settledLaw {s : State} (law : s.SettledLaw) (bitTime : Nat) : (s.collision bitTime).SettledLaw := by
  unfold State.collision
  split
  · rename_i sends
    obtain ⟨sends, -⟩ := sends
    simp only [State.transmitting, Bool.and_eq_true, beq_iff_eq] at sends
    obtain ⟨⟨active, state⟩, -⟩ := sends
    obtain ⟨traffic, line⟩ := law.traffic.breakOff
    have jam := law.traffic.line.jam_eq_nil (by simp [state])
    have stuck := law.traffic.line.not_stuck (by simp [state])
    have slot := law.traffic.line.slot
    have rx : s.line.rx = .none := law.traffic.line.rx.2 (by simp [state])
    dsimp only
    split
    · refine State.SettledLaw.driveOutputs ⟨enterWithdrawn_trafficLaw (traffic.of_line ?_ ?_ ?_ ?_ ?_ ?_ ?_) ?_ ?_,
        quietLaw_of_not_quiet ?_⟩
      · constructor <;> simp [line, jam, stuck, slot, state]
      all_goals simp [line, jam, State.own]
    · refine ⟨traffic.of_line ?_ ?_ ?_ ?_ ?_ ?_ ?_, quietLaw_of_not_quiet (by simp)⟩
      · constructor <;> simp [line, stuck, slot, state, active, rx, ownJam]
      all_goals simp [line, State.own]
  · exact law

end Machine
end Sys2Proof
end

section
namespace Sys2Proof
namespace Machine

/-! ### Timers and the laws -/

/-- A change of life state outside ACTIVE that leaves the line's driving, the queue and the table. -/
theorem State.TrafficLaw.of_life {s t : State} (law : s.TrafficLaw) (idle : s.life.life ≠ .active)
    (notDuplicate : t.life.life ≠ .duplicate) {w : Option Station} (line : t.line = { s.line with w := w })
    (stuck : t.life.lineStuck = s.life.lineStuck) (queue : t.frame.queue = s.frame.queue)
    (requests : t.ann.requests = s.ann.requests) : t.TrafficLaw := by
  obtain ⟨states, empty⟩ := law.active idle
  refine ⟨?_, ?_, fun _ => by rw [queue, requests]; exact ⟨states, empty⟩, fun is => absurd is notDuplicate⟩
  · have silent : s.line.sending = none := by
      by_contra sends
      exact idle (law.line.sending (by simpa [Option.isSome_iff_ne_none] using sends)).1
    have quiet : s.line.jam = [] := by
      by_contra jams
      exact idle (law.line.jam jams).1
    exact law.line.of_silent (by rw [line, silent]) (by rw [line, quiet]) (by rw [line]) (by rw [line]) (by rw [line])
      stuck
  · have sending : t.line.sending = s.line.sending := by rw [line]
    rw [sending, queue, requests]
    refine law.linked.mono fun i r held _ => ?_
    rw [empty] at held
    cases held

/-- LISTEN_TIMER_EXPIRY keeps the laws (R147). -/
theorem listenExpiry_settledLaw {s : State} (law : s.SettledLaw) : s.listenExpiry.SettledLaw := by
  unfold State.listenExpiry
  split
  · rename_i due listening _
    have entered : ((s.reachTime due).setLife (fun l => { l with life := .active, listen := none })).TrafficLaw :=
      law.traffic.of_life (w := s.line.w) (by rw [listening]; decide)
        (by simp [LifeControl.driveSfault]) (by simp) (by simp [LifeControl.driveSfault]) (by simp) (by simp)
    refine (entered.requestUrgent.of_line ?_ ?_ ?_ ?_ ?_ ?_ ?_ : State.TrafficLaw (State.enterActive _)).settle
    · obtain ⟨sending, jam, jamLength, slot, lineStuck, rx⟩ := entered.requestUrgent.line
      exact ⟨sending, jam, jamLength, slot, lineStuck, rx⟩
    all_goals simp [State.enterActive, State.own]
  · exact law

/-- WITHDRAW_TIMER_EXPIRY keeps the laws (R151). -/
theorem withdrawExpiry_settledLaw {s : State} (law : s.SettledLaw) : s.withdrawExpiry.SettledLaw := by
  unfold State.withdrawExpiry
  split
  · rename_i due withdrawn _
    have life : (s.reachTime due).enterListening.life.life = .listening := by
      simp [State.enterListening, LifeControl.driveSfault]
    refine State.SettledLaw.driveOutputs ⟨law.traffic.of_life (w := none) (by rw [withdrawn]; decide) ?_ ?_ ?_ ?_ ?_,
      fun active => ?_⟩
    · rw [life]; decide
    · simp [State.enterListening]
    · simp [State.enterListening, LifeControl.driveSfault]
    · simp
    · simp
    · rw [life] at active
      cases active
  · exact law

/-- REFRESH_TIMER_EXPIRY keeps the laws (R113). -/
theorem refreshExpiry_settledLaw {s : State} (law : s.SettledLaw) : s.refreshExpiry.SettledLaw := by
  unfold State.refreshExpiry
  split
  · rename_i due active _
    have stopped : ((s.reachTime due).onFrame (fun f => { f with refresh := none })).TrafficLaw :=
      law.traffic.of_same (by simp) (by simp) (by simp) (by simp) (by simp)
    exact (stopped.requestRoutine (by simpa using active)).settle
  · exact law

/-- RETRY_TIMER_EXPIRY keeps the laws (R85). -/
theorem retryExpiry_settledLaw {s : State} (law : s.SettledLaw) (i : ReqIx) : (s.retryExpiry i).SettledLaw := by
  unfold State.retryExpiry
  split
  · exact law
  · rename_i r held
    split
    · exact law
    · rename_i due timer
      obtain ⟨t, ht⟩ : ∃ t, t = s.reachTime due := ⟨_, rfl⟩
      have reached : t.TrafficLaw := ht ▸ law.traffic.reachTime due
      have heldT : t.ann.requests.get i = some r := by simpa [ht] using held
      obtain ⟨mask, retries, runs, again⟩ := reached.linked.fields i r heldT
      have pending : r.pending = .none := runs.1 (by simp [timer])
      dsimp only
      rw [← ht]
      refine State.TrafficLaw.settle ?_
      split
      · refine ⟨reached.line.of_same rfl rfl rfl, ?_, fun idle => ?_, fun duplicate => ?_⟩
        · refine reached.linked.queue (by simp [heldT, ackEntries, pending]) rfl ⟨mask, ?_, by simp, ?_⟩
            (reached.linked.target i r heldT) (fun j x hx same => reached.linked.distinct j i x r hx heldT same)
          · have := retries
            dsimp only
            omega
          · intro is
            rw [again is] at pending
            cases pending
        · have none := (reached.active idle).2 i
          rw [heldT] at none
          cases none
        · have none := (reached.active (by rw [show t.life.life = .duplicate from duplicate]; decide)).2 i
          rw [heldT] at none
          cases none
      · exact reached.failRequest i

/-- ABSENCE_TIMER_EXPIRY keeps the laws: a station that is not PRESENT any more is no request's target (R16, R87). -/
theorem absenceExpiry_settledLaw {s : State} (law : s.SettledLaw) (st : Station) : (s.absenceExpiry st).SettledLaw := by
  unfold State.absenceExpiry
  split
  · rename_i due _ _
    obtain ⟨t, ht⟩ : ∃ t, t = s.reachTime due := ⟨_, rfl⟩
    have reached : t.TrafficLaw := ht ▸ law.traffic.reachTime due
    obtain ⟨failed, others⟩ := reached.failTarget st
    obtain ⟨pic, -, ann, frame, -⟩ := rowAbsent_effect st t
    have asked : (t.rowAbsent st).requestFor st = t.requestFor st := by simp only [State.requestFor, ann]
    have same : (t.becomeAbsent st).frame.queue = (t.failTarget st).frame.queue ∧
        (t.becomeAbsent st).ann.requests = (t.failTarget st).ann.requests := by
      rw [State.becomeAbsent_eq]
      cases found : t.requestFor st with
      | none =>
        rw [State.failTarget_of_none found, State.failTarget_of_none (asked.trans found), frame, ann]
        exact ⟨rfl, rfl⟩
      | some i =>
        obtain ⟨r, held, -⟩ := t.requestFor_some found
        rw [State.failTarget_of_some found held, State.failTarget_of_some (asked.trans found) (by rw [ann, held])]
        simp [(State.freeRequest_effect i _).1, (State.freeRequest_effect i _).2, ann, frame]
    have roster : (t.becomeAbsent st).pic.roster = (t.pic.absent st).roster := by
      rw [State.becomeAbsent_eq]
      simp [pic]
    rw [← ht]
    refine (failed.of_targets ?_ ?_ ?_ ?_ same.1 same.2 ?_).settle
    · exact failed.line.of_same (by simp) (by simp) (by simp)
    · simp
    · simp
    · simp [State.own]
    · intro i r held present
      rw [roster, Picture.absent, Tab.get_set_other _ _ (others i r held).symm]
      simpa using present
  · exact law

end Machine
end Sys2Proof
end

section
namespace Sys2Proof
namespace Machine

/-! ### Conditions, points and presses and the laws -/

/-- EVALUATION keeps the laws (R45). -/
theorem evaluation_settledLaw {s : State} (law : s.SettledLaw) : s.evaluation.SettledLaw := by
  simp only [State.evaluation]
  split
  · exact law
  · rename_i n rest _
    have taken : (s.onCond (fun u => { u with notices := rest })).TrafficLaw := law.traffic.of_same rfl rfl rfl rfl rfl
    rw [evaluateItem_eq]
    exact State.TrafficLaw.settle
      (List.foldlRecOn (motive := State.TrafficLaw) _ _ taken (fun _ lawT c _ => lawT.evaluate c))

/-- HOLD_EXPIRY and RELEASE_EXPIRY keep the laws (R48, R52). -/
theorem truthExpiry_settledLaw {s : State} (law : s.SettledLaw) (c : CondIx) :
    (s.holdExpiry c).SettledLaw ∧ (s.releaseExpiry c).SettledLaw := by
  have turned : ∀ (due : Ms) (run : CondRun) (rising : Bool),
      (((s.reachTime due).setRun c run).truthEdge c rising).settle.SettledLaw := fun due run rising =>
    (((law.traffic.reachTime due).of_same (t := (s.reachTime due).setRun c run) rfl rfl rfl rfl rfl).truthEdge c
      rising).settle
  constructor
  · unfold State.holdExpiry
    split
    · exact turned _ _ _
    · exact law
  · unfold State.releaseExpiry
    split
    · exact turned _ _ _
    · exact law

/-- DEBOUNCE_EXPIRY keeps the laws (R26). -/
theorem debounceExpiry_settledLaw {s : State} (law : s.SettledLaw) (n : PointIx) : (s.debounceExpiry n).SettledLaw := by
  unfold State.debounceExpiry
  split
  · rename_i level due _ _
    obtain ⟨distinct, written⟩ := acceptedChange_eq ((s.reachTime due).setLine n (s.input.lines.get n).expire) n level
    rw [written]
    refine (State.TrafficLaw.writeOwnPoints ?_ ?_).settle
    · exact law.traffic.of_same (by simp) (by simp) (by simp) (by simp) (by simp)
    · rw [List.map_map]
      simpa [Function.comp_def] using distinct
  · exact law

/-- PAIR_TIMER_EXPIRY keeps the laws (R29). -/
theorem pairExpiry_settledLaw {s : State} (law : s.SettledLaw) (k : PairIx) : (s.pairExpiry k).SettledLaw := by
  unfold State.pairExpiry
  split
  · refine (State.TrafficLaw.writeOwnPoints ?_ ?_).settle
    · exact law.traffic.of_same (by simp) (by simp) (by simp) (by simp) (by simp)
    · simp [evenLine, oddLine]
  · exact law

/-- A condition of another station with quality GOOD is a PRESENT peer's (R4). -/
theorem presentPeer_of_good {s : State} (picture : s.PictureLaw) {st : Station} (peer : st ≠ s.own) {c : CondIx}
    (good : (s.condEntry st c).quality = .good) : s.presentPeer st := by
  refine ⟨peer, ?_⟩
  by_contra absent
  have unknown := (picture.notPresent st peer absent).2 c
  rw [good] at unknown
  cases unknown

/-- Requests asked in ACTIVE of PRESENT peers keep the laws (R82, R83). -/
theorem State.TrafficLaw.asksFor {s : State} (law : s.TrafficLaw) {l : List (Station × BitVec 8 × Tab 8 AckPair)}
    (peers : ∀ x ∈ l, s.presentPeer x.1 ∧ x.2.1 ≠ 0) : (s.asksFor l).TrafficLaw := by
  induction l generalizing s with
  | nil => exact law
  | cons x l ih =>
    obtain ⟨t, ht⟩ : ∃ t, t = if s.life.life = .active then s.handRequest x.1 x.2.1 x.2.2
      else s.record (.ackRefused x.1 x.2.1) := ⟨_, rfl⟩
    have lawT : t.TrafficLaw := by
      rw [ht]
      split
      · rename_i active
        obtain ⟨peer, asked⟩ := peers x (List.mem_cons_self ..)
        exact law.handRequest active peer asked x.2.2
      · exact law.record _
    have same : t.presentPeer = s.presentPeer := by
      refine State.presentPeer_congr ?_ ?_ <;> rw [ht] <;> split <;> simp
    have rest := ih lawT fun y hy => by
      rw [same]
      exact peers y (List.mem_cons_of_mem _ hy)
    rw [ht] at rest
    exact rest

/-- Acknowledgements keep the laws (R61). -/
theorem State.TrafficLaw.answersAll {s : State} (law : s.TrafficLaw) (l : List (CondIx × AckPair)) :
    (s.answersAll l).TrafficLaw :=
  List.foldlRecOn (motive := State.TrafficLaw) _ _ law (fun _ lawT x _ => lawT.applyAck x.1 x.2)

/-- A press of ACK keeps the laws: a request's target owns a condition of quality GOOD (R78). -/
theorem State.TrafficLaw.ackPress {s : State} (law : s.TrafficLaw) (picture : s.PictureLaw) :
    s.ackPress.TrafficLaw := by
  rw [ackPress_eq]
  refine (law.answersAll s.pressAcks).asksFor fun x hx => ?_
  obtain ⟨st, owner, rfl⟩ := List.mem_map.1 hx
  obtain ⟨peer, c, selected⟩ := mem_pressOwners.1 owner
  rw [State.presentPeer_congr (answersAll_pressAcks_life s)
    (foldl_keeps (fun t : State => t.pic.roster) (fun t x => by simp) _ _)]
  exact ⟨presentPeer_of_good picture peer selected.2.1, (maskWhere_ne_zero _).2 ⟨c, (selects_iff s st c).2 selected⟩⟩

/-- CONTROL_DEBOUNCE_EXPIRY keeps the laws (R33 to R35). -/
theorem controlExpiry_settledLaw {s : State} (law : s.SettledLaw) (picture : s.PictureLaw) (i : Control) :
    (s.controlExpiry i).SettledLaw := by
  unfold State.controlExpiry
  split
  · rename_i level due _ _
    obtain ⟨m, hm⟩ : ∃ m, m = (s.reachTime due).setControl i (s.input.control i).expire := ⟨_, rfl⟩
    have lawM : m.TrafficLaw := hm ▸ (law.traffic.reachTime due).of_same rfl rfl rfl rfl rfl
    have pictureM : m.PictureLaw := picture.of_pic (by simp [hm]) (by simp [hm]) (by simp [hm])
    rw [← hm]
    refine State.TrafficLaw.settle ?_
    unfold State.controlChange
    cases i with
    | ack =>
      dsimp only
      split
      · exact lawM.ackPress pictureM
      · exact lawM
    | silence =>
      dsimp only
      split
      · exact lawM.silencePress
      · exact lawM
    | test => exact lawM.of_same rfl rfl rfl rfl rfl
  · exact law

/-! ### The supervisor port and the laws -/

/-- A result set keeps the laws. -/
theorem State.TrafficLaw.result {s : State} (law : s.TrafficLaw) (r : Result) : (s.result r).TrafficLaw :=
  law.of_same rfl rfl rfl rfl rfl

/-- ACK_ONE keeps the laws (R80). -/
theorem ackOneChecks_settledLaw {s : State} (law : s.SettledLaw) (picture : s.PictureLaw) (a0 a1 : Byte) :
    (s.ackOneChecks a0 a1).SettledLaw := by
  have answered : ∀ r, (s.result r).SettledLaw := fun r => law.of_same rfl rfl rfl rfl rfl
  by_cases range : 32 ≤ a0.toNat ∨ 8 ≤ a1.toNat
  · rw [ackOneChecks_of_range range]
    exact answered _
  · obtain ⟨low0, low1⟩ := not_or.1 range
    obtain ⟨st, h0⟩ : ∃ st : Station, a0.toNat = st.val := ⟨⟨a0.toNat, by omega⟩, rfl⟩
    obtain ⟨c, h1⟩ : ∃ c : CondIx, a1.toNat = c.val := ⟨⟨a1.toNat, by omega⟩, rfl⟩
    rw [ackOneChecks_eq h0 h1]
    split
    · unfold State.ackOneOwn
      (repeat' split)
      · exact answered _
      · exact ((law.traffic.applyAck c _).result .ok).settle
      · exact answered _
    · rename_i peer
      unfold State.ackOnePeer
      split
      · exact answered _
      · split
        · exact answered _
        · rename_i good
          split
          · exact answered _
          · split
            · exact answered _
            · rename_i active
              split
              · exact answered _
              · have asked : maskWhere (fun k => k == c) ≠ 0 := (maskWhere_ne_zero _).2 ⟨c, beq_self_eq_true c⟩
                exact ((law.traffic.handRequest (not_not.1 active)
                  (presentPeer_of_good picture peer (not_not.1 good)) asked _).result _).settle

/-- Every command of the supervisor keeps the laws. -/
theorem runCommand_settledLaw {s : State} (law : s.SettledLaw) (picture : s.PictureLaw) (c : Command) :
    (s.runCommand c).SettledLaw := by
  unfold State.runCommand
  cases c
  case ackAll => exact ((law.traffic.ackPress picture).result .ok).settle
  case ackOne => exact ackOneChecks_settledLaw law picture _ _
  case silence => exact (law.traffic.silencePress.result .ok).settle
  all_goals exact law.of_same (by simp) (by simp) (by simp) (by simp) (by simp)

/-- A command settled keeps the laws (R181). -/
theorem settleCommand_settledLaw {s : State} (law : s.SettledLaw) (picture : s.PictureLaw) (code : Byte) :
    (s.settleCommand code).SettledLaw := by
  have answered : ∀ r, (s.result r).SettledLaw := fun r => law.of_same rfl rfl rfl rfl rfl
  unfold State.settleCommand
  split
  · exact answered _
  · split
    · exact answered _
    · split
      · exact answered _
      · split
        · exact answered _
        · exact runCommand_settledLaw law picture _

/-- A byte written keeps the laws (R177). -/
theorem writeByte_settledLaw {s : State} (law : s.SettledLaw) (picture : s.PictureLaw) (b : Byte) :
    (s.writeByte b).SettledLaw := by
  have written : ∀ off, (s.writeRegister off b).SettledLaw := fun off => by
    have held : ∀ f, (s.onPort f).SettledLaw := fun f => law.of_same rfl rfl rfl rfl rfl
    simp only [State.writeRegister]
    (repeat' split)
    · exact held _
    · exact held _
    · exact settleCommand_settledLaw (held _) (picture.of_pic id rfl rfl) b
    · exact law.of_same rfl rfl rfl rfl rfl
    · exact law
  exact (written _).of_same rfl rfl rfl rfl rfl

/-- A write transaction keeps the laws (R177). -/
theorem writeTransaction_settledLaw {s : State} (law : s.SettledLaw) (picture : s.PictureLaw) (address : BitVec 7)
    (data : List Byte) : (s.writeTransaction address data).SettledLaw := by
  have held : ∀ f, (s.onPort f).SettledLaw := fun f => law.of_same rfl rfl rfl rfl rfl
  have bytes : ∀ (l : List Byte) (t : State), t.SettledLaw → t.PictureLaw → (l.foldl State.writeByte t).SettledLaw := by
    intro l t lawT pictureT
    refine (List.foldlRecOn (motive := fun t : State => t.SettledLaw ∧ t.PictureLaw) l _ ⟨lawT, pictureT⟩ ?_).1
    rintro u ⟨lawU, pictureU⟩ b -
    exact ⟨writeByte_settledLaw lawU pictureU b,
      pictureU.of_quality (by simp) (by simp) (by simp) (by simp) (by simp)⟩
  simp only [State.writeTransaction]
  split
  · simp only [State.writeData]
    split
    · exact bytes _ _ (law.of_same rfl rfl rfl rfl rfl) (picture.of_pic id rfl rfl)
    · exact held _
    · exact held _
  · exact held _

/-- A command written keeps the laws (log entry 12). -/
theorem writeCommand_settledLaw {s : State} (law : s.SettledLaw) (picture : s.PictureLaw) (code : Byte) :
    (s.writeCommand code).SettledLaw :=
  writeTransaction_settledLaw law picture _ _

end Machine
end Sys2Proof
end

section
namespace Sys2Proof
namespace Machine

/-! ### Frames received and the laws (R100, R101, R121) -/

/-- A duplicate notice to a station whose line is in WINDOW keeps the laws (R148, R149). -/
theorem duplicateNotice_settledLaw {s : State} (law : s.TrafficLaw) (window : s.line.state = .window) :
    s.duplicateNotice.SettledLaw := by
  have silent := law.sending_eq_none (by simp [window])
  have jam := law.line.jam_eq_nil (by simp [window])
  obtain ⟨life, frame, ann, -, line, -⟩ := enterDuplicate_effect law.linked.distinct window
  have stays : s.SettledLaw := ⟨law, quietLaw_of_not_quiet (by simp [window])⟩
  have queue : s.enterDuplicate.frame.queue = [] := by rw [frame]
  have empty : ∀ i, s.enterDuplicate.ann.requests.get i = none := by simp [ann]
  have entered : s.enterDuplicate.SettledLaw := by
    refine ⟨⟨?_, by rw [queue]; exact linked_nil _ _ empty, fun _ => ⟨by simp [queue], empty⟩, fun _ => queue⟩,
      quietLaw_of_not_quiet (by rw [line, window]; decide)⟩
    exact law.line.of_silent (by rw [line, silent]) (by rw [line, jam]) (by rw [line]) (by rw [line]) (by rw [line])
      (by rw [life])
  unfold State.duplicateNotice
  split
  · exact entered
  · exact entered
  all_goals exact stays

/-- A STATE taken keeps the laws: its origin is PRESENT afterwards (R10 to R14, R86). -/
theorem State.TrafficLaw.takeState {s : State} (law : s.TrafficLaw) (st : Station) (f : StateFrame) :
    (s.takeState st f).TrafficLaw := by
  have taken : (s.takeRow st f).TrafficLaw := by
    obtain ⟨pic, -, -, -, requests, frame⟩ := rowTaken_effect st f s
    have same : (s.takeRow st f).line = s.line ∧ (s.takeRow st f).life = s.life := by simp
    simp only [State.takeRow_eq, State.resolveRequest_keeps] at same
    obtain ⟨line, life⟩ := same
    rw [State.takeRow_eq]
    refine State.TrafficLaw.resolveRequest (law.of_line (law.line.of_same line (by rw [life]) (by rw [life]))
      (by rw [line]) (by rw [life]) (by rw [State.own, life]; rfl) (by rw [frame]) requests fun x present => ?_) st _
    rw [pic]
    simp only [Picture.takeRow, Tab.get_set]
    split
    · rfl
    · exact present
  unfold State.takeState
  split
  · exact law
  · refine law.of_line (law.line.of_same (by simp) (by simp) (by simp)) (by simp) (by simp) (by simp [State.own])
      (by simp) (by simp) fun x present => ?_
    unfold State.strangerState
    dsimp only
    split
    · exact present
    · simp only [State.onPic, Picture.setRoster, Tab.get_set, State.record_keeps]
      split
      · rename_i same
        exact same ▸ present
      · exact present
  all_goals exact taken

/-- A frame heard restarts an absence timer at most (R15). -/
theorem State.TrafficLaw.heard {s : State} (law : s.TrafficLaw) (st : Station) : (s.heard st).TrafficLaw := by
  refine law.of_line (law.line.of_same (by simp) (by simp) (by simp)) (by simp) (by simp) (by simp [State.own])
    (by simp) (by simp) fun x present => ?_
  rw [heard_eq]
  split
  · simp only [State.onPic, Picture.setRoster, Tab.get_set]
    split
    · rename_i same
      exact same ▸ present
    · exact present
  · exact present

/-- An ACKREQ taken keeps the laws (R90). -/
theorem State.TrafficLaw.takeAckreq {s : State} (law : s.TrafficLaw) (target : Station) (mask : BitVec 8)
    (pairs : Tab 8 AckPair) : (s.takeAckreq target mask pairs).TrafficLaw := by
  rw [takeAckreq_eq]
  split
  · rw [ackMasked_eq_answersAll]
    exact (law.answersAll _).requestUrgent
  · exact law

/-- A frame received in WINDOW keeps the laws (R98 to R101). -/
theorem receiveFrame_settledLaw {s : State} (law : s.TrafficLaw) (window : s.line.state = .window) (bytes : List Byte) :
    (s.receiveFrame bytes).SettledLaw := by
  have raised : s.raiseDiscarded.TrafficLaw := law.of_same rfl rfl rfl rfl rfl
  by_cases own : frameOrigin bytes = s.own
  · rw [receiveFrame_of_own own]
    split
    · exact duplicateNotice_settledLaw raised window
    · exact duplicateNotice_settledLaw law window
  · cases decoded : decodeFrame bytes with
    | none =>
      have same : s.receiveFrame bytes = s.raiseDiscarded := by
        unfold State.receiveFrame
        simp only [decoded, Option.isNone_none, if_true]
        exact if_neg (by simpa [State.own] using own)
      rw [same]
      exact ⟨raised, quietLaw_of_not_quiet (by simpa using (by simp [window] : s.line.state ≠ .quiet))⟩
    | some frame =>
      obtain ⟨st, p⟩ := frame
      rw [receiveFrame_eq decoded (by rw [← decodeFrame_origin decoded] at own; exact own)]
      cases p with
      | state f => exact ⟨law.takeState st f, quietLaw_of_not_quiet (by simp [window])⟩
      | ackreq target mask pairs =>
        exact ⟨(law.heard st).takeAckreq target mask pairs, quietLaw_of_not_quiet (by simp [window])⟩
      | silence zones =>
        exact ⟨(law.heard st).of_same (by simp) (by simp) (by simp) (by simp) (by simp),
          quietLaw_of_not_quiet (by simp [window])⟩

/-- FRAME_END keeps the laws (R121). -/
theorem frameEnd_settledLaw {s : State} (law : s.SettledLaw) (levels : List Level) :
    (s.frameEnd levels).SettledLaw := by
  unfold State.frameEnd
  split
  · rename_i bytes _
    split
    · rename_i ends
      have atEnd : (s.atFrameEnd bytes).SettledLaw := law.traffic.endsReception ends.1 rfl rfl rfl rfl rfl
      exact (receiveFrame_settledLaw atEnd.traffic rfl bytes).driveOutputs
    · exact law
  all_goals exact law

/-! ### Acceptance and every command -/

/-- A station that has accepted an image meets the laws (R119, R144). -/
theorem State.Accepts.settledLaw {set : Settings} {s r t : State} (h : s.Accepts set r t) (idle : s.IdleLaw)
    (loading : s.life.life = .loading) : t.SettledLaw := by
  have notRunning : s.life.life.running = false := by rw [loading]; rfl
  have line : t.line = { LineUnit.reset with state := .receiving, rx := .startupWait, w := none, slot := none } := by
    rw [h.runs.line, h.start.same .line (by simp), idle.line notRunning]
  have stuck : t.life.lineStuck = false := by
    rw [h.runs.life, h.start.life]
    exact idle.stuck notRunning
  have life : t.life.life = .listening := by rw [h.runs.life]
  have empty : ∀ i, t.ann.requests.get i = none := by
    rw [h.runs.ann, h.start.ann]
    simp [AnnUnit.reset]
  have queue : t.frame.queue = if r.startTrues = [] then [] else [⟨.state true false, false⟩] := by rw [h.runs.frame]
  have states : (∀ e ∈ t.frame.queue, e.isState = true) ∧ t.frame.queue.length ≤ 1 ∧
      ∀ e ∈ t.frame.queue, e.onLine = false := by
    rw [queue]
    split <;> simp
  obtain ⟨states, one, waits⟩ := states
  refine ⟨⟨?_, linked_states _ _ empty states one waits, fun _ => ⟨states, empty⟩, fun duplicate => ?_⟩,
    quietLaw_of_not_quiet (by simp [line])⟩
  · constructor <;> simp [line, stuck, LineUnit.reset]
  · rw [life] at duplicate
    cases duplicate

/-- IMAGE_CHECK_END keeps the laws (R142, R144). -/
theorem imageCheckEnd_settledLaw {s : State} (law : s.SettledLaw) (idle : s.IdleLaw) : s.imageCheckEnd.SettledLaw := by
  by_cases checks : s.loader.phase = .checking ∧ s.life.life = .loading
  · obtain ⟨checking, loading⟩ := checks
    cases result : checkImage s.loader.buffer s.own with
    | error code =>
      have failed : s.imageCheckEnd =
          (s.onLoader (fun l => { l with phase := .idle, check := code })).failImage code := by
        simp only [State.imageCheckEnd, checking, loading, result, and_self, if_true]
      have life : s.imageCheckEnd.life.life ≠ .active ∧ s.imageCheckEnd.life.life ≠ .duplicate ∧
          s.imageCheckEnd.life.lineStuck = s.life.lineStuck := by
        rw [failed, State.failImage]
        split <;> simp [loading, LifeControl.driveSfault]
      obtain ⟨notActive, notDuplicate, stuck⟩ := life
      rw [failed] at notActive notDuplicate stuck ⊢
      exact ⟨law.traffic.of_life (w := s.line.w) (by simp [loading]) notDuplicate (by simp) stuck (by simp) (by simp),
        fun active => absurd active notActive⟩
    | ok set => exact (imageCheckEnd_accepts idle loading checking result).settledLaw idle loading
  · have same : s.imageCheckEnd = s := by simp only [State.imageCheckEnd, if_neg checks]
    rwa [same]

/-- Every command keeps the laws while the RESET pin is not held. -/
theorem effectRunning_settledLaw (c : Instr) {s : State} (law : s.SettledLaw) (picture : s.PictureLaw)
    (idle : s.IdleLaw) : (effectRunning c s).SettledLaw := by
  cases c
  case reset => exact settledLaw_of_reset rfl (show Life.loading ≠ .active by decide) rfl rfl rfl
  case imageCheckEnd => exact imageCheckEnd_settledLaw law idle
  case debounceExpiry line => exact debounceExpiry_settledLaw law line
  case pairTimerExpiry pair => exact pairExpiry_settledLaw law pair
  case controlDebounceExpiry input => exact controlExpiry_settledLaw law picture input
  case evaluation => exact evaluation_settledLaw law
  case holdExpiry cond => exact (truthExpiry_settledLaw law cond).1
  case releaseExpiry cond => exact (truthExpiry_settledLaw law cond).2
  case truthEdge cond =>
    simp only [effectRunning]
    split
    · exact (law.traffic.takeEdge cond).settle
    · exact law
  case retryTimerExpiry entry => exact retryExpiry_settledLaw law entry
  case absenceTimerExpiry station => exact absenceExpiry_settledLaw law station
  case refreshTimerExpiry => exact refreshExpiry_settledLaw law
  case listenTimerExpiry => exact listenExpiry_settledLaw law
  case withdrawTimerExpiry => exact withdrawExpiry_settledLaw law
  case startupWaitEnd => exact startupWaitEnd_settledLaw law
  case receptionStart => exact receptionStart_settledLaw law
  case frameEnd levels => exact frameEnd_settledLaw law levels
  case invalidReceptionEnd levels => exact invalidReceptionEnd_settledLaw law levels
  case jamEnd levels => exact jamEnd_settledLaw law levels
  case slotStart slot => exact slotStart_settledLaw law slot
  case windowEnd => exact windowEnd_settledLaw law
  case transmissionComplete => exact transmissionComplete_settledLaw law
  case ownFrameEnd => exact ownFrameEnd_settledLaw law
  case collision bitTime => exact collision_settledLaw law bitTime
  case lineStuck => exact lineStuck_settledLaw law
  case lineReleased => exact lineReleased_settledLaw law
  case imageBufferWrite offset bytes => exact writeTransaction_settledLaw law picture _ _
  case registerWrite address data => exact writeTransaction_settledLaw law picture _ _
  case take => exact writeCommand_settledLaw law picture _
  case ackAll => exact writeCommand_settledLaw law picture _
  case ackOne => exact writeCommand_settledLaw law picture _
  case silence => exact writeCommand_settledLaw law picture _
  case lampTestOn => exact writeCommand_settledLaw law picture _
  case lampTestOff => exact writeCommand_settledLaw law picture _
  case countClear => exact writeCommand_settledLaw law picture _
  case commit => exact writeCommand_settledLaw law picture _
  case unknownCommand code => exact writeCommand_settledLaw law picture code
  all_goals
    simp only [effectRunning]
    exact law.of_same (by simp) (by simp) (by simp) (by simp) (by simp)

/-- Every command keeps the laws of the line, the queue and the request table. -/
theorem effect_settledLaw (c : Instr) {s : State} (law : s.SettledLaw) (picture : s.PictureLaw) (idle : s.IdleLaw) :
    (effect c s).SettledLaw := by
  unfold effect
  split
  · by_cases resets : c.resets = true
    · cases c <;> simp only [Instr.resets, Bool.false_eq_true] at resets
      · exact settledLaw_of_reset rfl (show Life.loading ≠ .active by decide) rfl rfl rfl
      · rename_i source
        cases source <;> exact settledLaw_of_reset rfl (show Life.loading ≠ .active by decide) rfl rfl rfl
    · rcases effectHeld_of_not_resets (by simpa using resets) s with same | acts
      · rwa [same]
      · rw [acts]
        exact effectRunning_settledLaw c law picture idle
  · exact effectRunning_settledLaw c law picture idle

/-- Settles O56, one command at a time. -/
theorem stepsKeepTheLineAndQueueLaws : Obligations.StepsKeepTheLineAndQueueLaws := by
  intro s t lawful stepped
  rw [step_eq] at stepped
  cases stepped
  have law : s.SettledLaw := ⟨(trafficLaw_iff s).2 ⟨lawful.line, lawful.queue, lawful.requests⟩, lawful.quiet⟩
  have kept : ∀ {t : State}, t.SettledLaw → t.LineLaw ∧ t.QuietLaw ∧ t.QueueLaw ∧ t.RequestLaw := by
    rintro t ⟨traffic, quiet⟩
    obtain ⟨line, queue, requests⟩ := (trafficLaw_iff t).1 traffic
    exact ⟨line, quiet, queue, requests⟩
  refine kept ?_
  split
  · exact law.of_same (by simp) (by simp) (by simp) (by simp) (by simp)
  · rename_i c rest _
    obtain ⟨-, picture, idle⟩ := lawful.withPending rest
    exact effect_settledLaw c (law.of_same (t := s.withPending rest) rfl rfl rfl rfl rfl) picture idle

end Machine
end Sys2Proof
end

section
namespace Sys2Proof
namespace Machine

/-! ### A station at rest (R6, R31, R54, R74, R114, R118, R155, R184) -/

/-- The laws of the life states together. -/
structure State.LifeLaws (s : State) : Prop where
  idle : s.IdleLaw
  life : s.LifeLaw
  sfault : s.SfaultLaw

/-- A station whose working blocks stand as they rested, with its outputs off, is one at rest. -/
theorem idleLaw_of_rest {s t : State} (idle : s.IdleLaw) (rest : s.life.life.running = false)
    (same : s.changesOnly [.held, .clock, .pins, .life, .loader, .out, .journal, .port, .pending] t)
    (out : t.out = { OutputUnit.reset with phase := t.out.phase })
    (held : t.held = true → t.life.life = .loading) (stuck : t.life.lineStuck = false) : t.IdleLaw where
  heldIsLoading := held
  settings _ := (same .settings (by simp)).trans (idle.settings rest)
  picture _ := (same .pic (by simp)).trans (idle.picture rest)
  input _ := (same .input (by simp)).trans (idle.input rest)
  conditions _ := (same .cond (by simp)).trans (idle.conditions rest)
  annunciation _ := (same .ann (by simp)).trans (idle.annunciation rest)
  frames _ := (same .frame (by simp)).trans (idle.frames rest)
  line _ := (same .line (by simp)).trans (idle.line rest)
  report _ := (same .report (by simp)).trans (idle.report rest)
  outputs _ := out
  stuck _ := stuck

/-- What an event makes of a station at rest that it does not start: its working blocks stand, and its outputs show
nothing. -/
structure State.RestsTo (s t : State) : Prop where
  same : s.changesOnly [.clock, .pins, .loader, .out, .journal, .port] t
  out : t.out = { OutputUnit.reset with phase := t.out.phase }

/-- A station that stays at rest keeps the laws of the life states. -/
theorem State.RestsTo.lifeLaws {s t : State} (h : s.RestsTo t) (law : s.LifeLaws) (rest : s.life.life.running = false) :
    t.LifeLaws := by
  obtain ⟨idle, ⟨listen, withdraw, refresh, collisions, withdrawn, fault, configFault⟩, sfault⟩ := law
  have held : t.held = s.held := h.same .held (by simp)
  have life : t.life = s.life := h.same .life (by simp)
  have frame : t.frame = s.frame := h.same .frame (by simp)
  have line : t.line = s.line := h.same .line (by simp)
  refine ⟨idleLaw_of_rest idle rest (State.changesOnly_mono h.same (by decide)) h.out ?_ ?_, ?_, ?_⟩
  · rw [held, life]
    exact idle.heldIsLoading
  · rw [life]
    exact idle.stuck rest
  · rw [← life] at listen withdraw refresh withdrawn fault configFault
    rw [← frame] at refresh
    rw [← line] at collisions withdrawn
    exact ⟨listen, withdraw, refresh, collisions, withdrawn, fault, configFault⟩
  · rw [State.SfaultLaw, life]
    exact sfault

/-- What leaves the outputs of a station at rest alone leaves it at rest. -/
theorem restsTo_of_same {s t : State} (idle : s.IdleLaw) (rest : s.life.life.running = false)
    (same : s.changesOnly [.clock, .pins, .loader, .journal, .port] t) : s.RestsTo t := by
  have out : t.out = s.out := same .out (by simp)
  exact ⟨State.changesOnly_mono same (by decide), by rw [out]; exact idle.outputs rest⟩

/-- Outside the running life states every output line and HORN are off (R166). -/
theorem driveOutputs_of_rest {s : State} (rest : s.life.life.running = false) :
    s.driveOutputs = s.onOut (fun o => { o with levels := .fill 12 false, horn := false }) := by
  have off : (Tab.build fun i => s.life.life.running && s.outLevel (s.settings.outs.get i)) = Tab.fill 12 false :=
    Tab.ext fun i => by simp [rest]
  rw [State.driveOutputs, off]
  simp only [rest, Bool.false_and]

/-- The count may be set, and the outputs recomputed, in a station at rest: they stay off (R158, R166). -/
theorem restsTo_setClock {s : State} (idle : s.IdleLaw) (rest : s.life.life.running = false) (t : Ms) :
    s.RestsTo (s.setClock t).driveOutputs := by
  have out := idle.outputs rest
  constructor
  · intro b hb
    cases b <;> simp at hb <;> simp [Block.same]
  · rw [driveOutputs_of_rest (by simpa using rest)]
    simp only [State.onOut_out, OutputUnit.mk.injEq, State.setClock_keeps, true_and]
    rw [out]
    exact ⟨rfl, rfl, rfl, rfl, rfl⟩

/-- A command settled in a station at rest changes the loader, the journal and the port at most: LOADING takes TAKE and
COMMIT, and CONFIG_FAULT takes TAKE (R181). -/
theorem settleCommand_of_rest {s : State} (rest : s.life.life.running = false) (code : Byte) :
    s.changesOnly [.loader, .journal, .port] (s.settleCommand code) := by
  have answers : ∀ r, s.changesOnly [.loader, .journal, .port] (s.result r) := fun r b hb => by
    cases b <;> simp at hb <;> simp [Block.same]
  have takes : s.changesOnly [.loader, .journal, .port] s.takeRecord := fun b hb => by
    cases b <;> simp at hb <;> simp [Block.same]
  have commits : s.changesOnly [.loader, .journal, .port] s.commitImage := fun b hb => by
    cases b <;> simp at hb <;> simp [Block.same]
  unfold State.settleCommand
  split
  · exact answers _
  · split
    · exact answers _
    · rename_i c _
      split
      · exact answers _
      · split
        · exact answers _
        · rename_i loading fault
          cases life : s.life.life <;> simp [life, Life.running] at rest loading fault
          · cases c <;> simp [Command.inLoading] at loading
            · exact takes
            · exact commits
          · rw [fault]
            exact takes

/-- What is written to the port changes the port alone. -/
theorem State.onPort_changesOnly (s : State) (f : Port → Port) {l : List Block} (port : .port ∈ l) :
    s.changesOnly l (s.onPort f) := by
  intro b hb
  cases b
  case port => exact absurd port hb
  all_goals rfl

/-- A byte written in a station at rest changes the loader, the journal and the port at most (R177, R179). -/
theorem writeByte_of_rest {s : State} (rest : s.life.life.running = false) (b : Byte) :
    s.changesOnly [.loader, .journal, .port] (s.writeByte b) := by
  have ports : ∀ (t : State) f, t.changesOnly [.loader, .journal, .port] (t.onPort f) := fun t f =>
    t.onPort_changesOnly f (by simp)
  refine State.changesOnly_trans ?_ (ports _ _)
  simp only [State.writeRegister]
  (repeat' split)
  · exact ports _ _
  · exact ports _ _
  · exact State.changesOnly_trans (ports s _) (settleCommand_of_rest (s := s.onPort _) rest b)
  · intro b hb
    cases b <;> simp at hb <;> rfl
  · exact s.changesOnly_refl _

/-- A write transaction in a station at rest changes the loader, the journal and the port at most (R177). -/
theorem writeTransaction_of_rest {s : State} (rest : s.life.life.running = false) (address : BitVec 7)
    (data : List Byte) : s.changesOnly [.loader, .journal, .port] (s.writeTransaction address data) := by
  have ports : ∀ (t : State) f, t.changesOnly [.loader, .journal, .port] (t.onPort f) := fun t f =>
    t.onPort_changesOnly f (by simp)
  simp only [State.writeTransaction]
  split
  · simp only [State.writeData]
    split
    · refine List.foldlRecOn (motive := s.changesOnly [.loader, .journal, .port]) _ _ ?_ fun t same b _ => ?_
      · exact State.changesOnly_trans (ports _ _) (ports _ _)
      · have life : t.life = s.life := same .life (by simp)
        exact State.changesOnly_trans same (writeByte_of_rest (by rw [life]; exact rest) b)
    all_goals exact ports _ _
  · exact ports _ _

/-- A command other than the resets and the end of the image check leaves a station at rest as it rests (R139, R140). -/
theorem effectRunning_restsTo {s : State} (idle : s.IdleLaw) (rest : s.life.life.running = false) {c : Instr}
    (resets : c.resets = false) (checks : c ≠ .imageCheckEnd) : s.RestsTo (effectRunning c s) := by
  have stands : effectRunning c s = s → s.RestsTo (effectRunning c s) := fun same => by
    rw [same]
    exact restsTo_of_same idle rest (s.changesOnly_refl _)
  have writes : ∀ address data, s.RestsTo (s.writeTransaction address data) := fun address data =>
    restsTo_of_same idle rest (State.changesOnly_mono (writeTransaction_of_rest rest address data) (by decide))
  have ann := idle.annunciation rest
  have cond := idle.conditions rest
  have silent : ∀ rx, s.receiving rx = false := fun rx => by simp [State.receiving, rest]
  have lines : ∀ n, s.input.lines.get n = .reset := by simp [idle.input rest, PointUnit.reset]
  have pairs : ∀ k, s.input.pairs.get k = ⟨.complement, none⟩ := by simp [idle.input rest, PointUnit.reset]
  have controls : ∀ i, s.input.control i = .reset := fun i => by rw [idle.input rest]; cases i <;> rfl
  have notListening : s.life.life ≠ .listening := fun is => by simp [is, Life.running] at rest
  have notActive : s.life.life ≠ .active := fun is => by simp [is, Life.running] at rest
  have notWithdrawn : s.life.life ≠ .withdrawn := fun is => by simp [is, Life.running] at rest
  have notSending : s.transmitting = false := by simp [State.transmitting, notActive]
  cases c
  case reset => cases resets
  case leaveReset => cases resets
  case imageCheckEnd => exact absurd rfl checks
  case memoryReadEnd part =>
    refine restsTo_of_same idle rest fun b hb => ?_
    cases b <;> simp at hb <;> simp [Block.same, effectRunning]
  case readCapture part =>
    refine restsTo_of_same idle rest fun b hb => ?_
    cases b <;> simp at hb <;> simp [Block.same, effectRunning]
  case inputLevelChange n active =>
    refine ⟨fun b hb => ?_, ?_⟩
    · cases b <;> simp at hb <;> simp [Block.same, effectRunning, State.inputLevel, rest] <;> split <;> rfl
    · simpa [effectRunning] using idle.outputs rest
  case controlInputChange n active =>
    refine ⟨fun b hb => ?_, ?_⟩
    · cases b <;> simp at hb <;> simp [Block.same, effectRunning, State.controlLevel, rest] <;> split <;> rfl
    · simpa [effectRunning] using idle.outputs rest
  case patternPhaseStep => exact restsTo_setClock idle rest _
  case frameEnd levels => exact stands (receptionEnds_eq_self silent levels).1
  case invalidReceptionEnd levels => exact stands (receptionEnds_eq_self silent levels).2
  case jamEnd levels => exact stands (jamEnd_eq_self silent (by simp [rest]) levels)
  case debounceExpiry n => exact stands (by simp [effectRunning, State.debounceExpiry, lines, Debouncer.reset])
  case pairTimerExpiry k => exact stands (by simp [effectRunning, State.pairExpiry, pairs])
  case controlDebounceExpiry i => exact stands (by simp [effectRunning, State.controlExpiry, controls, Debouncer.reset])
  case evaluation => exact stands (by simp [effectRunning, State.evaluation, cond, CondUnit.reset])
  case holdExpiry c => exact stands (by simp [effectRunning, State.holdExpiry, cond, CondUnit.reset])
  case releaseExpiry c => exact stands (by simp [effectRunning, State.releaseExpiry, cond, CondUnit.reset])
  case truthEdge c => exact stands (by simp [effectRunning, ann, AnnUnit.reset])
  case retryTimerExpiry i => exact stands (by simp [effectRunning, State.retryExpiry, ann, AnnUnit.reset])
  case silenceLatchClear => exact stands (by simp [effectRunning, State.latchClear, ann, AnnUnit.reset])
  case absenceTimerExpiry st =>
    exact stands (by simp [effectRunning, State.absenceExpiry, idle.picture rest, Picture.reset])
  case refreshTimerExpiry => exact stands (by simp [effectRunning, State.refreshExpiry, notActive])
  case listenTimerExpiry => exact stands (by simp [effectRunning, State.listenExpiry, notListening])
  case withdrawTimerExpiry => exact stands (by simp [effectRunning, State.withdrawExpiry, notWithdrawn])
  case startupWaitEnd => exact stands (by simp [effectRunning, State.startupWaitEnd, rest])
  case receptionStart => exact stands (by simp [effectRunning, State.receptionStart, rest])
  case slotStart slot => exact stands (by simp [effectRunning, State.slotStart, rest])
  case windowEnd => exact stands (by simp [effectRunning, State.windowEnd, rest])
  case transmissionComplete => exact stands (by simp [effectRunning, State.transmissionComplete, notSending])
  case ownFrameEnd => exact stands (by simp [effectRunning, State.ownFrameEnd, rest])
  case collision bitTime => exact stands (by simp [effectRunning, State.collision, notSending])
  case lineStuck => exact stands (by simp [effectRunning, State.lineStuck, rest])
  case lineReleased => exact stands (by simp [effectRunning, State.lineReleased, rest])
  case reportLineEnd =>
    exact stands (by simp [effectRunning, State.reportLineEnd, idle.report rest, ReportUnit.reset])
  all_goals
    simp only [effectRunning, State.writeCommand]
    exact writes _ _

end Machine
end Sys2Proof
end

section
namespace Sys2Proof
namespace Machine

/-! ### A station that runs (R113, R132, R146, R151, R153) -/

/-- A running station with its timers, its collision count and SFAULT as its life state has them. -/
structure State.AtWork (s : State) : Prop where
  running : s.life.life.running = true
  life : s.LifeLaw
  sfault : s.SfaultLaw

/-- A running station at work meets the laws of the life states: those of a station at rest ask nothing of it. -/
theorem State.AtWork.lifeLaws {s : State} (h : s.AtWork) (held : s.held = false) : s.LifeLaws := by
  refine ⟨?_, h.life, h.sfault⟩
  constructor <;> simp [held, h.running]

/-- An event that leaves Life Control leaves a station at work, where the refresh timer and the collision count agree
with the life state after it. -/
theorem State.AtWork.of_life {s t : State} (h : s.AtWork) (life : t.life = s.life)
    (refresh : t.frame.refresh.isSome = true → s.life.life = .active) (collisions : t.line.collisions ≤ 16)
    (withdrawn : s.life.life = .withdrawn → t.line.collisions = 16) : t.AtWork := by
  obtain ⟨running, ⟨listen, withdraw, -, -, -, fault, configFault⟩, sfault⟩ := h
  rw [← life] at running listen withdraw refresh withdrawn fault configFault
  refine ⟨running, ⟨listen, withdraw, refresh, collisions, withdrawn, fault, configFault⟩, ?_⟩
  rw [State.SfaultLaw, life]
  exact sfault

/-- An event that leaves Life Control, the refresh timer and the collision count leaves a station at work. -/
theorem State.AtWork.of_same {s t : State} (h : s.AtWork) (life : t.life = s.life)
    (refresh : t.frame.refresh = s.frame.refresh) (collisions : t.line.collisions = s.line.collisions) : t.AtWork :=
  h.of_life life (by rw [refresh]; exact h.life.refresh) (by rw [collisions]; exact h.life.collisions)
    (by rw [collisions]; exact h.life.withdrawn)

/-- Driving SFAULT gives it its standing (Table 8-7). -/
theorem driveSfault_sfault (l : LifeControl) : l.driveSfault.sfault = sfaultOf l.life l.lineStuck := by
  unfold LifeControl.driveSfault
  cases l.life <;> simp [sfaultOf]

/-- A station whose Life Control was set last. -/
theorem atWork_of_setLife {t : State} {l : LifeControl} (set : t.life = l.driveSfault) (running : l.life.running = true)
    (fault : l.fault = .none) (listen : l.listen.isSome = true ↔ l.life = .listening)
    (withdraw : l.withdraw.isSome = true ↔ l.life = .withdrawn)
    (refresh : t.frame.refresh.isSome = true → l.life = .active) (collisions : t.line.collisions ≤ 16)
    (withdrawn : l.life = .withdrawn → t.line.collisions = 16) : t.AtWork := by
  have life : t.life.life = l.life := by rw [set]; rfl
  refine ⟨by rw [life]; exact running, ⟨?_, ?_, ?_, collisions, ?_, ?_, ?_⟩, ?_⟩
  · rw [set]; exact listen
  · rw [set]; exact withdraw
  · rw [set]; exact refresh
  · rw [set]; exact withdrawn
  · rw [set]; exact fun _ => fault
  · rw [life]
    intro is
    simp [is, Life.running] at running
  · rw [State.SfaultLaw, set]
    exact driveSfault_sfault l

/-- Entry to ACTIVE stops the listen timer and starts the refresh timer (R113, R147). -/
theorem listenExpiry_atWork {s : State} (h : s.AtWork) : s.listenExpiry.AtWork := by
  unfold State.listenExpiry
  split
  · rename_i due listening _
    have withdraw : s.life.withdraw.isSome = false := by
      have := h.life.withdraw
      simpa [listening] using this
    refine atWork_of_setLife (l := { s.life with life := .active, listen := none }) ?_ rfl (h.life.fault h.running)
      ?_ ?_ (fun _ => rfl) ?_ ?_
    · simp [State.enterActive]
    · simp
    · simp [withdraw]
    · simpa using h.life.collisions
    · simp
  · exact h

/-- Entry to LISTENING from WITHDRAWN starts the listen timer (R146, R151). -/
theorem withdrawExpiry_atWork {s : State} (h : s.AtWork) : s.withdrawExpiry.AtWork := by
  unfold State.withdrawExpiry
  split
  · rename_i due withdrawn _
    have refresh : s.frame.refresh.isSome ≠ true := fun some => by simpa [withdrawn] using h.life.refresh some
    obtain ⟨m, hm⟩ : ∃ m, m = s.reachTime due := ⟨_, rfl⟩
    refine atWork_of_setLife
      (l := { s.life with life := .listening, listen := some (m.after (2 * m.period)), withdraw := none })
      ?_ rfl (h.life.fault h.running) ?_ ?_ ?_ ?_ ?_
    · simp [State.enterListening, hm]
    · simp
    · simp
    · simpa using refresh
    · simpa using h.life.collisions
    · simp
  · exact h

/-- The refresh timer's expiry stops it (R113). -/
theorem refreshExpiry_atWork {s : State} (h : s.AtWork) : s.refreshExpiry.AtWork := by
  unfold State.refreshExpiry
  split
  · exact h.of_life (by simp) (by simp) (by simpa using h.life.collisions) (by simpa using h.life.withdrawn)
  · exact h

/-- Entry to DUPLICATE stops the timers (R114, R149). -/
theorem duplicateNotice_atWork {s : State} (h : s.AtWork) : s.duplicateNotice.AtWork := by
  have enters : s.life.life = .listening ∨ s.life.life = .active → s.enterDuplicate.AtWork := fun life => by
    have withdraw : s.life.withdraw.isSome ≠ true := fun some => by
      have := h.life.withdraw.1 some
      rcases life with is | is <;> simp [is] at this
    refine atWork_of_setLife (l := { s.life with life := .duplicate, listen := none }) ?_ rfl (h.life.fault h.running)
      ?_ ?_ ?_ ?_ ?_
    · simp [State.enterDuplicate]
    · simp
    · simpa using withdraw
    · simp [State.enterDuplicate]
    · simpa using h.life.collisions
    · simp
  unfold State.duplicateNotice
  split
  · rename_i life; exact enters (.inl life)
  · rename_i life; exact enters (.inr life)
  all_goals exact h

/-- A frame of no kind, or of a length that is not its kind's, that another station sends is counted (R99). -/
theorem receiveFrame_of_unreadable {s : State} {bytes : List Byte} (unreadable : decodeFrame bytes = none)
    (other : frameOrigin bytes ≠ s.own) : s.receiveFrame bytes = s.raiseDiscarded := by
  unfold State.receiveFrame
  simp only [unreadable, Option.isNone_none, if_true]
  exact if_neg (by simpa [State.own] using other)

/-- What a frame received comes to: a duplicate notice, a count, or its kind's dispatch (R99 to R101). -/
theorem receiveFrame_inv (s : State) (bytes : List Byte) :
    (frameOrigin bytes = s.own ∧ s.receiveFrame bytes =
      (if (decodeFrame bytes).isNone then s.raiseDiscarded else s).duplicateNotice) ∨
    (decodeFrame bytes = none ∧ s.receiveFrame bytes = s.raiseDiscarded) ∨
    ∃ st p, decodeFrame bytes = some ⟨st, p⟩ ∧ s.receiveFrame bytes = match p with
      | .state f => s.takeState st f
      | .ackreq target mask pairs => (s.heard st).takeAckreq target mask pairs
      | .silence zones => (s.heard st).takeSilence zones := by
  by_cases own : frameOrigin bytes = s.own
  · exact .inl ⟨own, receiveFrame_of_own own⟩
  · cases decoded : decodeFrame bytes with
    | none => exact .inr (.inl ⟨rfl, receiveFrame_of_unreadable decoded own⟩)
    | some frame =>
      obtain ⟨st, p⟩ := frame
      refine .inr (.inr ⟨st, p, rfl, ?_⟩)
      rw [receiveFrame_eq decoded (by rw [← decodeFrame_origin decoded] at own; exact own)]
      cases p <;> rfl

/-- A frame received moves Life Control by a duplicate notice alone (R101, R149). -/
theorem receiveFrame_atWork {s : State} (h : s.AtWork) (bytes : List Byte) : (s.receiveFrame bytes).AtWork := by
  have raised : s.raiseDiscarded.AtWork := h.of_same (by simp) (by simp) (by simp)
  rcases receiveFrame_inv s bytes with ⟨-, notice⟩ | ⟨-, counted⟩ | ⟨st, p, -, taken⟩
  · rw [notice]
    split
    · exact duplicateNotice_atWork raised
    · exact duplicateNotice_atWork h
  · rwa [counted]
  · rw [taken]
    cases p <;> exact h.of_same (by simp) (by simp) (by simp)

/-- FRAME_END keeps a station at work (R121). -/
theorem frameEnd_atWork {s : State} (h : s.AtWork) (levels : List Level) : (s.frameEnd levels).AtWork := by
  rcases frameEnd_cases s levels with same | ⟨bytes, -, -, taken⟩
  · rwa [same]
  · rw [taken]
    have atEnd : (s.atFrameEnd bytes).AtWork := h.of_same (by simp) (by simp) rfl
    exact (receiveFrame_atWork atEnd bytes).of_same (by simp) (by simp) (by simp)

/-- The own frame is sent in ACTIVE alone (R130, R133). -/
theorem active_of_transmitting {s : State} (sends : s.transmitting = true) : s.life.life = .active := by
  simp only [State.transmitting, Bool.and_eq_true, beq_iff_eq] at sends
  exact sends.1.1

/-- A completion clears the collision count in ACTIVE, and that of a STATE restarts the refresh timer (R113, R130). -/
theorem transmissionComplete_atWork {s : State} (h : s.AtWork) : s.transmissionComplete.AtWork := by
  unfold State.transmissionComplete
  split
  · rename_i sends
    have active := active_of_transmitting sends
    exact h.of_life (by simp) (fun _ => active) (by simp) (by simp [active])
  · exact h

/-- A collision counts to 16 and no further, and the sixteenth withdraws the station (R132, R150). -/
theorem collision_atWork {s : State} (h : s.AtWork) (bitTime : Nat) : (s.collision bitTime).AtWork := by
  unfold State.collision
  dsimp only
  split
  · rename_i sends
    have active := active_of_transmitting sends.1
    have listen : s.life.listen.isSome ≠ true := fun some => by simpa [active] using h.life.listen.1 some
    split
    · rename_i full
      obtain ⟨m, hm⟩ : ∃ m, m = (s.breakOff.onLine (fun l => { l with
          collisions := min 16 (s.line.collisions + 1) })).onLine
            (fun l => { l with state := .receiving, rx := .frame }) := ⟨_, rfl⟩
      have life : m.life = s.life := by simp [hm]
      have count : m.line.collisions = 16 := by simpa [hm] using full
      rw [← hm]
      have withdrawn : m.enterWithdrawn.AtWork := by
        refine atWork_of_setLife (l := { s.life with
          life := .withdrawn
          withdraw := some (m.after (withdrawMs m.period (Config.withdrawDraw s.life.draws)))
          withdrawFor := withdrawMs m.period (Config.withdrawDraw s.life.draws)
          draws := s.life.draws + 1 }) ?_ rfl (h.life.fault h.running) ?_ ?_ ?_ ?_ ?_
        · simp [State.enterWithdrawn, life, State.after, State.period]
        · simpa using listen
        · simp
        · simp [State.enterWithdrawn]
        · simp [count]
        · simp [count]
      exact withdrawn.of_same (by simp) (by simp) (by simp)
    · exact h.of_life (by simp) (fun _ => active) (by simp) (by simp [active])
  · exact h

/-- The line-stuck field set or cleared moves SFAULT with it, and a station stays at work (R134, R136, R153). -/
theorem State.AtWork.of_stuck {s t : State} (h : s.AtWork) {stuck : Bool}
    (life : t.life = ({ s.life with lineStuck := stuck } : LifeControl).driveSfault)
    (refresh : t.frame.refresh = s.frame.refresh) (collisions : t.line.collisions = s.line.collisions) : t.AtWork :=
  atWork_of_setLife life h.running (h.life.fault h.running) h.life.listen h.life.withdraw
    (by rw [refresh]; exact h.life.refresh) (by rw [collisions]; exact h.life.collisions)
    (by rw [collisions]; exact h.life.withdrawn)

/-- LINE_STUCK tells Life Control (R134, R152). -/
theorem lineStuck_atWork {s : State} (h : s.AtWork) : s.lineStuck.AtWork := by
  by_cases acts : s.life.life.running = true ∧ s.line.state ≠ .stuck
  · refine h.of_stuck (stuck := true) ?_ (by simp) (by simp)
    simp only [State.lineStuck, if_pos acts]
    split <;> split <;> simp
  · have same : s.lineStuck = s := by simp only [State.lineStuck, if_neg acts]
    rwa [same]

/-- LINE_RELEASED tells Life Control (R136). -/
theorem lineReleased_atWork {s : State} (h : s.AtWork) : s.lineReleased.AtWork := by
  by_cases acts : s.life.life.running = true ∧ s.line.state = .stuck
  · refine h.of_stuck (stuck := false) ?_ (by simp) (by simp)
    simp [State.lineReleased, acts]
  · have same : s.lineReleased = s := by simp only [State.lineReleased, if_neg acts]
    rwa [same]

/-- A command other than the resets leaves a station at work (R139). -/
theorem effectRunning_atWork {c : Instr} (resets : c.resets = false) {s : State} (h : s.AtWork) :
    (effectRunning c s).AtWork := by
  have notLoading : s.life.life ≠ .loading := fun is => by simpa [is, Life.running] using h.running
  cases c
  case reset => cases resets
  case leaveReset => cases resets
  case imageCheckEnd =>
    have same : s.imageCheckEnd = s := by simp [State.imageCheckEnd, notLoading]
    simp only [effectRunning]
    rwa [same]
  case truthEdge cond =>
    simp only [effectRunning]
    split
    · exact h.of_same (by simp) (by simp) (by simp)
    · exact h
  case refreshTimerExpiry => exact refreshExpiry_atWork h
  case listenTimerExpiry => exact listenExpiry_atWork h
  case withdrawTimerExpiry => exact withdrawExpiry_atWork h
  case frameEnd levels => exact frameEnd_atWork h levels
  case transmissionComplete => exact transmissionComplete_atWork h
  case collision bitTime => exact collision_atWork h bitTime
  case lineStuck => exact lineStuck_atWork h
  case lineReleased => exact lineReleased_atWork h
  all_goals
    simp only [effectRunning]
    exact h.of_same (by simp) (by simp) (by simp)

end Machine
end Sys2Proof
end

section
namespace Sys2Proof
namespace Machine

/-! ### Every step (R139, R140) -/

/-- No check fails with NONE (Table 8-4). -/
theorem checkImage_error {m : Memory} {stn : Station} {code : FaultCode} (fails : checkImage m stn = .error code) :
    code ≠ .none := by
  rintro rfl
  simp only [checkImage] at fails
  (repeat' split at fails) <;> cases fails

/-- A check that fails leaves the station at rest, in CONFIG_FAULT with its code where the memory is the source (R142,
R145). -/
theorem failImage_lifeLaws {s : State} (law : s.LifeLaws) (held : s.held = false) (loading : s.life.life = .loading)
    {code : FaultCode} (fails : code ≠ .none) : (s.failImage code).LifeLaws := by
  have rest : s.life.life.running = false := by rw [loading]; rfl
  have stuck : s.life.lineStuck = false := law.idle.stuck rest
  have out : s.out = { OutputUnit.reset with phase := s.out.phase } := law.idle.outputs rest
  have listen : s.life.listen.isSome ≠ true := fun some => by simpa [loading] using law.life.listen.1 some
  have withdraw : s.life.withdraw.isSome ≠ true := fun some => by simpa [loading] using law.life.withdraw.1 some
  have refresh : s.frame.refresh.isSome ≠ true := fun some => by simpa [loading] using law.life.refresh some
  have same : s.changesOnly [.held, .clock, .pins, .life, .loader, .out, .journal, .port, .pending]
      (s.failImage code) := fun b hb => by cases b <;> simp at hb <;> simp [Block.same]
  have life : (s.failImage code).life = match s.life.source with
      | .memory => ({ s.life with life := .configFault, fault := code } : LifeControl).driveSfault
      | .supervisor => ({ s.life with fault := code } : LifeControl).driveSfault := by
    cases source : s.life.source <;> simp [State.failImage, source]
  refine ⟨idleLaw_of_rest law.idle rest same (by simpa using out) (by simp [held]) (by simpa using stuck), ?_, ?_⟩
  · have count : (s.failImage code).line.collisions ≤ 16 := by simpa using law.life.collisions
    cases source : s.life.source <;> rw [source] at life <;>
      refine ⟨?_, ?_, ?_, count, ?_, ?_, ?_⟩ <;>
      simp [life, loading, listen, withdraw, refresh, fails, source, Life.running]
  · rw [State.SfaultLaw, life]
    cases s.life.source <;> exact driveSfault_sfault _

/-- An image accepted starts the station at work in LISTENING (R144, R146). -/
theorem State.Accepts.atWork {set : Settings} {s r t : State} (h : s.Accepts set r t) (law : s.LifeLaws)
    (loading : s.life.life = .loading) : t.AtWork := by
  have rest : s.life.life.running = false := by rw [loading]; rfl
  have withdraw : s.life.withdraw.isSome ≠ true := fun some => by simpa [loading] using law.life.withdraw.1 some
  have stuck : s.life.lineStuck = false := law.idle.stuck rest
  have life := h.life stuck
  have refresh : t.frame.refresh.isSome ≠ true := by
    rw [h.runs.frame, h.start.same .frame (by simp)]
    exact fun some => by simpa [loading] using law.life.refresh some
  have count : t.line.collisions ≤ 16 := by
    rw [h.runs.line, h.start.same .line (by simp)]
    exact law.life.collisions
  refine ⟨?_, ⟨?_, ?_, ?_, count, ?_, ?_, ?_⟩, ?_⟩
  all_goals simp [life, State.SfaultLaw, sfaultOf, stuck, refresh, Life.running]

/-- The end of the image check by its outcome: nothing checked, a check that fails or an acceptance (R142 to R145). -/
theorem imageCheckEnd_cases {s : State} (idle : s.IdleLaw) : s.imageCheckEnd = s ∨
    s.life.life = .loading ∧ (∃ code, checkImage s.loader.buffer s.own = .error code ∧
      s.imageCheckEnd = (s.onLoader (fun l => { l with phase := .idle, check := code })).failImage code) ∨
    s.life.life = .loading ∧ ∃ set r, s.Accepts set r s.imageCheckEnd := by
  by_cases checks : s.loader.phase = .checking ∧ s.life.life = .loading
  · obtain ⟨checking, loading⟩ := checks
    cases result : checkImage s.loader.buffer s.own with
    | error code =>
      refine .inr (.inl ⟨loading, code, rfl, ?_⟩)
      simp only [State.imageCheckEnd, checking, loading, result, and_self, if_true]
    | ok set => exact .inr (.inr ⟨loading, set, _, imageCheckEnd_accepts idle loading checking result⟩)
  · left
    simp only [State.imageCheckEnd, if_neg checks]

/-- The end of the image check keeps the laws of the life states (R142, R144, R145). -/
theorem imageCheckEnd_lifeLaws {s : State} (law : s.LifeLaws) (held : s.held = false) : s.imageCheckEnd.LifeLaws := by
  rcases imageCheckEnd_cases law.idle with same | ⟨loading, code, fails, failed⟩ | ⟨loading, set, r, accepts⟩
  · rwa [same]
  · have checked : (s.onLoader (fun l => { l with phase := .idle, check := code })).LifeLaws := by
      obtain ⟨⟨_, _, _, _, _, _, _, _, _, _, _⟩, ⟨_, _, _, _, _, _, _⟩, sfault⟩ := law
      refine ⟨?_, ?_, sfault⟩ <;> constructor <;> assumption
    rw [failed]
    exact failImage_lifeLaws checked held loading (checkImage_error fails)
  · exact (accepts.atWork law loading).lifeLaws (by simpa using held)

/-- The part after reset, with its straps sampled or not, meets the laws of the life states (R138, R140). -/
theorem lifeLaws_of_reset {t : State} {stn : Station} {source : ImageSource} {draws : Nat}
    (same : State.reset.changesOnly [.held, .pins, .life, .loader, .pending] t)
    (life : t.life = { LifeControl.reset with stn := stn, source := source, draws := draws }) : t.LifeLaws := by
  have idle : State.reset.IdleLaw := by constructor <;> intros <;> rfl
  have frame : t.frame = .reset := same .frame (by simp)
  have line : t.line = .reset := same .line (by simp)
  have out : t.out = .reset := same .out (by simp)
  refine ⟨idleLaw_of_rest idle rfl (State.changesOnly_mono same (by decide)) ?_ ?_ ?_, ?_, ?_⟩
  · rw [out]
  · rw [life]
    exact fun _ => rfl
  · rw [life]
    rfl
  · constructor <;> simp [life, frame, line, LifeControl.reset, FrameUnit.reset, LineUnit.reset, Life.running]
  · rw [State.SfaultLaw, life]
    rfl

/-- No command but the resets moves the RESET pin's standing (R140). -/
theorem effectRunning_held {c : Instr} (resets : c.resets = false) (s : State) :
    (effectRunning c s).held = s.held := by
  cases c <;> simp only [effectRunning]
  case reset => cases resets
  case leaveReset => cases resets
  case truthEdge cond => split <;> simp
  all_goals simp

/-- A command other than the resets keeps the laws of a station at rest. -/
theorem effect_lifeLaws_of_rest {c : Instr} (resets : c.resets = false) {s : State} (law : s.LifeLaws)
    (rest : s.life.life.running = false) : (effect c s).LifeLaws := by
  have stays : ∀ {t : State}, s.RestsTo t → t.LifeLaws := fun h => h.lifeLaws law rest
  unfold effect
  split
  · rename_i held
    exact stays (restsTo_of_same law.idle rest (State.changesOnly_mono (effectHeld_changesOnly_pins held resets)
      (by decide)))
  · rename_i running
    by_cases checks : c = .imageCheckEnd
    · subst checks
      exact imageCheckEnd_lifeLaws law (by simpa using running)
    · exact stays (effectRunning_restsTo law.idle rest resets checks)

/-- A command other than the resets keeps the laws of a running station. -/
theorem effect_lifeLaws_of_running {c : Instr} (resets : c.resets = false) {s : State} (law : s.LifeLaws)
    (running : s.life.life.running = true) : (effect c s).AtWork ∧ (effect c s).LifeLaws := by
  have held : s.held = false := by
    rw [← Bool.not_eq_true]
    exact fun is => by simp [law.idle.heldIsLoading is, Life.running] at running
  have atWork : s.AtWork := ⟨running, law.life, law.sfault⟩
  have same : effect c s = effectRunning c s := by simp [effect, held]
  rw [same]
  have kept := effectRunning_atWork resets atWork
  exact ⟨kept, kept.lifeLaws (by rw [effectRunning_held resets, held])⟩

/-- Every command keeps the laws of the life states (R139, R140). -/
theorem effect_lifeLaws (c : Instr) {s : State} (law : s.LifeLaws) : (effect c s).LifeLaws := by
  by_cases resets : c.resets = true
  · have reset : s.resetPart.LifeLaws :=
      lifeLaws_of_reset (fun b hb => by cases b <;> simp at hb <;> rfl) (source := .memory) (stn := 0) rfl
    unfold effect
    cases c <;> simp only [Instr.resets, Bool.false_eq_true] at resets
    · split <;> exact reset
    · rename_i stn source
      split
      · cases source <;> exact lifeLaws_of_reset (fun b hb => by cases b <;> simp at hb <;> rfl) rfl
      · exact law
  · rw [Bool.not_eq_true] at resets
    cases standing : s.life.life.running with
    | false => exact effect_lifeLaws_of_rest resets law standing
    | true => exact (effect_lifeLaws_of_running resets law standing).2

/-- One millisecond keeps the laws of the life states. -/
theorem tick_lifeLaws {s : State} (law : s.LifeLaws) : s.tick.LifeLaws := by
  by_cases held : s.held = true
  · simpa only [State.tick, if_pos held] using law
  · cases standing : s.life.life.running with
    | false =>
      simp only [State.tick, if_neg held]
      exact (restsTo_setClock law.idle standing _).lifeLaws law standing
    | true =>
      have atWork : s.AtWork := ⟨standing, law.life, law.sfault⟩
      have ticked : s.tick.AtWork := atWork.of_same (by simp) (by simp) (by simp)
      exact ticked.lifeLaws (by simpa using held)

/-- The laws of the life states do not read the queue of waiting commands. -/
theorem State.LifeLaws.withPending {s : State} (law : s.LifeLaws) (rest : List Instr) :
    (s.withPending rest).LifeLaws := by
  obtain ⟨⟨_, _, _, _, _, _, _, _, _, _, _⟩, ⟨_, _, _, _, _, _, _⟩, sfault⟩ := law
  refine ⟨?_, ?_, sfault⟩ <;> constructor <;> assumption

/-- Settles O52: a station at rest rests on but at the end of its image check, and a station at work moves Life Control
by its timers, a frame of its own number, a collision and the stuck line. -/
theorem stepsKeepTheLifeLaws : Obligations.StepsKeepTheLifeLaws := by
  intro s t lawful stepped
  rw [step_eq] at stepped
  cases stepped
  have law : s.LifeLaws := ⟨lawful.idle, lawful.life, lawful.sfault⟩
  have parts : ∀ {t : State}, t.LifeLaws → t.IdleLaw ∧ t.LifeLaw ∧ t.SfaultLaw :=
    fun h => ⟨h.idle, h.life, h.sfault⟩
  refine parts ?_
  split
  · exact tick_lifeLaws law
  · rename_i c rest _
    exact effect_lifeLaws c (law.withPending rest)

end Machine
end Sys2Proof
end

section
namespace Sys2Proof
namespace Machine

/-! ### The journal as it is appended to and taken from (R171 to R175) -/

/-- What the law of the journal says of its records, its flag and its count, ATTN apart. -/
structure Journal.Holds (j : Journal) : Prop where
  size : j.records.length ≤ 32
  full : j.overflowPending = true → j.records.length = 32
  flag : j.overflowPending = true ↔ 0 < j.lost
  lost : j.lost ≤ 65535

/-- The law of the journal is that of its records and of ATTN. -/
theorem journalLaw_iff (s : State) : s.JournalLaw ↔
    s.journal.Holds ∧ s.journal.attn = (s.settings.attnEnabled && !s.journal.records.isEmpty) :=
  ⟨fun ⟨size, full, flag, lost, attn⟩ => ⟨⟨size, full, flag, lost⟩, attn⟩,
    fun ⟨⟨size, full, flag, lost⟩, attn⟩ => ⟨size, full, flag, lost, attn⟩⟩

/-- A record appended, or counted as lost with 32 held (R171). -/
theorem Journal.Holds.append {j : Journal} (h : j.Holds) (r : Record) : (j.append r).Holds := by
  obtain ⟨size, full, flag, lost⟩ := h
  unfold Journal.append journalSize
  split
  · rename_i room
    have none : j.overflowPending = false := by
      rw [← Bool.not_eq_true]
      exact fun pending => by have := full pending; omega
    refine ⟨by simp; omega, by simp [none], flag, lost⟩
  · exact ⟨size, fun _ => by show j.records.length = 32; omega, by simp, by simp⟩

/-- ATTN is no part of the records. -/
theorem Journal.Holds.driveAttn {j : Journal} (h : j.Holds) (enabled : Bool) : (j.driveAttn enabled).Holds :=
  ⟨h.size, h.full, h.flag, h.lost⟩

/-- The oldest record taken, and OVERFLOW in the place freed where records were lost (R172, R173). -/
theorem Journal.Holds.take {j : Journal} (h : j.Holds) {head : Record} {rest : List Record}
    (records : j.records = head :: rest) (now : Ms) : (j.take head rest now).Holds := by
  obtain ⟨size, full, flag, lost⟩ := h
  rw [records, List.length_cons] at size full
  unfold Journal.take
  split
  · rename_i overflows
    exact ⟨by simp [overflows.1], by simp, by simp, by simp⟩
  · rename_i none
    refine ⟨by show rest.length ≤ 32; omega, fun pending => ?_, flag, lost⟩
    exact absurd ⟨by have := full pending; omega, pending⟩ none

/-- A journal that records are handed to keeps its law, under new settings where at least one is handed (R175). -/
theorem journalLaw_of_hands {s t : State} {l : List RecordBody} (law : s.JournalLaw) (handed : s.hands t l)
    (attn : l ≠ [] ∨ t.settings.attnEnabled = s.settings.attnEnabled) : t.JournalLaw := by
  obtain ⟨holds, shows⟩ := (journalLaw_iff s).1 law
  rw [journalLaw_iff, handed]
  cases l with
  | nil => exact ⟨holds, by simpa [attn.resolve_left (by simp)] using shows⟩
  | cons b l =>
    rw [List.foldl_cons]
    refine List.foldlRecOn (motive := fun j : Journal => j.Holds ∧
      j.attn = (t.settings.attnEnabled && !j.records.isEmpty)) _ _ ⟨(holds.append _).driveAttn _, rfl⟩ ?_
    exact fun j each b _ => ⟨(each.1.append _).driveAttn _, rfl⟩

/-! ### Lines and jobs (R186 to R188) -/

/-- A line has at most 96 characters before its CR LF (R188). -/
theorem length_composeLine (s : State) (j : Job) : (s.composeLine j).length ≤ 98 := by
  have cut : ∀ line : List Byte, (cutLine line).length ≤ 96 := fun line => by
    unfold cutLine
    split
    · assumption
    · simp only [List.length_append, List.length_take, List.length_singleton]
      omega
  have := cut (((parseTemplate (s.settings.templates.get j.template)).getD []).foldl (s.addPiece j) [])
  simpa [State.composeLine] using this

/-- A unit given the chance to start has no job left waiting while it is idle (R187). -/
theorem startReport_reportLaw {s : State} (jobs : s.report.jobs.length ≤ 6)
    (line : ∀ l, s.report.line = some l → l.length ≤ 98) : s.startReport.ReportLaw := by
  unfold State.startReport
  split
  · rename_i j rest idle queued
    rw [queued, List.length_cons] at jobs
    refine ⟨by simp; omega, by simp, fun l is => ?_⟩
    have composed : l = s.composeLine j := by simpa using is.symm
    rw [composed]
    exact length_composeLine s j
  · rename_i busy
    refine ⟨jobs, fun idle => ?_, line⟩
    cases queued : s.report.jobs with
    | nil => rfl
    | cons j rest => exact absurd queued (busy j rest idle)

/-! ### The journal, the report unit and the discarded-frame count (R98, R171, R172, R175, R186 to R188) -/

/-- The laws of what the part writes down: the journal, the report unit and the discarded-frame count. -/
structure State.BookLaws (s : State) : Prop where
  journal : s.JournalLaw
  reports : s.ReportLaw
  count : s.CountLaw

/-- An event that writes nothing down keeps the laws. -/
theorem State.BookLaws.of_same {s t : State} (h : s.BookLaws) (journal : t.journal = s.journal)
    (settings : t.settings = s.settings) (report : t.report = s.report)
    (discarded : t.frame.discarded = s.frame.discarded) : t.BookLaws := by
  obtain ⟨⟨size, full, flag, lost, attn⟩, ⟨jobs, idle, line⟩, count⟩ := h
  rw [← journal] at size full flag lost
  rw [← journal, ← settings] at attn
  rw [← report] at jobs idle line
  exact ⟨⟨size, full, flag, lost, attn⟩, ⟨jobs, idle, line⟩, by rw [State.CountLaw, discarded]; exact count⟩

/-- An event that hands records to the journal and writes nothing else down keeps the laws. -/
theorem State.BookLaws.of_hands {s t : State} (h : s.BookLaws) {l : List RecordBody} (handed : s.hands t l)
    (settings : t.settings = s.settings) (report : t.report = s.report)
    (discarded : t.frame.discarded = s.frame.discarded) : t.BookLaws := by
  obtain ⟨journal, ⟨jobs, idle, line⟩, count⟩ := h
  rw [← report] at jobs idle line
  exact ⟨journalLaw_of_hands journal handed (.inr (by rw [settings])), ⟨jobs, idle, line⟩,
    by rw [State.CountLaw, discarded]; exact count⟩

/-- An urgent STATE asked for (R104). -/
theorem State.BookLaws.requestUrgent {s : State} (h : s.BookLaws) : s.requestUrgent.BookLaws :=
  h.of_same (by simp) (by simp) (by simp) (by simp)

/-- What ends an event (R128, R157). -/
theorem State.BookLaws.settle {s : State} (h : s.BookLaws) : s.settle.BookLaws :=
  h.of_same (by simp) (by simp) (by simp) (by simp)

/-- A change of Life Control (R153). -/
theorem State.BookLaws.setLife {s : State} (h : s.BookLaws) (f : LifeControl → LifeControl) :
    (s.setLife f).BookLaws :=
  h.of_same rfl rfl rfl rfl

/-- What is written to the port (R177). -/
theorem State.BookLaws.onPort {s : State} (h : s.BookLaws) (f : Port → Port) : (s.onPort f).BookLaws :=
  h.of_same rfl rfl rfl rfl

/-- A change of the line (R124, R130). -/
theorem State.BookLaws.onLine {s : State} (h : s.BookLaws) (f : LineUnit → LineUnit) : (s.onLine f).BookLaws :=
  h.of_same rfl rfl rfl rfl

/-- A record handed to the journal (R170, R171). -/
theorem State.BookLaws.record {s : State} (h : s.BookLaws) (b : RecordBody) : (s.record b).BookLaws :=
  h.of_hands (s.hands_record b) (by simp) (by simp) (by simp)

/-- A frame counted (R98). -/
theorem State.BookLaws.raiseDiscarded {s : State} (h : s.BookLaws) : s.raiseDiscarded.BookLaws := by
  obtain ⟨⟨_, _, _, _, _⟩, ⟨_, _, _⟩, _⟩ := h
  refine ⟨?_, ?_, ?_⟩
  · constructor <;> assumption
  · constructor <;> assumption
  · simp [State.CountLaw, State.raiseDiscarded]

/-- A unit that takes its next job writes its line (R187). -/
theorem State.BookLaws.startReport {s : State} (journal : s.JournalLaw) (count : s.CountLaw)
    (jobs : s.report.jobs.length ≤ 6) (line : ∀ l, s.report.line = some l → l.length ≤ 98) :
    s.startReport.BookLaws := by
  refine ⟨?_, startReport_reportLaw jobs line, ?_⟩
  · rw [journalLaw_iff] at journal ⊢
    simpa using journal
  · simpa [State.CountLaw] using count

/-- A report job arrives, or is dropped with its record (R186). -/
theorem State.BookLaws.addJob {s : State} (h : s.BookLaws) (j : Job) : (s.addJob j).BookLaws := by
  unfold State.addJob jobQueueSize
  split
  · have joined : (s.onReport (fun r => { r with jobs := r.jobs ++ [j] })).JournalLaw := by
      rw [journalLaw_iff]
      exact (journalLaw_iff s).1 h.journal
    exact .startReport joined h.count (by simp; omega) h.reports.line
  · exact h.record _

/-- The stop bit of LF ends, and the next job is taken (R187, R189). -/
theorem State.BookLaws.reportLineEnd {s : State} (h : s.BookLaws) : s.reportLineEnd.BookLaws := by
  unfold State.reportLineEnd
  split
  · exact h
  · have ended : (s.onReport (fun r => { r with line := none })).JournalLaw := by
      rw [journalLaw_iff]
      exact (journalLaw_iff s).1 h.journal
    exact .startReport ended h.count h.reports.jobs (by simp)

/-! ### What writes records and jobs (R68, R87, R88, R90) -/

/-- A change of an own condition's annunciation state (R68). -/
theorem State.BookLaws.annChange {s : State} (h : s.BookLaws) (c : CondIx) (new : AnnState) :
    (s.annChange c new).BookLaws := by
  unfold State.annChange
  dsimp only
  obtain ⟨m, hm⟩ : ∃ m, m =
      ((s.record (.condChange s.own c new (genAfter new (s.ownCond c).gen))).writeCond s.own c
      { s.ownCond c with state := new, gen := genAfter new (s.ownCond c).gen }).requestUrgent := ⟨_, rfl⟩
  have written : m.BookLaws := by
    rw [hm]
    exact (h.record (.condChange s.own c new (genAfter new (s.ownCond c).gen))).of_same (by simp) (by simp) (by simp)
      (by simp)
  rw [← hm, reportChange_eq]
  split
  · exact written
  · exact written.addJob _

/-- A truth edge taken (R60). -/
theorem State.BookLaws.takeEdge {s : State} (h : s.BookLaws) (c : CondIx) : (s.takeEdge c).BookLaws := by
  unfold State.takeEdge
  split
  · exact h
  · rename_i e _
    unfold State.applyEdge
    dsimp only
    split
    · exact h.of_same rfl rfl rfl rfl
    · refine State.BookLaws.annChange ?_ c _
      exact h.of_same rfl rfl rfl rfl

/-- Acknowledgements applied (R61, R62, R90). -/
theorem State.BookLaws.answersAll {s : State} (h : s.BookLaws) (acks : List (CondIx × AckPair)) :
    (s.answersAll acks).BookLaws := by
  refine List.foldlRecOn (motive := State.BookLaws) _ _ h fun t law x _ => ?_
  rcases applyAck_cases t x.1 x.2 with ⟨same, -⟩ | ⟨new, -, changed, -⟩
  · rw [same]
    exact law
  · rw [changed]
    exact law.annChange x.1 new

/-- An ACKREQ taken (R90). -/
theorem State.BookLaws.takeAckreq {s : State} (h : s.BookLaws) (target : Station) (mask : BitVec 8)
    (pairs : Tab 8 AckPair) : (s.takeAckreq target mask pairs).BookLaws := by
  rw [takeAckreq_eq]
  split
  · rw [ackMasked_eq_answersAll]
    exact State.BookLaws.requestUrgent (h.answersAll _)
  · exact h

/-- A request handed to the table, or refused with its record (R82, R83). -/
theorem State.BookLaws.handRequest {s : State} (h : s.BookLaws) (target : Station) (mask : BitVec 8)
    (pairs : Tab 8 AckPair) : (s.handRequest target mask pairs).BookLaws := by
  unfold State.handRequest
  split
  · split
    · exact h
    · dsimp only
      split <;> exact h.of_same (by simp) (by simp) (by simp) (by simp)
  · split
    · exact h.of_same (by simp) (by simp) (by simp) (by simp)
    · exact h.record _

/-- A press answers the own conditions and asks for the peers' (R78, R79). -/
theorem State.BookLaws.ackPress {s : State} (h : s.BookLaws) : s.ackPress.BookLaws := by
  rw [ackPress_eq]
  refine List.foldlRecOn (motive := State.BookLaws) _ _ (h.answersAll _) fun t law x _ => ?_
  split
  · exact law.handRequest _ _ _
  · exact law.record _

/-- A request failed with its record (R85, R87). -/
theorem State.BookLaws.failRequest {s : State} (h : s.BookLaws) (i : ReqIx) : (s.failRequest i).BookLaws := by
  unfold State.failRequest
  split
  · exact h
  · rename_i r _
    exact (h.record (.ackFailed r.target r.mask)).of_same (by simp) (by simp) (by simp) (by simp)

/-- The request of a target failed, if there is one (R87). -/
theorem State.BookLaws.failTarget {s : State} (h : s.BookLaws) (st : Station) : (s.failTarget st).BookLaws := by
  unfold State.failTarget
  split
  · exact h
  · exact h.failRequest _

/-- Every request failed (R88). -/
theorem State.BookLaws.failAll {s : State} (h : s.BookLaws) : s.failAll.BookLaws :=
  List.foldlRecOn (motive := State.BookLaws) _ _ h fun _ law st _ => law.failTarget st

/-- Own points written, with their records (R26, R29). -/
theorem State.BookLaws.writeOwnPoints {s : State} (h : s.BookLaws) (l : List (PointIx × PointEntry)) :
    (s.writeOwnPoints l).BookLaws := by
  unfold State.writeOwnPoints
  dsimp only
  have recorded :
      (l.foldl (fun t x => t.record (.pointChange t.own x.1 x.2.value (x.2.quality == .fault))) s).BookLaws :=
    List.foldlRecOn (motive := State.BookLaws) _ _ h fun _ law _ _ => law.record _
  have written := List.foldlRecOn (motive := State.BookLaws) l (fun t x => t.writePoint t.own x.1 x.2) recorded
    fun _ law _ _ => law.of_same (by simp) (by simp) (by simp) (by simp)
  exact written.of_same (by simp) (by simp) (by simp) (by simp)

/-! ### Frames and absence (R9, R14, R16, R20, R101) -/

/-- A STATE taken hands its records to the journal (R9 to R14, R20). -/
theorem State.BookLaws.takeState {s : State} (h : s.BookLaws) (st : Station) (f : StateFrame) :
    (s.takeState st f).BookLaws := by
  have taken : (s.takeRow st f).BookLaws := by
    obtain ⟨-, records, -, -, -, frame⟩ := rowTaken_effect st f s
    have same : (s.takeRow st f).clock = s.clock ∧ (s.takeRow st f).settings = s.settings ∧
        (s.takeRow st f).report = s.report ∧ (s.takeRow st f).frame.discarded = s.frame.discarded := by simp
    obtain ⟨clock, settings, report, discarded⟩ := same
    refine h.of_hands (State.hands_of_journal records ?_ ?_ ?_) settings report discarded
    all_goals simp [State.takeRow_eq]
  unfold State.takeState
  split
  · exact h
  · unfold State.strangerState
    dsimp only
    split
    · exact h
    · exact (h.record (.stranger st)).of_same rfl rfl rfl rfl
  all_goals exact taken

/-- A peer's absence, with its record and that of its request (R16, R87). -/
theorem State.BookLaws.becomeAbsent {s : State} (h : s.BookLaws) (st : Station) : (s.becomeAbsent st).BookLaws := by
  rw [State.becomeAbsent_eq]
  refine State.BookLaws.failTarget ?_ st
  have absent : (s.onPic (Picture.absent st)).BookLaws := h.of_same rfl rfl rfl rfl
  have recorded := absent.record (.peerAbsent st)
  unfold State.rowAbsent
  dsimp only
  refine List.foldlRecOn (motive := State.BookLaws) (indices 8) _
    (List.foldlRecOn (motive := State.BookLaws) (indices 16) _ ?_ fun t law p _ => ?_) fun t law c _ => ?_
  · exact recorded.of_same (by simp) (by simp) (by simp) (by simp)
  · refine law.of_same (by simp) (by simp) ?_ (by simp)
    unfold State.noticePointFrom
    split <;> simp
  · refine law.of_same (by simp) (by simp) ?_ (by simp)
    unfold State.noticeCondFrom
    split <;> simp

/-- An entry to WITHDRAWN: its record, and the requests failed (R88, R150). -/
theorem State.BookLaws.enterWithdrawn {s : State} (h : s.BookLaws) : s.enterWithdrawn.BookLaws := by
  rw [enterWithdrawn_eq]
  have queued : (s.onFrame (fun f => { f with
      queue := (s.frame.queue.filter (fun e => !e.isSilence)).map QEntry.madeUrgent, refresh := none })).BookLaws :=
    h.of_same rfl rfl rfl rfl
  exact (queued.record (.withdrawn s.own)).failAll.setLife _

/-- A duplicate notice: its record, and the requests failed (R88, R149). -/
theorem State.BookLaws.duplicateNotice {s : State} (h : s.BookLaws) : s.duplicateNotice.BookLaws := by
  have stopped : s.stopDriving.BookLaws := h.of_same (by simp) (by simp) (by simp) (by simp)
  have failed := (stopped.record (.duplicate s.stopDriving.own)).failAll
  have entered : s.enterDuplicate.BookLaws := (failed.of_same (by simp) (by simp) (by simp) (by simp)).setLife _
  unfold State.duplicateNotice
  split
  · exact entered
  · exact entered
  all_goals exact h

/-- A frame received (R99 to R101). -/
theorem State.BookLaws.receiveFrame {s : State} (h : s.BookLaws) (bytes : List Byte) :
    (s.receiveFrame bytes).BookLaws := by
  rcases receiveFrame_inv s bytes with ⟨-, notice⟩ | ⟨-, counted⟩ | ⟨st, p, -, taken⟩
  · rw [notice]
    split
    · exact h.raiseDiscarded.duplicateNotice
    · exact h.duplicateNotice
  · rw [counted]
    exact h.raiseDiscarded
  · rw [taken]
    have heard : (s.heard st).BookLaws := h.of_same (by simp) (by simp) (by simp) (by simp)
    cases p with
    | state f => exact h.takeState st f
    | ackreq target mask pairs => exact heard.takeAckreq target mask pairs
    | silence zones => exact heard.of_same (by simp) (by simp) (by simp) (by simp)

/-! ### Commands (R173, R181) -/

/-- TAKE (R172, R173). -/
theorem State.BookLaws.takeRecord {s : State} (h : s.BookLaws) : s.takeRecord.BookLaws := by
  unfold State.takeRecord
  split
  · exact h.onPort _
  · rename_i head rest records
    obtain ⟨holds, -⟩ := (journalLaw_iff s).1 h.journal
    obtain ⟨_, ⟨jobs, idle, line⟩, count⟩ := h
    refine ⟨(journalLaw_iff _).2 ?_, ⟨jobs, idle, line⟩, count⟩
    exact ⟨(holds.take records s.clock).driveAttn _, rfl⟩

/-- ACK_ONE (R80). -/
theorem State.BookLaws.ackOneChecks {s : State} (h : s.BookLaws) (a0 a1 : Byte) : (s.ackOneChecks a0 a1).BookLaws := by
  have answers : ∀ {t : State} (r : Result), t.BookLaws → (t.result r).BookLaws := fun r law => law.onPort _
  have settles : ∀ {t : State} (r : Result), t.BookLaws → (t.result r).settle.BookLaws :=
    fun r law => (answers r law).settle
  have acks : ∀ c a, (s.applyAck c a).BookLaws := fun c a => h.answersAll [(c, a)]
  simp only [State.ackOneChecks]
  (repeat' split)
  case isTrue.isTrue.isTrue.isFalse.isTrue => exact settles _ (acks _ _)
  all_goals first
    | exact answers _ h
    | exact settles _ (h.handRequest _ _ _)

/-- A command of the supervisor (Table 11-3). -/
theorem State.BookLaws.runCommand {s : State} (h : s.BookLaws) (c : Command) : (s.runCommand c).BookLaws := by
  cases c
  case take => exact h.takeRecord
  case ackAll => exact (h.ackPress.onPort _).settle
  case ackOne => exact h.ackOneChecks _ _
  case countClear =>
    obtain ⟨journal, ⟨jobs, idle, line⟩, -⟩ := h
    exact ⟨(journalLaw_iff _).2 ((journalLaw_iff s).1 journal), ⟨jobs, idle, line⟩, Nat.zero_le _⟩
  all_goals
    simp only [State.runCommand]
    exact h.of_same (by simp) (by simp) (by simp) (by simp)

/-- A byte written (R177, R181). -/
theorem State.BookLaws.writeByte {s : State} (h : s.BookLaws) (b : Byte) : (s.writeByte b).BookLaws := by
  have settled : ∀ {t : State} (code : Byte), t.BookLaws → (t.settleCommand code).BookLaws := fun code law => by
    simp only [State.settleCommand]
    (repeat' split)
    case h_2.isFalse.isFalse => exact law.runCommand _
    all_goals exact law.onPort _
  refine State.BookLaws.onPort ?_ _
  simp only [State.writeRegister]
  (repeat' split)
  · exact h.onPort _
  · exact h.onPort _
  · exact settled _ (h.onPort _)
  · exact h.of_same rfl rfl rfl rfl
  · exact h

/-- A write transaction (R177). -/
theorem State.BookLaws.writeTransaction {s : State} (h : s.BookLaws) (address : BitVec 7) (data : List Byte) :
    (s.writeTransaction address data).BookLaws := by
  have begun : ∀ acks, (s.beginTransaction acks).BookLaws := fun acks => h.onPort _
  simp only [State.writeTransaction]
  split
  · simp only [State.writeData]
    split
    · refine List.foldlRecOn (motive := State.BookLaws) _ _ ?_ fun _ law b _ => law.writeByte b
      exact (begun _).onPort _
    all_goals exact begun _
  · exact begun _

/-! ### Timers, the line and the image (R16, R24, R85, R134, R136, R144, R145) -/

/-- A line's accepted change writes own points (R24, R26). -/
theorem State.BookLaws.debounceExpiry {s : State} (h : s.BookLaws) (n : PointIx) : (s.debounceExpiry n).BookLaws := by
  unfold State.debounceExpiry
  split
  · rename_i level due _ _
    have accepted : ((s.reachTime due).setLine n (s.input.lines.get n).expire).BookLaws :=
      h.of_same (by simp) (by simp) (by simp) (by simp)
    refine State.BookLaws.settle ?_
    unfold State.acceptedChange
    dsimp only
    split <;> exact accepted.writeOwnPoints _
  · exact h

/-- A pair's accepted relation writes both points' quality (R28, R29). -/
theorem State.BookLaws.pairExpiry {s : State} (h : s.BookLaws) (k : PairIx) : (s.pairExpiry k).BookLaws := by
  unfold State.pairExpiry
  split
  · rename_i due _
    have accepted : ((s.reachTime due).setPair k ⟨(s.input.pairs.get k).accepted.other, none⟩).BookLaws :=
      h.of_same (by simp) (by simp) (by simp) (by simp)
    exact (accepted.writeOwnPoints _).settle
  · exact h

/-- A press answers the own conditions and asks for the peers' (R33, R78). -/
theorem State.BookLaws.controlExpiry {s : State} (h : s.BookLaws) (i : Control) : (s.controlExpiry i).BookLaws := by
  unfold State.controlExpiry
  split
  · rename_i level due _ _
    have accepted : ((s.reachTime due).setControl i (s.input.control i).expire).BookLaws :=
      h.of_same (by simp) (by simp) (by simp) (by simp)
    refine State.BookLaws.settle ?_
    unfold State.controlChange
    split
    · split
      · exact accepted.ackPress
      · exact accepted
    · split
      · exact accepted.of_same (by simp) (by simp) (by simp) (by simp)
      · exact accepted
    · exact accepted.of_same rfl rfl rfl rfl
  · exact h

/-- A request's last retry fails it (R85). -/
theorem State.BookLaws.retryExpiry {s : State} (h : s.BookLaws) (i : ReqIx) : (s.retryExpiry i).BookLaws := by
  unfold State.retryExpiry
  split
  · exact h
  · split
    · exact h
    · rename_i due _
      have reached : (s.reachTime due).BookLaws := h.of_same (by simp) (by simp) (by simp) (by simp)
      refine State.BookLaws.settle ?_
      split
      · exact h.of_same (by simp) (by simp) (by simp) (by simp)
      · exact reached.failRequest i

/-- A peer becomes ABSENT (R16). -/
theorem State.BookLaws.absenceExpiry {s : State} (h : s.BookLaws) (st : Station) : (s.absenceExpiry st).BookLaws := by
  unfold State.absenceExpiry
  split
  · rename_i due _ _
    have reached : (s.reachTime due).BookLaws := h.of_same (by simp) (by simp) (by simp) (by simp)
    exact (reached.becomeAbsent st).settle
  · exact h

/-- A frame's end hands it to the Frame Unit (R121). -/
theorem State.BookLaws.frameEnd {s : State} (h : s.BookLaws) (levels : List Level) : (s.frameEnd levels).BookLaws := by
  rcases frameEnd_cases s levels with same | ⟨bytes, -, -, taken⟩
  · rwa [same]
  · rw [taken]
    have atEnd : (s.atFrameEnd bytes).BookLaws := h.of_same (by simp) (by simp) (by simp) (by simp)
    exact (atEnd.receiveFrame bytes).of_same (by simp) (by simp) (by simp) (by simp)

/-- The sixteenth collision withdraws the station (R132, R150). -/
theorem State.BookLaws.collision {s : State} (h : s.BookLaws) (bitTime : Nat) : (s.collision bitTime).BookLaws := by
  unfold State.collision
  dsimp only
  split
  · split
    · obtain ⟨m, hm⟩ : ∃ m, m = (s.breakOff.onLine (fun l => { l with
          collisions := min 16 (s.line.collisions + 1) })).onLine
            (fun l => { l with state := .receiving, rx := .frame }) := ⟨_, rfl⟩
      have broken : m.BookLaws := by
        rw [hm]
        exact h.of_same (by simp) (by simp) (by simp) (by simp)
      rw [← hm]
      exact broken.enterWithdrawn.of_same (by simp) (by simp) (by simp) (by simp)
    · exact h.of_same (by simp) (by simp) (by simp) (by simp)
  · exact h

/-- A stuck line is recorded, and a reception under way counted (R134). -/
theorem State.BookLaws.lineStuck {s : State} (h : s.BookLaws) : s.lineStuck.BookLaws := by
  unfold State.lineStuck
  dsimp only
  split
  · have broken : (if s.line.sending.isSome then s.breakOff else s).BookLaws := by
      split
      · exact h.of_same (by simp) (by simp) (by simp) (by simp)
      · exact h
    refine State.BookLaws.setLife (State.BookLaws.record (State.BookLaws.onLine ?_ _) _) _
    split
    · exact broken.raiseDiscarded
    · exact broken
  · exact h

/-- A line released is recorded (R136). -/
theorem State.BookLaws.lineReleased {s : State} (h : s.BookLaws) : s.lineReleased.BookLaws := by
  unfold State.lineReleased
  split
  · exact (h.record .lineReleased).of_same (by simp) (by simp) (by simp) (by simp)
  · exact h

/-- A window begins (R124). -/
theorem State.BookLaws.beginWindow {s : State} (h : s.BookLaws) : s.beginWindow.BookLaws := h.onLine _

/-- An invalid reception is counted at most (R98, R122). -/
theorem State.BookLaws.invalidReceptionEnd {s : State} (h : s.BookLaws) (levels : List Level) :
    (s.invalidReceptionEnd levels).BookLaws := by
  have invalid : s.invalidEnd.BookLaws := by
    have blind := (h.onLine (fun l => { l with blind := true })).beginWindow
    unfold State.invalidEnd
    dsimp only
    split
    · exact blind.raiseDiscarded
    · split
      · exact blind
      · exact h
  unfold State.invalidReceptionEnd
  split
  · exact invalid
  · split
    · exact h
    · exact invalid
  all_goals exact h

/-- A jam is counted at most (R98, R123). -/
theorem State.BookLaws.jamEnd {s : State} (h : s.BookLaws) (levels : List Level) : (s.jamEnd levels).BookLaws := by
  unfold State.jamEnd
  split
  · exact (h.onLine _).beginWindow
  · split
    · split
      · exact h.beginWindow.raiseDiscarded
      · split
        · exact h.beginWindow
        · exact h
    · exact h

/-- An image accepted, with its records and the lines of its first alerts (R144). -/
theorem State.Accepts.bookLaws {set : Settings} {s r t : State} (h : s.Accepts set r t) (law : s.BookLaws)
    (rest : s.report = .reset) : t.BookLaws := by
  refine ⟨journalLaw_of_hands law.journal h.records (.inl (by simp)), ?_, ?_⟩
  · cases jobs : r.startTrues.filterMap (fun c => r.jobOf c .alertUnack 1) with
    | nil =>
      have report : t.report = .reset := by rw [h.runs.quiet jobs, h.start.same .report (by simp), rest]
      constructor <;> simp [report, ReportUnit.reset]
    | cons j later =>
      obtain ⟨queued, -, m, composed, -⟩ := h.runs.first j later jobs
      refine ⟨by simp [queued], by simp [composed], fun l is => ?_⟩
      have line : l = m.composeLine j := by simpa [composed] using is.symm
      rw [line]
      exact length_composeLine m j
  · rw [State.CountLaw, h.runs.frame, h.start.same .frame (by simp)]
    exact law.count

/-- The end of the image check (R144, R145). -/
theorem State.BookLaws.imageCheckEnd {s : State} (h : s.BookLaws) (idle : s.IdleLaw) : s.imageCheckEnd.BookLaws := by
  rcases imageCheckEnd_cases idle with same | ⟨-, code, -, failed⟩ | ⟨loading, set, r, accepts⟩
  · rwa [same]
  · rw [failed]
    have checked : (s.onLoader (fun l => { l with phase := .idle, check := code })).BookLaws :=
      h.of_same rfl rfl rfl rfl
    unfold State.failImage
    split
    · exact (checked.setLife _).record _
    · exact (checked.setLife _).onPort _
  · exact accepts.bookLaws h (idle.report (by rw [loading]; rfl))

/-- The part after reset has nothing written down (R98, R176, R184). -/
theorem bookLaws_of_reset {s : State} (journal : s.journal = .reset) (settings : s.settings = .empty)
    (report : s.report = .reset) (frame : s.frame = .reset) : s.BookLaws := by
  refine ⟨?_, ?_, ?_⟩
  · constructor <;> simp [journal, settings, Journal.reset, Settings.empty]
  · constructor <;> simp [report, ReportUnit.reset]
  · simp [State.CountLaw, frame, FrameUnit.reset]

/-- Every command keeps the laws while the RESET pin is not held. -/
theorem effectRunning_bookLaws (c : Instr) {s : State} (h : s.BookLaws) (idle : s.IdleLaw) :
    (effectRunning c s).BookLaws := by
  cases c
  case reset => exact bookLaws_of_reset rfl rfl rfl rfl
  case imageCheckEnd => exact h.imageCheckEnd idle
  case debounceExpiry n => exact h.debounceExpiry n
  case pairTimerExpiry k => exact h.pairExpiry k
  case controlDebounceExpiry i => exact h.controlExpiry i
  case truthEdge c =>
    simp only [effectRunning]
    split
    · exact (h.takeEdge c).settle
    · exact h
  case retryTimerExpiry i => exact h.retryExpiry i
  case absenceTimerExpiry st => exact h.absenceExpiry st
  case frameEnd levels => exact h.frameEnd levels
  case invalidReceptionEnd levels => exact h.invalidReceptionEnd levels
  case jamEnd levels => exact h.jamEnd levels
  case collision bitTime => exact h.collision bitTime
  case lineStuck => exact h.lineStuck
  case lineReleased => exact h.lineReleased
  case reportLineEnd => exact h.reportLineEnd
  case imageBufferWrite | registerWrite => exact h.writeTransaction _ _
  case take | ackAll | ackOne | silence | lampTestOn | lampTestOff | countClear | commit | unknownCommand =>
    simp only [effectRunning, State.writeCommand]
    exact h.writeTransaction _ _
  all_goals
    simp only [effectRunning]
    exact h.of_same (by simp) (by simp) (by simp) (by simp)

/-- What the resets leave, and a command does while the RESET pin is not held, is all a command does (R140). -/
theorem effect_keeps {P : State → Prop} {c : Instr} {s : State} (law : P s) (reset : P s.resetPart)
    (leaves : ∀ stn source, P (s.leaveReset stn source)) (runs : P (effectRunning c s)) : P (effect c s) := by
  unfold effect
  split
  · by_cases resets : c.resets = true
    · cases c <;> simp only [Instr.resets, Bool.false_eq_true] at resets
      · exact reset
      · exact leaves _ _
    · rcases effectHeld_of_not_resets (by simpa using resets) s with same | acts
      · rwa [same]
      · rwa [acts]
  · exact runs

/-- Every command keeps the laws of what is written down. -/
theorem effect_bookLaws (c : Instr) {s : State} (h : s.BookLaws) (idle : s.IdleLaw) : (effect c s).BookLaws := by
  refine effect_keeps h (bookLaws_of_reset rfl rfl rfl rfl) (fun stn source => ?_) (effectRunning_bookLaws c h idle)
  cases source <;> exact bookLaws_of_reset rfl rfl rfl rfl

end Machine
end Sys2Proof
end

section
namespace Sys2Proof
namespace Machine

/-! ### The memory read, edge by edge (R141) -/

/-- What the laws of the image buffer and of the memory read say of the loader alone. -/
structure Loader.ReadLaw (l : Loader) : Prop where
  buffer : Memory.wf l.buffer = true
  short : l.phase = .reading → 5 ≤ l.got → l.got < memoryReadLength l.buffer
  absent : l.phase = .reading → ∀ a, l.got ≤ a → Memory.read l.buffer a = 0
  select : l.scs = true ↔ l.phase = .reading
  released : l.scs = false → l.sck = false ∧ l.sdo = [] ∧ l.sdi = []
  command : l.sdo <:+ memoryReadCommand.flatMap spiLevels
  first : l.sdo ≠ [] → l.got = 0 ∧ l.sdi = []
  sampled : l.sdi.length ≤ 8 ∧ (l.sck = false → l.sdi.length < 8)

/-- No read goes past the buffer's end (R141). -/
theorem memoryReadLength_le (m : Memory) : memoryReadLength m ≤ bufferSize := by
  unfold memoryReadLength bufferSize
  dsimp only
  split <;> omega

/-- While the read runs the next byte has its place in the buffer. -/
theorem Loader.ReadLaw.room {l : Loader} (h : l.ReadLaw) (reading : l.phase = .reading) : l.got < bufferSize := by
  by_cases header : 5 ≤ l.got
  · exact Nat.lt_of_lt_of_le (h.short reading header) (memoryReadLength_le l.buffer)
  · simp only [bufferSize]
    omega

/-- A byte placed: the read goes on, short of its end, or the memory is deselected (R141). -/
theorem Loader.ReadLaw.memoryByte {l : Loader} (h : l.ReadLaw) (reading : l.phase = .reading) (sent : l.sdo = [])
    (low : l.sck = false) (taken : l.sdi = []) (b : Byte) : (l.memoryByte b).ReadLaw := by
  have buffer : Memory.wf (Memory.write l.buffer l.got b) = true := Memory.write_wf h.buffer b (h.room reading)
  have selected : l.scs = true := h.select.2 reading
  unfold Loader.memoryByte
  dsimp only
  split
  · exact ⟨buffer, by simp, by simp, by simp, fun _ => ⟨low, sent, taken⟩, h.command,
      fun more => absurd sent more, h.sampled⟩
  · rename_i goesOn
    refine ⟨buffer, fun _ header => ?_, fun _ a beyond => ?_, h.select, fun free => ?_, h.command,
      fun more => absurd sent more, h.sampled⟩
    · exact Nat.lt_of_not_le fun ends => goesOn ⟨header, ends⟩
    · have later : l.got < a := beyond
      rw [Memory.read_write h.buffer, if_neg (by omega)]
      exact h.absent reading a (by omega)
    · rw [selected] at free
      cases free

/-- A rising edge samples a level, or none while the command is sent (R141). -/
theorem Loader.ReadLaw.clockRises {l : Loader} (h : l.ReadLaw) (reading : l.phase = .reading) (low : l.sck = false)
    (level : Bool) : (l.clockRises level).ReadLaw := by
  have selected : l.scs = true := h.select.2 reading
  have room := h.sampled.2 low
  refine ⟨h.buffer, h.short, h.absent, h.select, fun free => ?_, h.command, fun more => ?_, ?_⟩
  · exact absurd free (by simp [Loader.clockRises, selected])
  · have same : (l.clockRises level).sdi = l.sdi := if_neg more
    exact ⟨(h.first more).1, same.trans (h.first more).2⟩
  · simp only [Loader.clockRises]
    split <;> simp <;> omega

/-- A falling edge shows the next level on SDO, and places the byte whose eight levels are sampled (R141). -/
theorem Loader.ReadLaw.clockFalls {l : Loader} (h : l.ReadLaw) (reading : l.phase = .reading) :
    l.clockFalls.ReadLaw := by
  have selected : l.scs = true := h.select.2 reading
  have shows : l.sdo.tail <:+ memoryReadCommand.flatMap spiLevels := (List.tail_suffix _).trans h.command
  have still : l.sdo.tail ≠ [] → l.sdo ≠ [] := fun more none => more (by rw [none]; rfl)
  obtain ⟨atMost, -⟩ := h.sampled
  unfold Loader.clockFalls
  dsimp only
  split
  · rename_i full
    have sent : l.sdo = [] := by
      by_contra more
      simp [(h.first more).2] at full
    have next : ({ l with sck := false, sdo := l.sdo.tail, sdi := [] } : Loader).ReadLaw :=
      ⟨h.buffer, h.short, h.absent, h.select, by simp [selected], shows, fun more => absurd sent (still more),
        by simp⟩
    exact next.memoryByte reading (by simp [sent]) rfl rfl _
  · rename_i part
    exact ⟨h.buffer, h.short, h.absent, h.select, by simp [selected], shows, fun more => h.first (still more),
      atMost, fun _ => by show l.sdi.length < 8; omega⟩

/-- An edge of SCK keeps the laws of the read. -/
theorem Loader.ReadLaw.clockEdge {l : Loader} (h : l.ReadLaw) (level : Bool) : (l.clockEdge level).ReadLaw := by
  unfold Loader.clockEdge
  split
  · rename_i reading
    split
    · exact h.clockFalls reading
    · rename_i low
      exact h.clockRises reading (by simpa using low) level
  · exact h

/-- A part of the read keeps its laws, and it runs on or has come to the image check. -/
theorem Loader.ReadLaw.readPart {l : Loader} (h : l.ReadLaw) (part : MemoryPart) : (l.readPart part).ReadLaw := by
  have edges : ∀ (levels : List Bool) {l : Loader}, l.ReadLaw → (levels.foldl Loader.clockEdge l).ReadLaw :=
    fun levels _ law => List.foldlRecOn (motive := Loader.ReadLaw) _ _ law fun _ law level _ => law.clockEdge level
  cases part with
  | next sdi => exact edges sdi h
  | rest sdi =>
    simp only [Loader.readPart, Loader.readOnes_eq]
    exact edges _ (edges sdi h)

/-! ### The image buffer and the loader (R140 to R142, R179) -/

/-- The laws of the image buffer and of the loader. -/
structure State.StoreLaws (s : State) : Prop where
  loading : s.loader.phase ≠ .idle → s.life.life = .loading
  source : s.loader.phase = .reading → s.life.source = .memory
  read : s.loader.ReadLaw

/-- The laws of the store are those of the buffer and the loader. -/
theorem storeLaws_iff (s : State) : s.StoreLaws ↔ s.BufferLaw ∧ s.LoaderLaw :=
  ⟨fun ⟨loading, source, ⟨buffer, short, absent, select, released, command, first, sampled⟩⟩ =>
      ⟨buffer, ⟨loading, source, short, absent, select, released, command, first, sampled⟩⟩,
    fun ⟨buffer, ⟨loading, source, short, absent, select, released, command, first, sampled⟩⟩ =>
      ⟨loading, source, ⟨buffer, short, absent, select, released, command, first, sampled⟩⟩⟩

/-- An event that leaves the loader keeps the laws, where it leaves LOADING too. -/
theorem State.StoreLaws.of_same {s t : State} (h : s.StoreLaws) (loader : t.loader = s.loader)
    (source : t.life.source = s.life.source) (loading : s.life.life = .loading → t.life.life = .loading) :
    t.StoreLaws := by
  refine ⟨?_, ?_, ?_⟩ <;> rw [loader]
  · exact fun busy => loading (h.loading busy)
  · rw [source]
    exact h.source
  · exact h.read

/-- While no memory read runs, and none is begun, the laws ask for a canonical buffer and no more of the loader than
that the memory stays deselected (R141, R142). -/
theorem State.StoreLaws.of_stopped {s t : State} (h : s.StoreLaws) (still : s.loader.phase ≠ .reading)
    (buffer : Memory.wf t.loader.buffer = true)
    (phase : t.loader.phase ≠ .reading ∧ (t.loader.phase ≠ .idle → t.life.life = .loading))
    (others : t.loader.scs = s.loader.scs ∧ t.loader.sck = s.loader.sck ∧ t.loader.sdo = s.loader.sdo ∧
      t.loader.sdi = s.loader.sdi) : t.StoreLaws := by
  obtain ⟨notReading, loading⟩ := phase
  obtain ⟨scs, sck, sdo, sdi⟩ := others
  have free : s.loader.scs = false := by
    rw [← Bool.not_eq_true]
    exact fun selected => still (h.read.select.1 selected)
  obtain ⟨low, sent, none⟩ := h.read.released free
  rw [free] at scs
  rw [low] at sck
  rw [sent] at sdo
  rw [none] at sdi
  refine ⟨loading, fun reading => absurd reading notReading, ?_⟩
  constructor <;> simp [buffer, notReading, scs, sck, sdo, sdi]

/-- With source SUPERVISOR no memory read runs (R141). -/
theorem State.StoreLaws.not_reading {s : State} (h : s.StoreLaws) (source : s.life.source = .supervisor) :
    s.loader.phase ≠ .reading := by
  intro reading
  simpa [source] using h.source reading

/-- COMMIT starts the check of an image from the supervisor (R142, R183). -/
theorem State.StoreLaws.commitImage {s : State} (h : s.StoreLaws) : s.commitImage.StoreLaws := by
  unfold State.commitImage
  split
  · rename_i commits
    obtain ⟨loading, source⟩ := commits
    exact h.of_stopped (h.not_reading source) h.read.buffer ⟨by simp, fun _ => loading⟩ ⟨rfl, rfl, rfl, rfl⟩
  · exact h.of_same rfl rfl id

/-- A byte written to the buffer in its place (R142, R179). -/
theorem State.StoreLaws.writeBuffer {s : State} (h : s.StoreLaws) (writable : s.bufferWritable = true) {a : Nat}
    (place : a < bufferSize) (b : Byte) :
    (s.onLoader (fun l => { l with buffer := Memory.write l.buffer a b })).StoreLaws := by
  simp only [State.bufferWritable, Bool.and_eq_true, beq_iff_eq] at writable
  obtain ⟨⟨-, source⟩, -⟩ := writable
  have still := h.not_reading source
  exact h.of_stopped still (Memory.write_wf h.read.buffer b place) ⟨still, h.loading⟩ ⟨rfl, rfl, rfl, rfl⟩

/-- A byte written (R177, R179, R181). -/
theorem State.StoreLaws.writeByte {s : State} (h : s.StoreLaws) (b : Byte) : (s.writeByte b).StoreLaws := by
  have commands : ∀ {t : State} (c : Command), t.StoreLaws → (t.runCommand c).StoreLaws := fun c law => by
    cases c
    case commit => exact law.commitImage
    all_goals
      simp only [State.runCommand]
      exact law.of_same (by simp) (by simp) (by simp)
  have settled : ∀ {t : State} (code : Byte), t.StoreLaws → (t.settleCommand code).StoreLaws := fun code law => by
    simp only [State.settleCommand]
    (repeat' split)
    case h_2.isFalse.isFalse => exact commands _ law
    all_goals exact law.of_same rfl rfl id
  have written : ∀ off, (s.writeRegister off b).StoreLaws := fun off => by
    simp only [State.writeRegister]
    (repeat' split)
    · exact h.of_same rfl rfl id
    · exact h.of_same rfl rfl id
    · exact settled (t := s.onPort _) b (h.of_same rfl rfl id)
    · rename_i place
      obtain ⟨first, last, writable⟩ := place
      exact h.writeBuffer writable (by simp only [bufferSize]; omega) b
    · exact h
  exact (written _).of_same rfl rfl id

/-- A write transaction (R177). -/
theorem State.StoreLaws.writeTransaction {s : State} (h : s.StoreLaws) (address : BitVec 7) (data : List Byte) :
    (s.writeTransaction address data).StoreLaws := by
  have begun : ∀ acks, (s.beginTransaction acks).StoreLaws := fun acks => h.of_same rfl rfl id
  simp only [State.writeTransaction]
  split
  · simp only [State.writeData]
    split
    · refine List.foldlRecOn (motive := State.StoreLaws) _ _ ?_ fun _ law b _ => law.writeByte b
      exact h.of_same rfl rfl id
    all_goals exact begun _
  · exact begun _

/-- The end of the image check leaves the loader idle (R142, R144, R145). -/
theorem State.StoreLaws.imageCheckEnd {s : State} (h : s.StoreLaws) : s.imageCheckEnd.StoreLaws := by
  unfold State.imageCheckEnd
  split
  · rename_i checks
    have still : s.loader.phase ≠ .reading := by simp [checks.1]
    split <;> exact h.of_stopped still (by simpa using h.read.buffer) (by simp) (by simp)
  · exact h

/-- The memory read goes on or ends in LOADING (R141). -/
theorem State.StoreLaws.memoryRead {s : State} (h : s.StoreLaws) (part : MemoryPart) :
    (s.memoryRead part).StoreLaws := by
  unfold State.memoryRead
  split
  · rename_i reads
    exact ⟨fun _ => reads.2, fun _ => h.source reads.1, h.read.readPart part⟩
  · exact h

/-- The part after reset, with the memory read begun or not (R140, R141). -/
theorem storeLaws_of_reset (s : State) : s.resetPart.StoreLaws ∧
    ∀ stn source, (s.leaveReset stn source).StoreLaws := by
  have idle : Loader.reset.ReadLaw := by constructor <;> simp [Loader.reset]
  have begun : ({ Loader.reset with
      phase := .reading, scs := true, sdo := memoryReadCommand.flatMap spiLevels } : Loader).ReadLaw := by
    constructor <;> simp [Loader.reset, Memory.read]
  refine ⟨⟨fun _ => rfl, nofun, idle⟩, fun stn source => ?_⟩
  cases source with
  | memory => exact ⟨fun _ => rfl, fun _ => rfl, begun⟩
  | supervisor => exact ⟨fun _ => rfl, nofun, idle⟩

/-- Every command keeps the laws while the RESET pin is not held. -/
theorem effectRunning_storeLaws (c : Instr) {s : State} (h : s.StoreLaws) : (effectRunning c s).StoreLaws := by
  cases c
  case reset => exact (storeLaws_of_reset s).1
  case memoryReadEnd part => exact h.memoryRead part
  case imageCheckEnd => exact h.imageCheckEnd
  case truthEdge c =>
    simp only [effectRunning]
    split
    · exact h.of_same (by simp) (by simp) (by simp)
    · exact h
  case listenTimerExpiry =>
    refine h.of_same (by simp [effectRunning]) (by simp [effectRunning]) fun loading => ?_
    simp [effectRunning, State.listenExpiry, loading]
  case withdrawTimerExpiry =>
    refine h.of_same (by simp [effectRunning]) (by simp [effectRunning]) fun loading => ?_
    simp [effectRunning, State.withdrawExpiry, loading]
  case frameEnd levels =>
    refine h.of_same (by simp [effectRunning]) (by simp [effectRunning]) fun loading => ?_
    have silent : ∀ rx, s.receiving rx = false := fun rx => by simp [State.receiving, loading, Life.running]
    simp only [effectRunning, (receptionEnds_eq_self silent levels).1, loading]
  case collision bitTime =>
    refine h.of_same (by simp [effectRunning]) (by simp [effectRunning]) fun loading => ?_
    simp [effectRunning, State.collision, State.transmitting, loading]
  case imageBufferWrite | registerWrite => exact h.writeTransaction _ _
  case take | ackAll | ackOne | silence | lampTestOn | lampTestOff | countClear | commit | unknownCommand =>
    simp only [effectRunning, State.writeCommand]
    exact h.writeTransaction _ _
  all_goals
    simp only [effectRunning]
    exact h.of_same (by simp) (by simp) (by simp)

/-- Every command keeps the laws of the buffer and the loader. -/
theorem effect_storeLaws (c : Instr) {s : State} (h : s.StoreLaws) : (effect c s).StoreLaws := by
  obtain ⟨reset, leaves⟩ := storeLaws_of_reset s
  exact effect_keeps h reset leaves (effectRunning_storeLaws c h)

/-- Settles O58: what is written down, and what the loader holds, one command at a time. -/
theorem stepsKeepTheRecordLaws : Obligations.StepsKeepTheRecordLaws := by
  intro s t lawful stepped
  rw [step_eq] at stepped
  cases stepped
  have books : s.BookLaws := ⟨lawful.journal, lawful.reports, lawful.count⟩
  have store : s.StoreLaws := (storeLaws_iff s).2 ⟨lawful.buffer, lawful.loader⟩
  have kept : ∀ {t : State}, t.BookLaws → t.StoreLaws →
      t.JournalLaw ∧ t.ReportLaw ∧ t.BufferLaw ∧ t.LoaderLaw ∧ t.CountLaw := fun booksT storeT => by
    obtain ⟨buffer, loader⟩ := (storeLaws_iff _).1 storeT
    exact ⟨booksT.journal, booksT.reports, buffer, loader, booksT.count⟩
  split
  · exact kept (books.of_same (by simp) (by simp) (by simp) (by simp)) (store.of_same (by simp) (by simp) (by simp))
  · rename_i c rest _
    obtain ⟨-, -, idle⟩ := lawful.withPending rest
    exact kept (effect_bookLaws c (books.of_same (t := s.withPending rest) rfl rfl rfl rfl) idle)
      (effect_storeLaws c (store.of_same (t := s.withPending rest) rfl rfl id))

end Machine
end Sys2Proof
end

section
namespace Sys2Proof
namespace Machine

/-! ### What ends an event (R106, R128, R157 to R166) -/

/-- The phases in which a pattern is on (Table 9-3). -/
theorem Pattern.on_iff (p : Pattern) (phase : Fin 8) : p.on phase = true ↔ match p with
    | .off => False
    | .steady => True
    | .fast => phase = 0 ∨ phase = 2 ∨ phase = 4 ∨ phase = 6
    | .slow => phase = 0 ∨ phase = 1 ∨ phase = 2 ∨ phase = 3
    | .wink => phase = 0 := by
  revert phase
  cases p <;> decide

/-- A LAMP output shows the pattern of its condition entry (R159, R160). -/
theorem lampPattern_on_iff (testing : Bool) (e : CondEntry) (phase : Fin 8) :
    (lampPattern testing e).on phase = true ↔ lampShows testing e phase := by
  rw [Pattern.on_iff]
  unfold lampPattern lampShows
  by_cases test : testing = true
  · simp [test]
  · by_cases good : e.quality = .good
    · cases e.state <;> simp [test, good]
    · simp [test, good]

/-- HORN's level is the clear latch beside a horn-set condition that sounds it (R164). -/
theorem State.hornLevel_iff (s : State) : s.hornLevel = true ↔ s.out.latch = false ∧ ∃ r ∈ s.settings.horn,
    (s.condEntry r.station r.cond).quality = .good ∧ (s.condEntry r.station r.cond).state = .alertUnack := by
  simp [State.hornLevel]

/-- A station that is not ACTIVE, or not in QUIET, or holds no WAITING entry starts nothing (R106, R128). -/
theorem quietStart_of_not {s : State}
    (not : ¬ (s.life.life = .active ∧ s.line.state = .quiet ∧ ∃ e ∈ s.frame.queue, e.onLine = false)) :
    s.quietStart = s := by
  unfold State.quietStart
  split
  next quiet =>
    refine startTransmission_of_none_waits fun e he => ?_
    by_contra waits
    exact not ⟨quiet.1, quiet.2, e, he, by simpa using waits⟩
  next => rfl

/-- The output levels and HORN outside the running life states, and in them (R157, R166). -/
theorem driveOutputs_out (s : State) : s.driveOutputs.out = { s.out with
    levels := .build (fun i => s.life.life.running && s.outLevel (s.settings.outs.get i))
    horn := s.life.life.running && s.hornLevel } := rfl

/-- Settles O3: the transmission that starts is `startTransmission_starts`, and the lines are read off their settings. -/
theorem settleStartsAndDrives : Obligations.SettleStartsAndDrives := by
  refine ⟨fun s => ⟨fun active quiet waits => ?_, quietStart_of_not⟩, fun s => rfl, fun s => ⟨?_, rfl, ?_, ?_⟩⟩
  · have starts := startTransmission_starts s waits
    simpa [State.quietStart, active, quiet] using starts
  · intro b hb
    cases b <;> simp at hb <;> simp [Block.same]
  · intro stopped
    simp [driveOutputs_out, stopped]
  · intro running
    refine ⟨by simp [driveOutputs_out, running, State.hornLevel_iff], fun i => ?_⟩
    have level : s.driveOutputs.out.levels.get i = s.outLevel (s.settings.outs.get i) := by
      simp [driveOutputs_out, running]
    rw [level]
    refine ⟨fun o => ?_, fun r o => ?_, fun st p invert doubt o => ?_, fun r invert doubt o => ?_⟩
    · simp [o, State.outLevel]
    · rw [o]; exact lampPattern_on_iff _ _ _
    · simp [o, State.outLevel]
    · simp [o, State.outLevel]

/-! ### The own sequence (R112, R115) -/

/-- The own next sequence and FIRST stand as they stood. -/
def State.SameSequence (s t : State) : Prop := t.frame.nextSeq = s.frame.nextSeq ∧ t.frame.first = s.frame.first

/-- A state that is not changed keeps its sequence. -/
theorem State.sameSequence_refl (s : State) : s.SameSequence s := ⟨rfl, rfl⟩

/-- Only the completion of a transmission, and the resets, move the own next sequence or FIRST (R112, R115). -/
theorem effectRunning_sameSequence {c : Instr} (resets : c.resets = false) (other : c ≠ .transmissionComplete)
    (s : State) : s.SameSequence (effectRunning c s) := by
  unfold State.SameSequence
  cases c <;> simp only [effectRunning, State.writeCommand]
  case reset => cases resets
  case leaveReset => cases resets
  case transmissionComplete => exact absurd rfl other
  case truthEdge cond => split <;> simp
  all_goals simp

/-- Of the frames that complete, a STATE advances the sequence and clears FIRST, and the others keep both (R112). -/
theorem complete_sequence (s : State) : s.SameSequence s.complete ∨
    (∃ e, s.onLineEntry = some e ∧ e.isState = true) ∧ s.complete.frame.nextSeq = s.frame.nextSeq + 1 ∧
      s.complete.frame.first = false := by
  unfold State.complete State.SameSequence
  cases entry : s.onLineEntry with
  | none => exact .inl ⟨rfl, rfl⟩
  | some e =>
    dsimp only
    split
    next kind => exact .inr ⟨⟨e, rfl, by simp [QEntry.isState, kind]⟩, by simp [State.completeState]⟩
    all_goals exact .inl (by simp)

/-- Settles O7: every other command keeps the sequence, and of the completions only that of a STATE moves it. -/
theorem sequenceAdvancesOnlyAtCompletion : Obligations.SequenceAdvancesOnlyAtCompletion := by
  intro c s t steps resets moved
  have answers : effect c s = t := by simpa [exec_eq_effect] using steps
  have changed : ¬ s.SameSequence t := by
    rintro ⟨seq, first⟩
    exact moved.elim (· seq) (· first)
  subst answers
  have runs : effect c s = effectRunning c s := by
    unfold effect at changed ⊢
    split at changed
    · rcases effectHeld_of_not_resets resets s with same | acts
      · exact absurd (by rw [same]; exact s.sameSequence_refl) changed
      · simp [acts]
    · rename_i running
      simp [running]
  rw [runs] at changed ⊢
  have completion : c = .transmissionComplete := by
    by_contra other
    exact changed (effectRunning_sameSequence resets other s)
  subst completion
  simp only [effectRunning, State.transmissionComplete] at changed ⊢
  by_cases transmits : s.transmitting = true
  · rw [if_pos transmits] at changed ⊢
    exact ⟨trivial, transmits, (complete_sequence s).resolve_left changed⟩
  · rw [if_neg transmits] at changed
    exact absurd s.sameSequence_refl changed

/-! ### A valid frame end (R98, R99, R121) -/

/-- A station that drives nothing has nothing to stop (R133). -/
theorem stopDriving_of_window {s : State} (window : s.line.state = .window) : s.stopDriving = s := by
  simp [State.stopDriving, window]

/-- A duplicate notice in a window leaves the line as it is (R133, R149). -/
theorem duplicateNotice_line {s : State} (window : s.line.state = .window) : s.duplicateNotice.line = s.line := by
  have enters : s.enterDuplicate.line = s.line := by
    rw [State.enterDuplicate, stopDriving_of_window window]
    simp
  unfold State.duplicateNotice
  split
  · exact enters
  · exact enters
  all_goals rfl

/-- Taking a frame in a window leaves the line as it is (R100, R101). -/
theorem receiveFrame_line {s : State} (window : s.line.state = .window) (bytes : List Byte) :
    (s.receiveFrame bytes).line = s.line := by
  rcases receiveFrame_inv s bytes with ⟨-, taken⟩ | ⟨-, taken⟩ | ⟨st, p, -, taken⟩ <;> rw [taken]
  · split
    · rw [duplicateNotice_line (by simpa using window)]; simp
    · exact duplicateNotice_line window
  · simp
  · cases p <;> simp

/-- Taking a frame raises the discarded-frame count where the frame can not be read, and only there (R98, R99). -/
theorem receiveFrame_discarded (s : State) (bytes : List Byte) : (s.receiveFrame bytes).frame.discarded =
    if decodeFrame bytes = none then min 65535 (s.frame.discarded + 1) else s.frame.discarded := by
  rcases receiveFrame_inv s bytes with ⟨-, taken⟩ | ⟨unreadable, taken⟩ | ⟨st, p, decoded, taken⟩ <;> rw [taken]
  · by_cases unreadable : decodeFrame bytes = none
    · simp [unreadable, State.raiseDiscarded]
    · simp [unreadable, Option.isNone_iff_eq_none]
  · simp [unreadable, State.raiseDiscarded]
  · cases p <;> simp [decoded]

/-- Settles O33: the frame end sets the line, and taking the frame leaves the line as it is. -/
theorem frameEndTakesW : Obligations.FrameEndTakesW := by
  intro levels bytes s hears
  have window : (s.atFrameEnd bytes).line = { s.line with
      state := .window
      slot := some 0
      nextSlot := 0
      rx := .none
      w := some (frameOrigin bytes)
      blind := false } := rfl
  refine ⟨_, exec_frameEnd_of_hears hears, ?_, ?_, fun unreadable other => ?_, ?_⟩
  · rw [receiveFrame_line (by rw [window]), window]
  · simp [receiveFrame_discarded]
  · rw [receiveFrame_of_unreadable unreadable (by simpa [State.own] using other)]
    refine ⟨by simp [State.raiseDiscarded], ?_⟩
    intro b hb
    cases b <;> simp at hb <;> simp [Block.same]
  · intro b hb
    cases b <;> simp at hb <;> simp [Block.same]

end Machine
end Sys2Proof
end

section
namespace Sys2Proof
namespace Machine

/-! ### Where levels come to rest (R121, R123) -/

/-- After a dominant level, levels that end at rest do so as the levels that follow it do. -/
theorem endsOnce_of_append_dominant {before rest : List Level} (ends : endsOnce (before ++ .dominant :: rest)) :
    endsOnce rest := by
  obtain ⟨start, split, first⟩ := ends
  have quiet : tailLevels <:+ before ++ .dominant :: rest := ⟨start, split.symm⟩
  have follows : tailLevels <:+ rest := by
    have loud : ¬ Level.dominant :: rest <:+ tailLevels := fun sub => by
      have inTail : Level.dominant ∈ tailLevels := sub.subset (by simp)
      simp [tailLevels] at inTail
    have later : tailLevels <:+ .dominant :: rest :=
      (List.suffix_or_suffix_of_suffix quiet (List.suffix_append _ _)).resolve_right loud
    rcases List.suffix_cons_iff.1 later with same | after
    · exact absurd (same ▸ List.suffix_rfl) loud
    · exact after
  refine ⟨_, follows.choose_spec.symm, fun n short early => first (before.length + 1 + n) (by simp; omega) ?_⟩
  have cut : (before ++ .dominant :: rest).take (before.length + 1 + n) = before ++ .dominant :: rest.take n := by
    rw [Nat.add_assoc, List.take_length_add_append, Nat.add_comm, List.take_succ_cons]
  rw [cut]
  exact early.trans ((List.suffix_cons _ _).trans (List.suffix_append _ _))

/-- Levels that end at rest once are found to, however many of their recessive bit times have passed (R121). -/
theorem endsQuiet_of_endsOnce (levels : List Level) : ∀ {n : Nat}, n ≤ 9 →
    endsOnce (List.replicate n .recessive ++ levels) → endsQuiet n levels = true := by
  induction levels with
  | nil =>
    rintro n few ⟨start, split, -⟩
    have := congrArg List.length split
    simp [tailLevels] at this
    omega
  | cons level rest ih =>
    intro n few ends
    cases level with
    | dominant => simpa [endsQuiet] using ih (Nat.zero_le 9) (by simpa using endsOnce_of_append_dominant ends)
    | recessive =>
      have longer : List.replicate n Level.recessive ++ .recessive :: rest =
          List.replicate (n + 1) .recessive ++ rest := by simp [List.replicate_succ']
      rw [longer] at ends
      by_cases last : n = 9
      · subst last
        obtain ⟨-, -, first⟩ := ends
        have none : rest.length = 0 := by
          by_contra more
          exact first 10 (by simp; omega) (by simp [tailLevels])
        simpa [endsQuiet] using none
      · simpa [endsQuiet, last] using ih (by omega) ends

/-- Levels that end at rest once end a broken reception (R120, R122). -/
theorem brokenEnd_of_endsOnce {levels : List Level} (ends : endsOnce levels) : brokenEnd 0 levels = .broken := by
  simp [brokenEnd, endsQuiet_of_endsOnce levels (Nat.zero_le 9) (by simpa using ends)]

/-! ### Dominant runs (R123) -/

/-- A dominant run is as long as the dominant levels the list begins with. -/
theorem dominantRun_eq (levels : List Level) :
    dominantRun levels = (levels.takeWhile (fun l => l == .dominant)).length := by
  induction levels with
  | nil => rfl
  | cons level rest ih => cases level <;> simp [dominantRun, ih]

/-- The run of dominant levels before a recessive one is all of them. -/
theorem dominantRun_replicate (n : Nat) (rest : List Level) :
    dominantRun (List.replicate n .dominant ++ .recessive :: rest) = n := by
  induction n with
  | zero => rfl
  | succ n ih => simp [List.replicate_succ, dominantRun, ih]

/-- Dominant levels do not begin the rest that ends a reception. -/
theorem endsQuiet_replicate (n : Nat) (rest : List Level) :
    endsQuiet 0 (List.replicate n .dominant ++ rest) = endsQuiet 0 rest := by
  induction n with
  | zero => rfl
  | succ n ih => simpa [List.replicate_succ, endsQuiet] using ih

/-- A framing error in a dominant run is a jam where the run, up to the first recessive level, reaches 8 (R123). -/
theorem jamOrBroken_run {rest : List Level} (ends : endsOnce (.recessive :: rest)) (before n : Nat) :
    jamOrBroken before (List.replicate n .dominant ++ .recessive :: rest) =
      if 8 ≤ before + 1 + n then .jammed else .broken := by
  rw [jamOrBroken, endsQuiet_replicate, endsQuiet_of_endsOnce _ (Nat.zero_le 9) (by simpa using ends),
    dominantRun_replicate, if_pos rfl]

/-! ### What breaks a reception (R120, R121, R123) -/

/-- The levels of bytes are read as those bytes, whatever follows. -/
theorem readBytes_flatMap (acc bytes : List Byte) (rest : List Level) :
    readBytes acc (bytes.flatMap byteLevels ++ rest) = readBytes (acc ++ bytes) rest := by
  induction bytes generalizing acc with
  | nil => simp
  | cons b bytes ih => rw [List.flatMap_cons, List.append_assoc, readBytes_byteLevels, ih, List.append_assoc]; rfl

/-- A lead-in and the levels of bytes are read as those bytes, whatever follows. -/
theorem readReception_driveLevels (bytes : List Byte) (rest : List Level) :
    readReception (driveLevels bytes ++ rest) = readBytes bytes rest := by
  simpa [driveLevels, readReception] using readBytes_flatMap [] bytes rest

/-- A dominant stop bit is a framing error; the dominant data bits before it and the start bit are of its run (R123). -/
theorem readBytes_dominantStop {data : List Level} (eight : data.length = 8) (bytes : List Byte) (rest : List Level) :
    readBytes bytes (.dominant :: data ++ .dominant :: rest) =
      jamOrBroken ((.dominant :: data).reverse.takeWhile (fun l => l == .dominant)).length rest := by
  match data, eight with
  | [_, _, _, _, _, _, _, _], _ =>
    rw [← dominantRun_eq]
    rfl

/-- A dominant level before the tenth recessive bit time after a stop bit is a framing error (R121). -/
theorem readTail_dominant (bytes : List Byte) (rest : List Level) (n : Nat) : ∀ {passed : Nat}, passed + n ≤ 9 →
    readTail bytes passed (List.replicate n .recessive ++ .dominant :: rest) = brokenEnd 0 rest := by
  induction n with
  | zero => intro passed _; rfl
  | succ n ih =>
    intro passed few
    rw [List.replicate_succ, List.cons_append, readTail, if_neg (by omega)]
    exact ih (by omega)

/-- A recessive lead-in bit of the first three, or a dominant fourth one, breaks the reception (R120, R123). -/
theorem readReception_leadIn {rest : List Level} (ends : endsOnce (.recessive :: rest)) :
    (∀ n, 1 ≤ n → n < 3 → readReception (List.replicate n .dominant ++ .recessive :: rest) = .broken) ∧
    ∀ n, 4 ≤ n → readReception (List.replicate n .dominant ++ .recessive :: rest) =
      if 8 ≤ n then .jammed else .broken := by
  refine ⟨fun n atLeast few => ?_, fun n long => ?_⟩
  · have either : n = 1 ∨ n = 2 := by omega
    rcases either with rfl | rfl <;> exact brokenEnd_of_endsOnce ends
  · obtain ⟨k, rfl⟩ := Nat.exists_eq_add_of_le long
    have run := jamOrBroken_run ends 3 k
    rw [List.replicate_add]
    exact run

/-! ### The end of a reception that is of no use (R98, R122, R123, R130) -/

/-- What the discarded-frame count comes to where a reception ends that is of no use (R98). -/
def State.countUseless (s : State) : Nat :=
  if s.line.rx = .frame then min 65535 (s.frame.discarded + 1) else s.frame.discarded

/-- A reception that ends without a frame begins a window and counts itself, but for the own frame (R98, R130). -/
def State.endUseless (s : State) : State :=
  if s.line.rx = .frame then s.beginWindow.raiseDiscarded else s.beginWindow

/-- What the end of a reception of no use changes (R98, R124, R130). -/
theorem endUseless_effect (s : State) :
    s.endUseless.line = { s.line with state := .window, slot := some 0, nextSlot := 0, rx := .none } ∧
    s.endUseless.frame = { s.frame with discarded := s.countUseless } ∧ s.changesOnly [.line, .frame] s.endUseless := by
  unfold State.endUseless State.countUseless
  split
  all_goals
    refine ⟨by simp [State.beginWindow], by simp [State.raiseDiscarded], fun b hb => ?_⟩
    cases b <;> simp at hb <;> simp [Block.same]

/-- The end of an invalid reception, where one is under way (R122). -/
theorem invalidEnd_eq {s : State} (running : s.life.life.running = true) (state : s.line.state = .receiving)
    (rx : s.line.rx = .frame ∨ s.line.rx = .ownFrame) :
    s.invalidEnd = (s.onLine (fun l => { l with blind := true })).endUseless := by
  rcases rx with rx | rx <;> simp [State.invalidEnd, State.endUseless, State.receiving, running, state, rx]

/-- The end of a reception in which a jam is recognised, where one is under way (R123). -/
theorem jamEnd_eq {s : State} {levels : List Level} (jammed : readReception levels = .jammed)
    (running : s.life.life.running = true) (state : s.line.state = .receiving)
    (rx : s.line.rx = .frame ∨ s.line.rx = .ownFrame) : s.jamEnd levels = s.endUseless := by
  rcases rx with rx | rx <;> simp [State.jamEnd, State.endUseless, State.receiving, jammed, running, state, rx]

/-- Levels that are not valid on the line and hold no jam end an invalid reception (R122). -/
theorem invalidReceptionEnd_eq {levels : List Level} (invalid : readReception levels = .broken ∨
    ∃ bytes, readReception levels = .complete bytes ∧ validOnLine bytes = false) (s : State) :
    s.invalidReceptionEnd levels = s.invalidEnd := by
  rcases invalid with broken | ⟨bytes, complete, unfit⟩
  · simp [State.invalidReceptionEnd, broken]
  · simp [State.invalidReceptionEnd, complete, unfit]

/-- Settles O39: the ends of receptions by `endUseless`, and what breaks one by reading its levels in order. -/
theorem unusableReceptionsAreCounted : Obligations.UnusableReceptionsAreCounted := by
  refine ⟨fun levels s notHeld running state rx => ⟨fun invalid => ?_, fun jammed => ?_⟩, fun rest ends => ?_,
    fun rest bytes n ends _ atLeast few => ?_⟩
  · refine ⟨_, exec_running _ notHeld, ?_⟩
    simp only [effectRunning, invalidReceptionEnd_eq invalid, invalidEnd_eq running state rx]
    obtain ⟨line, frame, only⟩ := endUseless_effect (s.onLine (fun l => { l with blind := true }))
    refine ⟨line, frame, State.changesOnly_trans (fun b hb => ?_) only⟩
    cases b <;> simp at hb <;> rfl
  · refine ⟨_, exec_running _ notHeld, ?_⟩
    simp only [effectRunning, jamEnd_eq jammed running state rx]
    exact endUseless_effect s
  · refine ⟨(readReception_leadIn ends).1, (readReception_leadIn ends).2, fun bytes data n eight atLeast => ?_⟩
    obtain ⟨k, rfl⟩ := Nat.exists_eq_add_of_le' atLeast
    have levels : driveLevels bytes ++ .dominant :: data ++ List.replicate (k + 1) .dominant ++ .recessive :: rest =
        driveLevels bytes ++
          (.dominant :: data ++ .dominant :: (List.replicate k .dominant ++ .recessive :: rest)) := by
      simp [List.replicate_succ]
    dsimp only
    rw [levels, readReception_driveLevels, readBytes_dominantStop eight, jamOrBroken_run ends]
    congr 2
    omega
  · obtain ⟨k, rfl⟩ := Nat.exists_eq_add_of_le' atLeast
    rw [List.append_assoc, readReception_driveLevels, List.replicate_succ, List.cons_append, readBytes,
      ← List.cons_append, ← List.replicate_succ, readTail_dominant _ _ _ (by omega)]
    exact brokenEnd_of_endsOnce ends

end Machine
end Sys2Proof
end

section
namespace Sys2Proof
namespace Machine

/-! ### A jam in a frame broken off anywhere (R120, R123, R131) -/

/-- The recessive tail ends at rest, and no earlier than with its last bit time. -/
theorem endsOnce_tailLevels : endsOnce (.recessive :: List.replicate 9 .recessive) := by
  refine ⟨[], rfl, fun n short early => ?_⟩
  have := early.length_le
  simp [tailLevels] at this short
  omega

/-- The levels `started` of a byte, cut short before its stop bit, and then a jam: the jam's levels are read as the rest
of the byte and as a dominant stop bit, which is a framing error in a run that the jam alone makes long enough. -/
theorem readBytes_cutByte_jammed {started : List Level} (short : started.length ≤ 9)
    (startBit : ∀ l ∈ started.head?, l = .dominant) {k : Nat} (long : 16 ≤ k) (acc : List Byte) :
    readBytes acc (started ++ (List.replicate k .dominant ++ tailLevels)) = .jammed := by
  obtain ⟨fill, hfill⟩ : ∃ fill, fill = 9 - started.length := ⟨_, rfl⟩
  obtain ⟨past, rfl⟩ : ∃ past, k = fill + (1 + past) := ⟨k - fill - 1, by omega⟩
  obtain ⟨data, filled⟩ : ∃ data, started ++ List.replicate fill .dominant = .dominant :: data := by
    cases started with
    | nil => exact ⟨List.replicate 8 .dominant, by simp [hfill, List.replicate_succ]⟩
    | cons l rest => exact ⟨rest ++ List.replicate fill .dominant, by simp [startBit l rfl]⟩
  have eight : data.length = 8 := by
    have := congrArg List.length filled
    simp only [List.length_append, List.length_replicate, List.length_cons] at this
    omega
  have levels : started ++ (List.replicate (fill + (1 + past)) .dominant ++ tailLevels) = .dominant :: data ++
      .dominant :: (List.replicate past .dominant ++ .recessive :: List.replicate 9 .recessive) := by
    rw [← filled]
    simp [List.replicate_add, tailLevels, List.replicate_succ]
  have run : fill ≤ ((Level.dominant :: data).reverse.takeWhile (fun l => l == .dominant)).length := by
    rw [← filled, List.reverse_append, List.reverse_replicate, List.takeWhile_append_of_pos (by simp)]
    simp
  rw [levels, readBytes_dominantStop eight, jamOrBroken_run endsOnce_tailLevels, if_pos (by omega)]

/-- A jam is read as one wherever the bytes of a frame are broken off, by the byte that is cut. -/
theorem readBytes_cut_jammed {k : Nat} (long : 16 ≤ k) (bytes : List Byte) : ∀ (n : Nat) (acc : List Byte),
    readBytes acc ((bytes.flatMap byteLevels).take n ++ (List.replicate k .dominant ++ tailLevels)) = .jammed := by
  induction bytes with
  | nil =>
    intro n acc
    simpa using readBytes_cutByte_jammed (started := []) (by simp) (by simp) long acc
  | cons b bytes ih =>
    intro n acc
    have ten : (byteLevels b).length = 10 := rfl
    rw [List.flatMap_cons, List.take_append, ten]
    by_cases cut : n ≤ 9
    · rw [Nat.sub_eq_zero_of_le (by omega), List.take_zero, List.append_nil]
      refine readBytes_cutByte_jammed (by simp [ten]; omega) (fun l hl => ?_) long acc
      cases n with
      | zero => simp at hl
      | succ n => simpa [byteLevels, eq_comm] using hl
    · rw [List.take_of_length_le (by omega), List.append_assoc, readBytes_byteLevels]
      exact ih _ _

/-- Settles O60: a frame broken off in its lead-in by the lead-in bit that fails, and one broken off later by
`readBytes_cut_jammed`. -/
theorem jamIsAlwaysRecognised : Obligations.JamIsAlwaysRecognised := by
  intro bytes n k _ long
  rw [List.append_assoc, driveLevels, List.take_append]
  by_cases leadIn : n ≤ 3
  · have dominant : List.take n [Level.dominant, .dominant, .dominant, .recessive] = List.replicate n .dominant := by
      interval_cases n <;> rfl
    have jammed := (readReception_leadIn endsOnce_tailLevels).2 (n + k) (by omega)
    rw [if_pos (by omega)] at jammed
    rw [dominant, Nat.sub_eq_zero_of_le (by simpa using by omega), List.take_zero, List.append_nil, ← List.append_assoc,
      ← List.replicate_add]
    exact jammed
  · rw [List.take_of_length_le (by simpa using by omega)]
    exact readBytes_cut_jammed long bytes _ []

end Machine
end Sys2Proof
end

section
namespace Sys2Proof
namespace Machine

/-! ### The slots of a window (R124 to R127) -/

/-- The rank under a winner number, without a sum below zero (R125). -/
theorem val_rank (own w : Station) : (rank own w).val = (own.val + 31 - w.val) % 32 := by
  simp only [rank, Fin.sub_def]
  omega

/-- The slots a station starts in: its urgent slot for an URGENT entry, and its routine slot for any (R125 to R127). -/
theorem startsIn_iff (slot : Fin 64) (s : State) : s.startsIn slot = true ↔
    s.life.life = .active ∧ s.line.blind = false ∧ ∃ w, s.line.w = some w ∧
      ((slot.val = (s.own.val + 31 - w.val) % 32 ∧ ∃ e ∈ s.frame.queue, e.onLine = false ∧ e.urgent = true) ∨
        (slot.val = 32 + (s.own.val + 31 - w.val) % 32 ∧ ∃ e ∈ s.frame.queue, e.onLine = false)) := by
  unfold State.startsIn
  cases winner : s.line.w with
  | none => simp
  | some w => simp [val_rank, and_assoc, QEntry.waitsUrgent, QEntry.waits]

/-- A station starts only where an entry waits. -/
theorem waits_of_startsIn {slot : Fin 64} {s : State} (starts : s.startsIn slot = true) :
    ∃ e ∈ s.frame.queue, e.onLine = false := by
  obtain ⟨-, -, w, -, ⟨-, e, he, waits, -⟩ | ⟨-, waits⟩⟩ := (startsIn_iff slot s).1 starts
  · exact ⟨e, he, waits⟩
  · exact waits

/-- Settles O40: the slot passes, and where `startsIn_iff` says so the transmission that starts is
`startTransmission_starts`. -/
theorem slotStartSendsInItsOwnSlots : Obligations.SlotStartSendsInItsOwnSlots := by
  intro slot s held running state next mine passed
  have start : exec (.slotStart slot) s = .next (if s.startsIn slot then passed.startTransmission else passed) := by
    rw [exec_running _ held]
    simp only [effectRunning, State.slotStart, if_pos (And.intro running (And.intro state next)), passed]
  refine ⟨fun other => ?_, fun own => ?_⟩
  · rw [start, if_neg (fun starts => other ((startsIn_iff slot s).1 starts))]
  · have starts := (startsIn_iff slot s).2 own
    refine ⟨_, by rw [start, if_pos starts], startTransmission_starts passed ?_⟩
    exact waits_of_startsIn starts

end Machine
end Sys2Proof
end

section
namespace Sys2Proof
namespace Machine

/-! ### The ends and beginnings of windows (R119, R124, R128, R130, R131, R136) -/

/-- A change of the Line Access Controller changes no other block. -/
theorem State.onLine_changesOnly (s : State) (f : LineUnit → LineUnit) : s.changesOnly [.line] (s.onLine f) := by
  intro b hb
  cases b <;> simp at hb <;> rfl

/-- A window begins, after another change of the Line Access Controller, with no slot's start taken (R124). -/
theorem beginWindow_effect (s : State) (f : LineUnit → LineUnit) :
    (s.onLine f).beginWindow.line =
      { f s.line with state := .window, slot := some 0, nextSlot := 0, rx := .none } ∧
    s.changesOnly [.line] (s.onLine f).beginWindow :=
  ⟨rfl, State.changesOnly_trans (s.onLine_changesOnly f) (State.onLine_changesOnly _ _)⟩

/-- The release of a stuck line: the record, the blind flag, a window, and SFAULT without the stuck line (R136). -/
theorem lineReleased_effect {s : State} (running : s.life.life.running = true) (state : s.line.state = .stuck) :
    s.lineReleased.line = { s.line with state := .window, slot := some 0, nextSlot := 0, rx := .none, blind := true } ∧
    s.lineReleased.life = { s.life with lineStuck := false, sfault := sfaultOf s.life.life false } ∧
    s.hands s.lineReleased [.lineReleased] ∧ s.changesOnly [.line, .life, .journal] s.lineReleased := by
  have recorded : s.hands (s.record .lineReleased) [.lineReleased] := by
    simpa [State.scopePasses] using s.hands_record .lineReleased
  rw [State.lineReleased, if_pos ⟨running, state⟩]
  refine ⟨by simp [State.beginWindow], ?_, State.hands_of_journal recorded (by simp) (by simp) (by simp), fun b hb => ?_⟩
  · have sfault := driveSfault_sfault { s.life with lineStuck := false }
    rw [← sfault]
    simp [LifeControl.driveSfault]
  · cases b <;> simp at hb <;> simp [Block.same]

/-- A dominant level starts a reception, of the own frame in its tail and of a frame elsewhere (R120, R124, R130). -/
theorem receptionStart_eq {s : State} (running : s.life.life.running = true) (state : s.line.state = .quiet ∨
    s.line.state = .window ∨ (s.line.state = .transmitting ∧ s.line.sending = none)) :
    s.receptionStart = s.onLine (fun l => { l with
      state := .receiving
      slot := none
      rx := if s.line.state = .transmitting then .ownFrame else .frame }) := by
  rcases state with state | state | ⟨state, silent⟩
  · simp [State.receptionStart, running, state]
  · simp [State.receptionStart, running, state]
  · simp [State.receptionStart, running, state, silent]

/-- Settles O32: each event changes the Line Access Controller by one update, and the release of a stuck line does what
`lineReleased_effect` says. -/
theorem windowsBeginAndEnd : Obligations.WindowsBeginAndEnd := by
  intro s held running
  refine ⟨fun state rx => ?_, fun state silent => ?_,
    fun state => ⟨_, exec_running _ held, lineReleased_effect running state⟩, fun state levels => ?_, fun state => ?_,
    fun state => ?_⟩
  · have ends := exec_running .startupWaitEnd held
    rw [effectRunning, State.startupWaitEnd, if_pos ⟨running, state, rx⟩] at ends
    exact ⟨_, ends, rfl, s.onLine_changesOnly _⟩
  · have ends := exec_running .ownFrameEnd held
    rw [effectRunning, State.ownFrameEnd, if_pos ⟨running, state, silent⟩] at ends
    exact ⟨_, ends, beginWindow_effect s _⟩
  · have ends := exec_running (.jamEnd levels) held
    rw [effectRunning, State.jamEnd, if_pos ⟨running, state⟩] at ends
    exact ⟨_, ends, beginWindow_effect s _⟩
  · have starts := exec_running .receptionStart held
    rw [effectRunning, receptionStart_eq running state] at starts
    exact ⟨_, starts, rfl, s.onLine_changesOnly _⟩
  · have ends := exec_running .windowEnd held
    rw [effectRunning, State.windowEnd, if_pos ⟨running, state⟩] at ends
    exact ⟨_, ends, rfl, s.onLine_changesOnly _⟩

end Machine
end Sys2Proof
end

section
namespace Sys2Proof
namespace Machine

/-! ### The count (R140, R158, log entry 5) -/

/-- The last step of the pattern phase before the wrap is at 4294967250. -/
theorem nextStepAt_toNat {clock : Ms} (before : clock.toNat < 4294967250) :
    (nextStepAt clock).toNat = (clock.toNat / 125 + 1) * 125 := by
  have short : (clock.toNat / 125 + 1) * 125 < 2 ^ 32 := by omega
  simp only [nextStepAt, if_pos short, BitVec.toNat_ofNat]
  exact Nat.mod_eq_of_lt short

/-- From 4294967250 on the pattern phase steps over the wrap to 0. -/
theorem nextStepAt_wraps {clock : Ms} (last : 4294967250 ≤ clock.toNat) : nextStepAt clock = 0 :=
  if_neg (by omega)

/-- An expiry brings the count to the count at which it is due, or late, within 2^31 ms, leaves it (log entry 5). -/
theorem reachTime_clock (due : Ms) (s : State) :
    (s.reachTime due).clock = if (due - s.clock).toNat < 2147483648 then due else s.clock := by
  have late : (due - s.clock).msb = true ↔ ¬ (due - s.clock).toNat < 2147483648 := by
    rw [BitVec.msb_eq_decide, decide_eq_true_eq, Nat.not_lt]
  simp only [State.reachTime, late, ite_not]
  split <;> rfl

/-- An expiry's count moves the pattern phase alone of the outputs. -/
theorem reachTime_out (due : Ms) (s : State) :
    (s.reachTime due).out = { s.out with phase := (s.reachTime due).out.phase } := by
  unfold State.reachTime
  split <;> rfl

/-- Settles O2. -/
theorem timePasses : Obligations.TimePasses := by
  refine ⟨fun s idle => ?_, fun s free => ?_, fun due s => ?_⟩
  · have ticks : step s = .next s.tick := by rw [step_eq, idle]
    refine ⟨fun held => ?_, fun free => ⟨_, ticks, ?_, ?_, by simp, by simp, by simp, ?_⟩⟩
    · rw [ticks, State.tick, if_pos held]
    · simp [State.tick, free, State.setClock]
    · simp [State.tick, free, State.setClock]
    · intro b hb
      cases b <;> simp at hb <;> simp [Block.same]
  · have clock : s.patternStep.clock = nextStepAt s.clock := rfl
    refine ⟨_, exec_running _ free, fun before => ?_, fun last => ?_, ?_, rfl, rfl, rfl, ?_⟩
    · simp only [effectRunning, clock, nextStepAt_toNat before]
      omega
    · simp only [effectRunning, clock, nextStepAt_wraps last]
    · rfl
    · intro b hb
      cases b <;> simp at hb <;> simp [Block.same, effectRunning]
  · rw [reachTime_clock]
    refine ⟨fun soon => if_pos soon, fun late => if_neg (Nat.not_lt.2 late), reachTime_out due s, ?_⟩
    intro b hb
    cases b <;> simp at hb <;> simp [Block.same]

end Machine
end Sys2Proof
end

section
namespace Sys2Proof
namespace Machine

/-! ### Leaving reset, and the image check's failure (R138, R140 to R142, R145) -/

/-- Settles O11. -/
theorem leavingResetSamplesTheStraps : Obligations.LeavingResetSamplesTheStraps := by
  intro stn source s held
  refine ⟨s.leaveReset stn source, exec_held _ held, ?_⟩
  cases source with
  | memory =>
    have command : memoryReadCommand.flatMap spiLevels =
        List.replicate 6 false ++ [true, true] ++ List.replicate 16 false := by decide
    iterate 24 refine ⟨rfl, ?_⟩
    exact ⟨fun _ => ⟨rfl, rfl, command⟩, nofun⟩
  | supervisor =>
    iterate 24 refine ⟨rfl, ?_⟩
    exact ⟨nofun, fun _ => ⟨rfl, rfl, rfl⟩⟩

/-- The end of an image check that fails. -/
theorem imageCheckEnd_of_fails {s : State} {code : FaultCode} (loading : s.life.life = .loading)
    (checking : s.loader.phase = .checking) (fails : checkImage s.loader.buffer s.own = .error code) :
    s.imageCheckEnd = (s.onLoader (fun l => { l with phase := .idle, check := code })).failImage code := by
  simp only [State.imageCheckEnd, checking, loading, fails, and_self, if_true]

/-- A failed image from the memory stops the station in CONFIG_FAULT with its record (R145). -/
theorem failImage_of_memory {s : State} (source : s.life.source = .memory) (code : FaultCode) :
    s.failImage code =
      (s.setLife (fun l => { l with life := .configFault, fault := code })).record (.configFault s.own code) := by
  simp only [State.failImage, source]

/-- A failed image from the supervisor is told in RESULT and the fault code (R142). -/
theorem failImage_of_supervisor {s : State} (source : s.life.source = .supervisor) (code : FaultCode) :
    s.failImage code =
      (s.setLife (fun l => { l with fault := code })).onPort (fun p => { p with result := .fault code }) := by
  simp only [State.failImage, source]

/-- Settles O15. -/
theorem failedImageStopsOrWaits : Obligations.FailedImageStopsOrWaits := by
  intro code s held loading checking fails
  have checked := imageCheckEnd_of_fails loading checking fails
  refine ⟨_, exec_running _ held, ?_⟩
  simp only [effectRunning, checked]
  cases source : s.life.source with
  | memory =>
    rw [failImage_of_memory (by simpa using source)]
    refine ⟨by simp, by simp, fun _ => ⟨by simp, by simp [LifeControl.driveSfault], ?_, ?_⟩, nofun⟩
    · exact State.hands_record ((s.onLoader _).setLife _) (.configFault s.own code)
    · intro b hb
      cases b <;> simp at hb <;> simp [Block.same]
  | supervisor =>
    rw [failImage_of_supervisor (by simpa using source)]
    refine ⟨by simp, by simp, nofun, fun _ => ⟨by simp [loading], by simp, ?_⟩⟩
    intro b hb
    cases b <;> simp at hb <;> simp [Block.same]

/-! ### The state right after reset -/

/-- Settles O51: every working block at rest meets the laws of its chapter. -/
theorem resetIsLawful : Obligations.ResetIsLawful := by
  obtain ⟨idle, life, sfault⟩ : State.reset.LifeLaws :=
    lifeLaws_of_reset (State.changesOnly_refl _ _) (stn := 0) (source := .memory) (draws := 0) rfl
  have settled : State.reset.SettledLaw :=
    settledLaw_of_reset rfl (show Life.loading ≠ .active by decide) rfl rfl rfl
  obtain ⟨line, queue, requests⟩ := (trafficLaw_iff _).1 settled.traffic
  obtain ⟨conditions, annunciation⟩ := (condLaws_iff _).1 (condLaws_of_reset (s := State.reset) rfl rfl rfl rfl rfl)
  obtain ⟨journal, reports, count⟩ := bookLaws_of_reset (s := State.reset) rfl rfl rfl rfl
  obtain ⟨buffer, loader⟩ := (storeLaws_iff _).1 (storeLaws_of_reset State.reset).1
  have points : State.reset.PointLaw := by
    constructor <;> simp [State.reset, PointUnit.reset, Debouncer.reset, LifeControl.reset, Life.running]
  have controls : State.reset.ControlLaw := by
    refine ⟨nofun, fun i => ?_, rfl⟩
    cases i <;> rfl
  have outputs : State.reset.OutputLaw := by
    refine ⟨rfl, fun i => ?_, rfl⟩
    simp [State.reset, OutputUnit.reset, LifeControl.reset, Life.running]
  exact ⟨idle, life, sfault, pictureLaw_of_reset rfl rfl, points, controls, conditions, annunciation, line,
    settled.quiet, queue, requests, outputs, journal, reports, buffer, loader, count⟩

end Machine
end Sys2Proof
end

section
namespace Sys2Proof
namespace Machine

/-! ### Commands the port answers at once (R142, R181, R183) -/

/-- The commands of Table 11-3 with their codes. -/
def namedCommands : List (Instr × Byte) :=
  [(.take, 0x01), (.ackAll, 0x02), (.ackOne, 0x03), (.silence, 0x04), (.lampTestOn, 0x05), (.lampTestOff, 0x06),
    (.countClear, 0x07), (.commit, 0x08)]

/-- A command of a code, or of a code that names none, is a write of that code to COMMAND (log entry 12). -/
theorem effectRunning_of_command {c : Instr} {code : Byte}
    (writes : (c, code) ∈ namedCommands ∨ c = .unknownCommand code ∧ c.wf = true) :
    effectRunning c = State.writeCommand code := by
  have named : ∀ x ∈ namedCommands, effectRunning x.1 = State.writeCommand x.2 := by
    simp only [namedCommands, List.forall_mem_cons]
    exact ⟨rfl, rfl, rfl, rfl, rfl, rfl, rfl, rfl, nofun⟩
  rcases writes with is | ⟨rfl, -⟩
  · exact named _ is
  · rfl

/-- The command of a named code, and which of them go on in LOADING and in CONFIG_FAULT (R181). -/
theorem commandOf_named {c : Instr} {code : Byte} (named : (c, code) ∈ namedCommands) :
    ∃ k, commandOf code = some k ∧ (k = .take → c = .take) ∧ (k.inLoading = true → c = .take ∨ c = .commit) ∧
      c ≠ .unknownCommand code := by
  simp only [namedCommands, List.mem_cons, Prod.mk.injEq, List.not_mem_nil, or_false] at named
  rcases named with ⟨rfl, rfl⟩ | ⟨rfl, rfl⟩ | ⟨rfl, rfl⟩ | ⟨rfl, rfl⟩ | ⟨rfl, rfl⟩ | ⟨rfl, rfl⟩ | ⟨rfl, rfl⟩ |
    ⟨rfl, rfl⟩ <;> exact ⟨_, rfl, by simp, by simp [Command.inLoading], by simp⟩

/-- During a COMMIT check every command is answered BUSY (R181). -/
theorem settleCommand_of_committing {s : State} (committing : s.committing = true) (code : Byte) :
    s.settleCommand code = s.result .busy :=
  if_pos committing

/-- A code of no command is a bad argument (R181). -/
theorem settleCommand_of_unknown {s : State} {code : Byte} (free : s.committing = false)
    (unknown : commandOf code = none) : s.settleCommand code = s.result .badArg := by
  simp [State.settleCommand, free, unknown]

/-- A command of the table by the steps of R181 behind the COMMIT check. -/
theorem settleCommand_of_known {s : State} {code : Byte} {c : Command} (free : s.committing = false)
    (known : commandOf code = some c) : s.settleCommand code =
      if s.life.life = .loading ∧ ¬ c.inLoading then s.result .notConfigured
      else if s.life.life = .configFault ∧ c ≠ .take then s.result .refused
      else s.runCommand c := by
  simp only [State.settleCommand, free, known, Bool.false_eq_true, if_false]

/-- A COMMIT check runs in LOADING with source SUPERVISOR (R142). -/
theorem committing_iff (s : State) : s.committing = true ↔
    s.life.life = .loading ∧ s.life.source = .supervisor ∧ s.loader.phase = .checking := by
  simp [State.committing, and_assoc]

/-- The station with a command written and answered. -/
def State.answered (code : Byte) (r : Result) (s : State) : State :=
  s.onPort (fun p => { p with
    pointer := 0x13
    reading := false
    unsent := []
    acks := [true, true, true, true]
    command := code
    result := r })

/-- A command settled by an answer alone changes the port alone. -/
theorem writeCommand_answered {s t : State} {code : Byte} {r : Result}
    (settles : (s.commandWritten code).settleCommand code = (t.commandWritten code).result r) :
    s.writeCommand code = t.answered code r := by
  rw [State.writeCommand_eq]
  exact congrArg (fun u : State => u.onPort (fun p => { p with pointer := p.pointer + 1 })) settles

/-- Settles O47, by the steps of R181. -/
theorem refusedCommandsChangeThePortAlone : Obligations.RefusedCommandsChangeThePortAlone := by
  intro c code s held writes answers
  have answer : ∀ r, (s.commandWritten code).settleCommand code = (s.commandWritten code).result r → answers r := by
    intro r settles
    refine ⟨s.answered code r, ?_, ?_, rfl⟩
    · rw [exec_running _ held, effectRunning_of_command writes, writeCommand_answered settles]
    · intro b hb
      cases b <;> simp at hb <;> rfl
  refine ⟨committing_iff s, fun busy => answer _ ?_, fun free => ?_⟩
  · exact settleCommand_of_committing (s := s.commandWritten code) busy code
  rcases writes with named | ⟨rfl, wf⟩
  · obtain ⟨k, known, take, loads, other⟩ := commandOf_named named
    have settled := settleCommand_of_known (s := s.commandWritten code) free known
    refine ⟨fun is => absurd is other, fun _ => ⟨fun loading notTake notCommit => answer _ ?_,
      fun stopped notTake => answer _ ?_⟩⟩
    · exact settled.trans (if_pos ⟨loading, fun goesOn => (loads goesOn).elim notTake notCommit⟩)
    · have started : (s.commandWritten code).life.life ≠ .loading := fun is => by
        cases stopped.symm.trans is
      exact (settled.trans (if_neg fun is => started is.1)).trans (if_pos ⟨stopped, fun is => notTake (take is)⟩)
  · have unknown : commandOf code = none := by simpa [Instr.wf] using wf
    exact ⟨fun _ => answer _ (settleCommand_of_unknown (s := s.commandWritten code) free unknown),
      fun other => absurd rfl other⟩

/-- COMMIT starts the check in LOADING with source SUPERVISOR, and is refused otherwise (R142, R183). -/
theorem writeCommand_commit (s : State) : s.writeCommand 0x08 =
    if s.life.life = .loading ∧ s.life.source = .supervisor
    then (s.onLoader (fun l => { l with phase := .checking })).answered 0x08 .busy
    else s.answered 0x08 .refused := by
  obtain ⟨m, written⟩ : ∃ m, m = s.commandWritten 0x08 := ⟨_, rfl⟩
  have life : m.life = s.life := by rw [written]; rfl
  split
  next loads =>
    refine writeCommand_answered ?_
    cases committing : s.committing with
    | true =>
      obtain ⟨-, -, checking⟩ := (committing_iff s).1 committing
      have same : s.onLoader (fun l => { l with phase := .checking }) = s := by
        rw [State.onLoader, ← checking]
      rw [same]
      exact settleCommand_of_committing (s := s.commandWritten 0x08) committing 0x08
    | false =>
      have starts : m.commitImage = (m.onLoader (fun l => { l with phase := .checking })).result .busy :=
        if_pos (by rw [life]; exact loads)
      refine (settleCommand_of_known (s := s.commandWritten 0x08) (code := 0x08) (c := .commit) committing rfl).trans ?_
      rw [← written, if_neg (by simp [Command.inLoading]), if_neg (by simp [life, loads.1]), State.runCommand, starts,
        written]
      rfl
  next refuses =>
    refine writeCommand_answered ?_
    have free : s.committing = false := by
      rw [← Bool.not_eq_true, committing_iff]
      exact fun is => refuses ⟨is.1, is.2.1⟩
    have refused : m.commitImage = m.result .refused := if_neg (by rw [life]; exact refuses)
    refine (settleCommand_of_known (s := s.commandWritten 0x08) (code := 0x08) (c := .commit) free rfl).trans ?_
    rw [← written, if_neg (by simp [Command.inLoading]), State.runCommand, refused, ite_self]

/-- Settles O16. -/
theorem commitStartsTheCheck : Obligations.CommitStartsTheCheck := by
  intro s held
  have runs : exec .commit s = .next (s.writeCommand 0x08) := exec_running _ held
  rw [writeCommand_commit] at runs
  by_cases loads : s.life.life = .loading ∧ s.life.source = .supervisor
  · rw [if_pos loads] at runs
    obtain ⟨loading, source⟩ := loads
    refine ⟨_, runs, rfl, rfl, rfl, fun _ _ => ⟨rfl, rfl, ?_⟩, ?_⟩
    · intro b hb
      cases b <;> simp at hb <;> rfl
    · rintro (⟨-, memory⟩ | stopped)
      · cases source.symm.trans memory
      · exact absurd loading stopped
  · rw [if_neg loads] at runs
    refine ⟨_, runs, rfl, rfl, rfl, fun loading source => absurd ⟨loading, source⟩ loads, fun _ => ⟨rfl, ?_⟩⟩
    intro b hb
    cases b <;> simp at hb <;> rfl

end Machine
end Sys2Proof
end

section
namespace Sys2Proof
namespace Machine

/-! ### Changes of life state (Table 8-3) -/

/-- A command other than the resets that moves a part of the state acts as it does while the RESET pin is not held. -/
theorem effect_acts_of_moved {α : Type} (part : State → α) {c : Instr} {s : State} (resets : c.resets = false)
    (moved : part (effect c s) ≠ part s) : effect c s = effectRunning c s := by
  unfold effect at moved ⊢
  split
  next held =>
    rw [if_pos held] at moved
    exact (effectHeld_of_not_resets resets s).resolve_left fun still => moved (by rw [still])
  next => rfl

/-- A reset that moves the life state leaves LOADING (R140). -/
theorem resets_life {c : Instr} (resets : c.resets = true) {s : State}
    (moved : (effect c s).life.life ≠ s.life.life) : (effect c s).life.life = .loading := by
  revert moved
  unfold effect
  cases c <;> simp only [Instr.resets, Bool.false_eq_true] at resets
  case reset => split <;> exact fun _ => rfl
  case leaveReset stn source =>
    split
    · cases source <;> exact fun _ => rfl
    · exact fun moved => absurd rfl moved

/-- The commands that move the life state, apart from the resets (Table 8-3). -/
def movesLife : Instr → Bool
  | .imageCheckEnd => true
  | .listenTimerExpiry => true
  | .withdrawTimerExpiry => true
  | .frameEnd _ => true
  | .collision _ => true
  | _ => false

/-- Every other command keeps the life state (R139). -/
theorem effectRunning_life {c : Instr} (resets : c.resets = false) (moves : movesLife c = false) (s : State) :
    (effectRunning c s).life.life = s.life.life := by
  cases c
  case reset => cases resets
  case imageCheckEnd | listenTimerExpiry | withdrawTimerExpiry | frameEnd | collision => cases moves
  case truthEdge cond =>
    simp only [effectRunning]
    split <;> simp
  all_goals simp [effectRunning, State.writeCommand]

/-- The end of an image check moves the life state from LOADING by its outcome: to LISTENING, or to CONFIG_FAULT for an
image from the memory (R144, R145). -/
theorem imageCheckEnd_life {s : State} (moved : s.imageCheckEnd.life.life ≠ s.life.life) :
    s.life.life = .loading ∧
      (((∃ set, checkImage s.loader.buffer s.own = .ok set) ∧ s.imageCheckEnd.life.life = .listening) ∨
        (s.life.source = .memory ∧ (∃ code, checkImage s.loader.buffer s.own = .error code) ∧
          s.imageCheckEnd.life.life = .configFault)) := by
  by_cases checks : s.loader.phase = .checking ∧ s.life.life = .loading
  · obtain ⟨checking, loading⟩ := checks
    refine ⟨loading, ?_⟩
    cases result : checkImage s.loader.buffer s.own with
    | ok set =>
      rw [imageCheckEnd_of_passes loading checking result]
      exact .inl ⟨⟨set, rfl⟩, by simp [State.acceptImage, State.startRunning, State.enterListening]⟩
    | error code =>
      have failed := imageCheckEnd_of_fails loading checking result
      rw [failed] at moved ⊢
      cases source : s.life.source with
      | memory =>
        rw [failImage_of_memory (by simpa using source)]
        exact .inr ⟨rfl, ⟨code, rfl⟩, by simp⟩
      | supervisor =>
        rw [failImage_of_supervisor (by simpa using source)] at moved
        exact absurd (by simp) moved
  · exact absurd (by rw [State.imageCheckEnd, if_neg checks]) moved

/-- The listen timer's expiry moves LISTENING to ACTIVE (R147). -/
theorem listenExpiry_life {s : State} (moved : s.listenExpiry.life.life ≠ s.life.life) :
    s.life.life = .listening ∧ s.listenExpiry.life.life = .active := by
  revert moved
  unfold State.listenExpiry
  split
  next due listening _ => exact fun _ => ⟨listening, by simp [State.enterActive]⟩
  next => exact fun moved => absurd rfl moved

/-- The withdraw timer's expiry moves WITHDRAWN to LISTENING (R151). -/
theorem withdrawExpiry_life {s : State} (moved : s.withdrawExpiry.life.life ≠ s.life.life) :
    s.life.life = .withdrawn ∧ s.withdrawExpiry.life.life = .listening := by
  revert moved
  unfold State.withdrawExpiry
  split
  next due withdrawn _ => exact fun _ => ⟨withdrawn, by simp [State.enterListening]⟩
  next => exact fun moved => absurd rfl moved

/-- A duplicate notice moves LISTENING and ACTIVE to DUPLICATE (R148, R149). -/
theorem duplicateNotice_life {s : State} (moved : s.duplicateNotice.life.life ≠ s.life.life) :
    (s.life.life = .listening ∨ s.life.life = .active) ∧ s.duplicateNotice.life.life = .duplicate := by
  have entered : s.enterDuplicate.life.life = .duplicate := by simp [State.enterDuplicate]
  revert moved
  unfold State.duplicateNotice
  split
  next listening => exact fun _ => ⟨.inl listening, entered⟩
  next active => exact fun _ => ⟨.inr active, entered⟩
  all_goals exact fun moved => absurd rfl moved

/-- A frame received moves the life state by a duplicate notice alone, and so only where it bears the own number (R101,
R148, R149). -/
theorem receiveFrame_life {s : State} {bytes : List Byte} (moved : (s.receiveFrame bytes).life.life ≠ s.life.life) :
    frameOrigin bytes = s.own ∧ (s.life.life = .listening ∨ s.life.life = .active) ∧
      (s.receiveFrame bytes).life.life = .duplicate := by
  rcases receiveFrame_inv s bytes with ⟨own, notice⟩ | ⟨-, counted⟩ | ⟨st, p, -, taken⟩
  · rw [notice] at moved ⊢
    obtain ⟨u, is, life⟩ : ∃ u, u = (if (decodeFrame bytes).isNone then s.raiseDiscarded else s) ∧ u.life = s.life :=
      ⟨_, rfl, by split <;> simp⟩
    rw [← is, ← life] at moved ⊢
    exact ⟨own, duplicateNotice_life moved⟩
  · exact absurd (by simp [counted]) moved
  · rw [taken] at moved
    cases p <;> exact absurd (by simp) moved

/-- A frame's end moves the life state where a valid frame bears the own number (R101, R148, R149). -/
theorem frameEnd_life {s : State} {levels : List Level} (moved : (s.frameEnd levels).life.life ≠ s.life.life) :
    (∃ bytes, readReception levels = .complete bytes ∧ validOnLine bytes = true ∧ frameOrigin bytes = s.own) ∧
      (s.life.life = .listening ∨ s.life.life = .active) ∧ (s.frameEnd levels).life.life = .duplicate := by
  rcases frameEnd_cases s levels with same | ⟨bytes, read, valid, taken⟩
  · exact absurd (by rw [same]) moved
  · rw [taken] at moved ⊢
    obtain ⟨origin, before, after⟩ := receiveFrame_life (s := s.atFrameEnd bytes) (by simpa using moved)
    exact ⟨⟨bytes, read, valid, origin⟩, by simpa using before, by simpa using after⟩

/-- The sixteenth collision moves ACTIVE to WITHDRAWN, and no collision before it moves the life state (R132, R150). -/
theorem collision_life {s : State} {n : Nat} (moved : (s.collision n).life.life ≠ s.life.life) :
    s.life.life = .active ∧ 15 ≤ s.line.collisions ∧ (s.collision n).line.collisions = 16 ∧
      (s.collision n).life.life = .withdrawn := by
  revert moved
  unfold State.collision
  dsimp only
  split
  next sends =>
    split
    next full =>
      exact fun _ => ⟨active_of_transmitting sends.1, by omega, by simp [full], by simp [State.enterWithdrawn]⟩
    next => exact fun moved => absurd (by simp) moved
  next => exact fun moved => absurd rfl moved

/-- Settles O5, by the five commands that move the life state and the resets. -/
theorem lifeStateMovesByItsTable : Obligations.LifeStateMovesByItsTable := by
  intro c s t stepped moved
  rw [exec_eq_effect] at stepped
  cases stepped
  by_cases resets : c.resets = true
  · exact .inl ⟨resets, resets_life resets moved⟩
  rw [Bool.not_eq_true] at resets
  have acts := effect_acts_of_moved (fun u => u.life.life) resets moved
  rw [acts] at moved ⊢
  have moves : movesLife c = true := by
    by_contra still
    exact moved (effectRunning_life resets (by simpa using still) s)
  cases c <;> simp only [movesLife, Bool.false_eq_true] at moves
  case imageCheckEnd =>
    obtain ⟨loading, ⟨passes, after⟩ | ⟨source, fails, after⟩⟩ := imageCheckEnd_life moved
    · exact .inr (.inl ⟨rfl, loading, passes, after⟩)
    · exact .inr (.inr (.inl ⟨rfl, loading, source, fails, after⟩))
  case listenTimerExpiry =>
    exact .inr (.inr (.inr (.inl ⟨rfl, listenExpiry_life moved⟩)))
  case frameEnd levels =>
    obtain ⟨⟨bytes, read, valid, origin⟩, before, after⟩ := frameEnd_life moved
    exact .inr (.inr (.inr (.inr (.inl ⟨⟨levels, bytes, rfl, read, valid, origin⟩, before, after⟩))))
  case collision n =>
    exact .inr (.inr (.inr (.inr (.inr (.inl ⟨⟨n, rfl⟩, collision_life moved⟩)))))
  case withdrawTimerExpiry =>
    exact .inr (.inr (.inr (.inr (.inr (.inr ⟨rfl, withdrawExpiry_life moved⟩)))))

end Machine
end Sys2Proof
end

section
namespace Sys2Proof
namespace Machine

/-! ### Edges of SCK (R141) -/

/-- SCK rises where it was low. -/
theorem Loader.clockEdge_of_low {l : Loader} (reading : l.phase = .reading) (low : l.sck = false) (level : Bool) :
    l.clockEdge level = l.clockRises level := by
  simp [Loader.clockEdge, reading, low]

/-- SCK falls where it was high. -/
theorem Loader.clockEdge_of_high {l : Loader} (reading : l.phase = .reading) (high : l.sck = true) (level : Bool) :
    l.clockEdge level = l.clockFalls := by
  simp [Loader.clockEdge, reading, high]

/-- A byte placed, and the end of the read with it (R141). -/
theorem Loader.memoryByte_eq (b : Byte) (l : Loader) : l.memoryByte b =
    let m := Memory.write l.buffer l.got b
    let ends := 5 ≤ l.got + 1 ∧ memoryReadLength m ≤ l.got + 1
    { l with
      buffer := m
      got := l.got + 1
      phase := if ends then .checking else l.phase
      scs := if ends then false else l.scs } := by
  simp only [Loader.memoryByte]
  split <;> rfl

/-- A read ends at the declared length where that lies within 64–640, and behind the length field otherwise (R141). -/
theorem readEnds_iff (m : Memory) (got : Nat) : 5 ≤ got ∧ memoryReadLength m ≤ got ↔
    5 ≤ got ∧ ¬ (64 ≤ m.word 3 ∧ m.word 3 ≤ 640 ∧ got < m.word 3) := by
  have length : memoryReadLength m = if 64 ≤ m.word 3 ∧ m.word 3 ≤ 640 then m.word 3 else 5 := rfl
  rw [length]
  split <;> omega

/-- Eight levels of SDI are the bits of the byte they spell, the most significant first (R141). -/
theorem spiLevels_spiByte {levels : List Bool} (eight : levels.length = 8) : spiLevels (spiByte levels) = levels := by
  have spelled : ∀ a b c d e f g h : Bool, spiLevels (spiByte [a, b, c, d, e, f, g, h]) = [a, b, c, d, e, f, g, h] := by
    decide +kernel
  match levels, eight with
  | [a, b, c, d, e, f, g, h], _ => exact spelled a b c d e f g h

/-- The levels of a byte, one by one. -/
theorem spiLevels_getElem? (b : Byte) {k : Nat} (bit : k < 8) : (spiLevels b)[k]? = some (b.getLsbD (7 - k)) := by
  simp [spiLevels, bit]

/-! ### Parts of the memory read (R141, log entry 13) -/

/-- A part of the read moves nothing where no read runs. -/
theorem Loader.readPart_stands {l : Loader} (still : l.phase ≠ .reading) (part : MemoryPart) : l.readPart part = l := by
  cases part with
  | next sdi => exact Loader.edges_stand still sdi
  | rest sdi => rw [Loader.readPart, Loader.edges_stand still, Loader.readOnes_eq, Loader.edges_stand still]

/-- In LOADING a part of the read moves the loader. -/
theorem memoryRead_of_loading {s : State} (loading : s.life.life = .loading) (part : MemoryPart) :
    s.memoryRead part = s.onLoader (fun l => l.readPart part) := by
  by_cases reading : s.loader.phase = .reading
  · exact if_pos ⟨reading, loading⟩
  · rw [State.memoryRead, if_neg fun is => reading is.1, State.onLoader, Loader.readPart_stands reading]

/-- A part of the read that begins with given edges is those edges and then the part without them. -/
theorem memoryRead_append (a : List Bool) {p q : MemoryPart} (s : State)
    (splits : ∀ l : Loader, l.readPart p = (l.readPart (.next a)).readPart q) :
    s.memoryRead p = (s.memoryRead (.next a)).memoryRead q := by
  by_cases loading : s.life.life = .loading
  · have after : (s.memoryRead (.next a)).life.life = .loading := by simpa using loading
    rw [memoryRead_of_loading after, memoryRead_of_loading loading, memoryRead_of_loading loading]
    exact congrArg (fun l => { s with loader := l }) (splits s.loader)
  · have still : ∀ part, s.memoryRead part = s := fun part => if_neg fun is => loading is.2
    rw [still, still, still]

/-- Cut anywhere, the parts of a read come to the same (log entry 13). -/
theorem exec_memoryReadEnd_append (a b : List Bool) (s : State) : ∃ t, exec (.memoryReadEnd (.next a)) s = .next t ∧
    exec (.memoryReadEnd (.next (a ++ b))) s = exec (.memoryReadEnd (.next b)) t ∧
    exec (.memoryReadEnd (.rest (a ++ b))) s = exec (.memoryReadEnd (.rest b)) t := by
  have next : ∀ l : Loader, l.readPart (.next (a ++ b)) = (l.readPart (.next a)).readPart (.next b) :=
    fun l => List.foldl_append
  have rest : ∀ l : Loader, l.readPart (.rest (a ++ b)) = (l.readPart (.next a)).readPart (.rest b) :=
    fun l => congrArg (Loader.readOnes longestRead) List.foldl_append
  cases held : s.held with
  | true => exact ⟨s, exec_held _ held, by rw [exec_held _ held, exec_held _ held]; rfl,
      by rw [exec_held _ held, exec_held _ held]; rfl⟩
  | false =>
    have free : (s.memoryRead (.next a)).held = false := by simpa using held
    refine ⟨_, exec_running _ held, ?_, ?_⟩
    · rw [exec_running _ held]
      exact (congrArg _ (memoryRead_append a s next)).trans (exec_running (.memoryReadEnd (.next b)) free).symm
    · rw [exec_running _ held]
      exact (congrArg _ (memoryRead_append a s rest)).trans (exec_running (.memoryReadEnd (.rest b)) free).symm

/-- One edge of SCK in a read. -/
theorem exec_memoryReadEnd_edge {s : State} (held : s.held = false) (loading : s.life.life = .loading) (level : Bool) :
    exec (.memoryReadEnd (.next [level])) s = .next (s.onLoader (fun l => l.clockEdge level)) := by
  rw [exec_running _ held]
  exact congrArg _ (memoryRead_of_loading loading _)

/-! ### Bytes of the memory read (R141) -/

/-- SCK between two bytes: it is low, the read command is sent, and no level of the next byte is sampled. -/
structure Loader.Between (l : Loader) : Prop where
  low : l.sck = false
  sent : l.sdo = []
  fresh : l.sdi = []

/-- A byte that arrives while the read runs. -/
def Loader.arrive (l : Loader) (b : Byte) : Loader := if l.phase = .reading then l.memoryByte b else l

/-- A byte that arrives leaves SCK between two bytes. -/
theorem Loader.Between.arrive {l : Loader} (h : l.Between) (b : Byte) : (l.arrive b).Between := by
  obtain ⟨low, sent, fresh⟩ := h
  unfold Loader.arrive
  split
  · rw [Loader.memoryByte_eq]
    exact ⟨low, sent, fresh⟩
  · exact ⟨low, sent, fresh⟩

/-- The levels at the rising edges, the first of each two. -/
def samples : List Bool → List Bool
  | level :: _ :: rest => level :: samples rest
  | _ => []

/-- The samples stand at the even places. -/
theorem samples_getElem? : ∀ (levels : List Bool) {j : Nat}, 2 * j + 1 < levels.length →
    (samples levels)[j]? = levels[2 * j]?
  | _ :: _ :: _, 0, _ => rfl
  | _ :: _ :: rest, j + 1, within => by
    have later := samples_getElem? rest (j := j) (by simp at within; omega)
    simpa [samples, Nat.mul_add] using later

/-- There is a sample to every two edges. -/
theorem samples_length : ∀ levels : List Bool, (samples levels).length = levels.length / 2
  | [] => rfl
  | [_] => by simp [samples]
  | _ :: _ :: rest => by
    simp only [samples, List.length_cons, samples_length rest]
    omega

/-- A rising and a falling edge behind the read command: a level is sampled, and the eighth makes a byte. -/
theorem Loader.clockEdge_pair {l : Loader} (reading : l.phase = .reading) (low : l.sck = false) (sent : l.sdo = [])
    (x y : Bool) : (l.clockEdge x).clockEdge y =
      if (l.sdi ++ [x]).length = 8 then { l with sdi := [] }.memoryByte (spiByte (l.sdi ++ [x]))
      else { l with sdi := l.sdi ++ [x] } := by
  obtain ⟨buffer, phase, check, got, scs, sck, sdo, sdi⟩ := l
  subst reading low sent
  rfl

/-- The edges up to the eighth sample make the byte the samples spell. -/
theorem Loader.foldl_clockEdge_samples : ∀ (levels : List Bool) {l : Loader}, l.phase = .reading → l.sck = false →
    l.sdo = [] → l.sdi.length < 8 → levels.length + 2 * l.sdi.length = 16 →
    levels.foldl Loader.clockEdge l = { l with sdi := [] }.memoryByte (spiByte (l.sdi ++ samples levels))
  | [], l, _, _, _, _, _ => by simp at *; omega
  | [_], l, _, _, _, _, _ => by simp at *; omega
  | x :: y :: rest, l, reading, low, sent, part, edges => by
    rw [List.foldl_cons, List.foldl_cons, Loader.clockEdge_pair reading low sent]
    simp only [List.length_cons] at edges
    by_cases last : rest = []
    · subst last
      rw [if_pos (by simp at edges ⊢; omega)]
      rfl
    · have more : 0 < rest.length := List.length_pos_iff.2 last
      rw [if_neg (by simp; omega), Loader.foldl_clockEdge_samples rest
        (l := { l with sdi := l.sdi ++ [x] }) reading low sent (by simp; omega)
        (by simp; omega)]
      simp [samples]

/-- Sixteen edges whose samples are the bits of a byte bring that byte (R141). -/
theorem Loader.foldl_clockEdge_byte {l : Loader} (reading : l.phase = .reading) (between : l.Between) {b : Byte}
    {levels : List Bool} (edges : levels.length = 16)
    (spelled : ∀ j, j < 8 → levels[2 * j]? = some (b.getLsbD (7 - j))) :
    levels.foldl Loader.clockEdge l = l.memoryByte b := by
  obtain ⟨low, sent, fresh⟩ := between
  have bits : samples levels = spiLevels b := by
    apply List.ext_getElem?
    intro j
    by_cases bit : j < 8
    · rw [samples_getElem? levels (by omega), spelled j bit, spiLevels_getElem? b bit]
    · rw [List.getElem?_eq_none (by rw [samples_length]; omega), List.getElem?_eq_none (by simp [spiLevels]; omega)]
  have same : ({ l with sdi := [] } : Loader) = l := by rw [← fresh]
  rw [Loader.foldl_clockEdge_samples levels reading low sent (by simp [fresh]) (by simp [fresh, edges]), bits, fresh,
    List.nil_append, spiByte_spiLevels, same]

/-- Edges whose samples are the bits of some bytes bring those bytes, one after the other (R141). -/
theorem Loader.foldl_clockEdge_bytes : ∀ (bytes : List Byte) {l : Loader} {levels : List Bool}, l.Between →
    levels.length = 16 * bytes.length →
    (∀ k j, k < bytes.length → j < 8 → levels[16 * k + 2 * j]? = some ((bytes.getD k 0).getLsbD (7 - j))) →
    levels.foldl Loader.clockEdge l = bytes.foldl Loader.arrive l
  | [], l, levels, _, edges, _ => by
    obtain rfl : levels = [] := by simpa using edges
    rfl
  | b :: bytes, l, levels, between, edges, spelled => by
    rw [List.length_cons] at edges
    have first : (levels.take 16).foldl Loader.clockEdge l = l.arrive b := by
      by_cases reading : l.phase = .reading
      · rw [Loader.arrive, if_pos reading]
        refine Loader.foldl_clockEdge_byte reading between (by simp; omega) fun j bit => ?_
        rw [List.getElem?_take_of_lt (by omega)]
        simpa using spelled 0 j (by simp) bit
      · rw [Loader.arrive, if_neg reading, Loader.edges_stand reading]
    rw [← List.take_append_drop 16 levels, List.foldl_append, first, List.foldl_cons]
    refine Loader.foldl_clockEdge_bytes bytes (between.arrive b) (by simp; omega) fun k j place bit => ?_
    rw [List.getElem?_drop]
    have here := spelled (k + 1) j (by simpa using place) bit
    rw [← List.getD_cons_succ (x := b), ← here]
    congr 1
    omega

/-- While the read command is sent, two edges to each of its levels, no level is sampled (R141). -/
theorem Loader.foldl_clockEdge_command : ∀ (sdo : List Bool) {l : Loader} {levels : List Bool}, l.sdo = sdo →
    l.phase = .reading → l.sck = false → l.sdi = [] → levels.length = 2 * sdo.length →
    levels.foldl Loader.clockEdge l = { l with sdo := [] }
  | [], l, levels, shown, _, _, _, edges => by
    obtain rfl : levels = [] := by simpa using edges
    have same : ({ l with sdo := [] } : Loader) = l := by rw [← shown]
    exact same.symm
  | level :: sdo, l, [], _, _, _, _, edges => by simp at edges
  | level :: sdo, l, [_], _, _, _, _, edges => by simp at edges; omega
  | level :: sdo, l, x :: y :: levels, shown, reading, low, fresh, edges => by
    have pair : (l.clockEdge x).clockEdge y = { l with sdo := sdo } := by
      obtain ⟨buffer, phase, check, got, scs, sck, held, sdi⟩ := l
      subst reading low fresh
      simp only at shown
      subst shown
      rfl
    rw [List.foldl_cons, List.foldl_cons, pair]
    exact Loader.foldl_clockEdge_command sdo rfl reading low fresh (by simp at edges; omega)

/-! ### The image as it arrives (R141) -/

/-- Where the read of an image ends: at its declared length within 64–640, and behind the length field otherwise. -/
def readEnd (image : Nat → Byte) : Nat :=
  let declared := (image 3).toNat * 256 + (image 4).toNat
  if 64 ≤ declared ∧ declared ≤ 640 then declared else 5

/-- A read ends behind the length field and within the buffer. -/
theorem readEnd_range (image : Nat → Byte) : 5 ≤ readEnd image ∧ readEnd image ≤ 640 := by
  simp only [readEnd]
  split <;> omega

/-- The buffer holds an image up to an offset and reads 00h from there on. -/
structure Memory.HoldsUpTo (m : Memory) (image : Nat → Byte) (got : Nat) : Prop where
  wf : Memory.wf m = true
  read : ∀ a, Memory.read m a = if a < got then image a else 0

/-- A buffer that holds the length field ends where the image does. -/
theorem Memory.HoldsUpTo.readLength {m : Memory} {image : Nat → Byte} {got : Nat} (h : m.HoldsUpTo image got)
    (header : 5 ≤ got) : memoryReadLength m = readEnd image := by
  have word : m.word 3 = (image 3).toNat * 256 + (image 4).toNat := by
    rw [Memory.word, h.read, h.read, if_pos (by omega), if_pos (by omega)]
  simp only [memoryReadLength, readEnd, word, bufferSize]

/-- The next byte of the image written. -/
theorem Memory.HoldsUpTo.write {m : Memory} {image : Nat → Byte} {got : Nat} (h : m.HoldsUpTo image got)
    (room : got < bufferSize) : (Memory.write m got (image got)).HoldsUpTo image (got + 1) := by
  refine ⟨Memory.write_wf h.wf _ room, fun a => ?_⟩
  rw [Memory.read_write h.wf, h.read]
  by_cases here : a = got
  · rw [if_pos here, if_pos (by omega), here]
  · rw [if_neg here]
    by_cases before : a < got
    · rw [if_pos before, if_pos (by omega)]
    · rw [if_neg before, if_neg (by omega)]

/-- The loader with a buffer filled up to an offset: short of the end of the image the read runs on, and at its end the
memory is deselected and the check starts (R141). -/
def Loader.filledTo (image : Nat → Byte) (m : Memory) (got : Nat) (l : Loader) : Loader :=
  { l with
    buffer := m
    got := got
    phase := if got < readEnd image then .reading else .checking
    scs := if got < readEnd image then l.scs else false }

/-- At the end of the image the memory is deselected and the check starts. -/
theorem Loader.filledTo_end (image : Nat → Byte) (m : Memory) (l : Loader) :
    ({ l with sdo := [] } : Loader).filledTo image m (readEnd image) =
      { l with buffer := m, phase := .checking, got := readEnd image, scs := false, sdo := [] } := by
  simp [Loader.filledTo]

/-- Short of the end of the image the read runs on. -/
theorem Loader.filledTo_short {image : Nat → Byte} {got : Nat} (short : got < readEnd image) {l : Loader}
    (reading : l.phase = .reading) (m : Memory) :
    ({ l with sdo := [] } : Loader).filledTo image m got = { l with buffer := m, got := got, sdo := [] } := by
  simp [Loader.filledTo, short, reading]

/-- The next byte of the image fills the buffer by one. -/
theorem Loader.arrive_filledTo {image : Nat → Byte} {l : Loader} (holds : l.buffer.HoldsUpTo image l.got)
    (reading : l.phase = .reading) (short : l.got < readEnd image) :
    l.arrive (image l.got) = l.filledTo image (Memory.write l.buffer l.got (image l.got)) (l.got + 1) := by
  obtain ⟨least, most⟩ := readEnd_range image
  have next := holds.write (show l.got < bufferSize by simp only [bufferSize]; omega)
  have ends : (5 ≤ l.got + 1 ∧ memoryReadLength (Memory.write l.buffer l.got (image l.got)) ≤ l.got + 1) ↔
      ¬ l.got + 1 < readEnd image := by
    by_cases header : 5 ≤ l.got + 1
    · rw [next.readLength header]
      omega
    · omega
  rw [Loader.arrive, if_pos reading, Loader.memoryByte_eq]
  simp only [ends, Loader.filledTo, ite_not, reading]

/-- Bytes of the image that arrive fill the buffer as far as they go, or to the end of the image (R141). -/
theorem Loader.foldl_arrive {image : Nat → Byte} : ∀ (bytes : List Byte) {l : Loader},
    l.buffer.HoldsUpTo image l.got → l.phase = .reading → l.got < readEnd image →
    (∀ k, k < bytes.length → bytes[k]? = some (image (l.got + k))) →
    ∃ m, m.HoldsUpTo image (min (readEnd image) (l.got + bytes.length)) ∧
      bytes.foldl Loader.arrive l = l.filledTo image m (min (readEnd image) (l.got + bytes.length))
  | [], l, holds, reading, short, _ => by
    have reached : min (readEnd image) (l.got + ([] : List Byte).length) = l.got := by simp; omega
    rw [reached]
    exact ⟨l.buffer, holds, by simp [Loader.filledTo, short, ← reading]⟩
  | b :: bytes, l, holds, reading, short, next => by
    obtain rfl : b = image l.got := by simpa using next 0 (by simp)
    obtain ⟨-, most⟩ := readEnd_range image
    have filled := holds.write (show l.got < bufferSize by simp only [bufferSize]; omega)
    rw [List.foldl_cons, Loader.arrive_filledTo holds reading short]
    by_cases goesOn : l.got + 1 < readEnd image
    · obtain ⟨m, after, ends⟩ := Loader.foldl_arrive bytes
        (l := l.filledTo image (Memory.write l.buffer l.got (image l.got)) (l.got + 1)) filled
        (if_pos goesOn) goesOn fun k place => by
          have later := next (k + 1) (by simpa using place)
          rw [List.getElem?_cons_succ] at later
          rw [later]
          simp [Loader.filledTo, Nat.add_assoc, Nat.add_comm 1 k]
      have reached : (l.filledTo image (Memory.write l.buffer l.got (image l.got)) (l.got + 1)).got + bytes.length =
          l.got + (image l.got :: bytes).length := by
        simp [Loader.filledTo]
        omega
      rw [reached] at after ends
      refine ⟨m, after, ends.trans ?_⟩
      simp [Loader.filledTo, goesOn]
    · have reached : min (readEnd image) (l.got + (image l.got :: bytes).length) = l.got + 1 := by simp; omega
      have stands : ∀ l : Loader, l.phase ≠ .reading → bytes.foldl Loader.arrive l = l := fun l still => by
        clear next reached
        induction bytes with
        | nil => rfl
        | cons b bytes ih => rw [List.foldl_cons, Loader.arrive, if_neg still, ih]
      rw [reached, stands _ (by simp [Loader.filledTo, goesOn])]
      exact ⟨_, filled, rfl⟩

/-! ### The parts of the read that MEMORY_READ_END brings (R141, R179) -/

/-- The falling edge behind the eighth sample places the byte, and ends the read with the last one (R141). -/
theorem Loader.clockFalls_of_byte {l : Loader} (full : l.sdi.length = 8) :
    let t := l.clockFalls
    let declared := t.buffer.word 3
    let ended : Bool := decide (5 ≤ t.got ∧ ¬ (64 ≤ declared ∧ declared ≤ 640 ∧ t.got < declared))
    t = { l with
      buffer := t.buffer
      phase := if ended then .checking else l.phase
      got := l.got + 1
      scs := if ended then false else l.scs
      sck := false
      sdo := l.sdo.tail
      sdi := [] } ∧
    t.buffer = Memory.write l.buffer l.got (spiByte l.sdi) := by
  have byte : l.clockFalls =
      ({ l with sck := false, sdo := l.sdo.tail, sdi := [] } : Loader).memoryByte (spiByte l.sdi) := if_pos full
  rw [byte, Loader.memoryByte_eq]
  simp only [readEnds_iff, decide_eq_true_eq, and_self]

/-- A falling edge of SCK in the station. -/
theorem exec_memoryReadEnd_falls {s : State} (held : s.held = false) (loading : s.life.life = .loading)
    (reading : s.loader.phase = .reading) (high : s.loader.sck = true) (level : Bool) :
    exec (.memoryReadEnd (.next [level])) s = .next (s.onLoader Loader.clockFalls) := by
  rw [exec_memoryReadEnd_edge held loading level, State.onLoader, State.onLoader,
    Loader.clockEdge_of_high reading high]

/-- The image that stands in the buffer and comes on SDI: the bytes placed, the bytes to come, and ones behind them. -/
def Loader.imageOf (l : Loader) (bytes : List Byte) (a : Nat) : Byte :=
  if a < l.got then Memory.read l.buffer a else bytes.getD (a - l.got) 0xFF

/-- The buffer holds its image as far as it has come. -/
theorem holdsUpTo_imageOf {l : Loader} (law : l.ReadLaw) (reading : l.phase = .reading) (bytes : List Byte) :
    l.buffer.HoldsUpTo (l.imageOf bytes) l.got := by
  refine ⟨law.buffer, fun a => ?_⟩
  split
  next placed => exact (if_pos placed).symm
  next absent => exact law.absent reading a (Nat.le_of_not_lt absent)

/-- A read that runs is short of the end of its image. -/
theorem got_lt_readEnd {l : Loader} (law : l.ReadLaw) (reading : l.phase = .reading) (bytes : List Byte) :
    l.got < readEnd (l.imageOf bytes) := by
  by_cases header : 5 ≤ l.got
  · rw [← (holdsUpTo_imageOf law reading bytes).readLength header]
    exact law.short reading header
  · have := (readEnd_range (l.imageOf bytes)).1
    omega

/-- The longest read, with SDI high, brings ones beyond the end of the buffer (R141). -/
theorem readOnes_longestRead {l : Loader} (between : l.Between) :
    l.readOnes longestRead = (List.replicate (3 + bufferSize) 0xFF).foldl Loader.arrive l := by
  have ones : ∀ j, j < 8 → (0xFF : Byte).getLsbD (7 - j) = true := by decide
  rw [Loader.readOnes_eq]
  refine Loader.foldl_clockEdge_bytes _ between (by simp [longestRead]) fun k j place bit => ?_
  rw [List.length_replicate] at place
  have here : (List.replicate (3 + bufferSize) (0xFF : Byte)).getD k 0 = 0xFF := by simp [List.getD, place]
  rw [here, ones j bit, List.getElem?_replicate, if_pos]
  simp only [longestRead]
  omega

/-- A part of the read behind its command: as many bytes as the part brings, and ones to the end where it is the rest of
the read, fill the buffer (R141). -/
theorem readPart_filledTo {l : Loader} (law : l.ReadLaw) (reading : l.phase = .reading) (low : l.sck = false)
    (fresh : l.sdi = []) {bytes : List Byte} {sdi : List Bool}
    (edges : sdi.length = 2 * l.sdo.length + 16 * bytes.length)
    (spelled : ∀ k j, k < bytes.length → j < 8 →
      sdi[2 * l.sdo.length + 16 * k + 2 * j]? = some ((bytes.getD k 0).getLsbD (7 - j))) :
    let n := readEnd (l.imageOf bytes)
    (∃ m, m.HoldsUpTo (l.imageOf bytes) (min n (l.got + bytes.length)) ∧ l.readPart (.next sdi) =
      ({ l with sdo := [] } : Loader).filledTo (l.imageOf bytes) m (min n (l.got + bytes.length))) ∧
    ∃ m, m.HoldsUpTo (l.imageOf bytes) n ∧ l.readPart (.rest sdi) =
      ({ l with sdo := [] } : Loader).filledTo (l.imageOf bytes) m n := by
  intro n
  obtain ⟨q, hq⟩ : ∃ q : Loader, q = { l with sdo := [] } := ⟨_, rfl⟩
  have between : q.Between := by rw [hq]; exact ⟨low, rfl, fresh⟩
  have got : q.got = l.got := by rw [hq]
  have holds : q.buffer.HoldsUpTo (l.imageOf bytes) q.got := by rw [hq]; exact holdsUpTo_imageOf law reading bytes
  have runs : q.phase = .reading := by rw [hq]; exact reading
  have short : q.got < readEnd (l.imageOf bytes) := by rw [got]; exact got_lt_readEnd law reading bytes
  have part : sdi.foldl Loader.clockEdge l = bytes.foldl Loader.arrive q := by
    rw [← List.take_append_drop (2 * l.sdo.length) sdi, List.foldl_append,
      Loader.foldl_clockEdge_command l.sdo rfl reading low fresh (by simp; omega), ← hq]
    refine Loader.foldl_clockEdge_bytes bytes between (by simp; omega) fun k j place bit => ?_
    rw [List.getElem?_drop, ← spelled k j place bit, Nat.add_assoc]
  have byte : ∀ k, l.imageOf bytes (q.got + k) = bytes.getD k 0xFF := fun k => by
    rw [Loader.imageOf, if_neg (by omega)]
    congr 1
    omega
  refine ⟨?_, ?_⟩
  · obtain ⟨m, after, filled⟩ := Loader.foldl_arrive bytes holds runs short fun k place => by
      rw [byte, List.getElem?_eq_getElem place]
      simp [place]
    rw [got] at after filled
    exact ⟨m, after, by rw [← hq, ← filled]; exact part⟩
  · have ends : (sdi.foldl Loader.clockEdge l).readOnes longestRead =
        (bytes ++ List.replicate (3 + bufferSize) 0xFF).foldl Loader.arrive q := by
      have stays : (bytes.foldl Loader.arrive q).Between :=
        List.foldlRecOn (motive := Loader.Between) _ _ between fun _ law b _ => law.arrive b
      rw [part, readOnes_longestRead stays, List.foldl_append]
    obtain ⟨m, after, filled⟩ := Loader.foldl_arrive (bytes ++ List.replicate (3 + bufferSize) 0xFF) holds runs short
      fun k place => by
        rw [byte]
        by_cases given : k < bytes.length
        · rw [List.getElem?_append_left given, List.getElem?_eq_getElem given]
          simp [given]
        · rw [List.getElem?_append_right (by omega), List.getElem?_replicate, if_pos (by simp at place; omega)]
          simp [given]
    have reached : min (readEnd (l.imageOf bytes))
        (q.got + (bytes ++ List.replicate (3 + bufferSize) (0xFF : Byte)).length) = n := by
      have most : readEnd (l.imageOf bytes) ≤ bufferSize := (readEnd_range _).2
      rw [List.length_append, List.length_replicate]
      exact Nat.min_eq_left (by omega)
    rw [reached] at after filled
    exact ⟨m, after, by rw [← hq, ← filled]; exact ends⟩

/-- The image buffer as the supervisor reads it (R179, R198). -/
theorem register_of_buffer (s : State) {a : Nat} (place : a < 640) :
    s.register (0x1000 + a) = Memory.read s.loader.buffer a := by
  have free : unitOf (0x1000 + a) = none := by
    rw [unitOf, if_neg (by omega), if_neg (by omega), if_neg (by omega), if_neg (by omega), if_neg (by omega)]
  simp only [State.register, free]
  rw [if_neg (by omega), if_neg (by omega), if_neg (by omega), if_neg (by omega), if_pos (by omega),
    Nat.add_sub_cancel_left]

/-- A station whose loader alone moves. -/
theorem changesOnly_onLoader (s : State) (f : Loader → Loader) : s.changesOnly [.loader] (s.onLoader f) := by
  intro b hb
  cases b <;> simp at hb <;> rfl

/-- Settles O12: one edge by `clockFalls_of_byte`, the cut into parts by `exec_memoryReadEnd_append`, and the bytes of a
part by `readPart_filledTo`. -/
theorem memoryReadFillsTheBuffer : Obligations.MemoryReadFillsTheBuffer := by
  refine ⟨fun level s held reading loading => ⟨fun low => ?_, fun high part => ?_, fun high full wf => ?_⟩,
    exec_memoryReadEnd_append, ?_⟩
  · rw [exec_memoryReadEnd_edge held loading, State.onLoader, Loader.clockEdge_of_low reading low]
    rfl
  · rw [exec_memoryReadEnd_falls held loading reading high, State.onLoader, Loader.clockFalls, if_neg part]
    rfl
  · obtain ⟨falls, buffer⟩ := Loader.clockFalls_of_byte full
    refine ⟨_, exec_memoryReadEnd_falls held loading reading high level, changesOnly_onLoader s _, ?_, fun k bit => ?_,
      fun a other => ?_⟩
    · simp only [State.onLoader_loader, ← reading]
      exact falls
    · rw [State.onLoader_loader, buffer, Memory.read_write wf, if_pos rfl, ← spiLevels_getElem? _ bit,
        spiLevels_spiByte full]
    · rw [State.onLoader_loader, buffer, Memory.read_write wf, if_neg other]
  · intro bytes sdi s held reading loading wf law low fresh command edges spelled image declared n ends
    obtain ⟨-, -, read⟩ := (storeLaws_iff s).2 ⟨wf, law⟩
    obtain ⟨⟨m, holds, next⟩, ⟨r, full, rest⟩⟩ := readPart_filledTo read reading low fresh edges spelled
    have runs : ∀ part, exec (.memoryReadEnd part) s = .next (s.onLoader (fun l => l.readPart part)) := fun part => by
      rw [exec_running _ held]
      exact congrArg _ (memoryRead_of_loading loading part)
    have ended : ∀ {part : MemoryPart} {q : Memory}, q.HoldsUpTo image n → s.loader.readPart part =
        ({ s.loader with sdo := [] } : Loader).filledTo image q n → ends (.memoryReadEnd part) := by
      intro part q filled is
      replace is := is.trans (Loader.filledTo_end image q s.loader)
      refine ⟨_, runs part, changesOnly_onLoader s _, ?_, fun a => ?_⟩
      · rw [State.onLoader_loader, is]
        rfl
      · rw [State.onLoader_loader, is]
        exact filled.read a
    have length : readEnd (s.loader.imageOf bytes) = n := rfl
    rw [length] at holds next
    refine ⟨fun reaches => ?_, fun short => ?_, ended full rest⟩
    · rw [Nat.min_eq_left reaches] at holds next
      exact ended holds next
    · rw [Nat.min_eq_right (Nat.le_of_lt short)] at holds next
      replace next := next.trans (Loader.filledTo_short short reading m)
      refine ⟨_, runs _, changesOnly_onLoader s _, ?_, fun a => ⟨?_, register_of_buffer _⟩⟩
      · rw [State.onLoader_loader, next]
      · rw [State.onLoader_loader, next]
        exact holds.read a

end Machine
end Sys2Proof
end

section
namespace Sys2Proof
namespace Machine

/-! ### The acknowledgements of a transaction are read by no command (R177) -/

/-- The station with other acknowledgements given in the transaction. -/
def State.withAcks (l : List Bool) (s : State) : State := s.onPort (fun p => { p with acks := l })

/-- A press leaves the port aside. -/
theorem ackPress_onPort (f : Port → Port) (s : State) : (s.onPort f).ackPress = s.ackPress.onPort f := by
  have aside := ackPress_withPanel s.input s.out (f s.port) s
  have kept : s.ackPress.withPanel s.input s.out (f s.port) = s.ackPress.onPort f := by
    rw [← (by simp : s.ackPress.input = s.input), ← (by simp : s.ackPress.out = s.out),
      ← (by simp : s.ackPress.port = s.port)]
    rfl
  exact aside.trans kept

/-- A press of SILENCE leaves the port aside. -/
theorem silencePress_onPort (f : Port → Port) (s : State) : (s.onPort f).silencePress = s.silencePress.onPort f := by
  unfold State.silencePress
  change (if s.life.life = .active then _ else _) = _
  split <;> rfl

section
variable (l : List Bool) (s : State)

/-- An answer at the end of an event, beside other acknowledgements. -/
theorem settle_withAcks (r : Result) : ((s.withAcks l).result r).settle = (s.result r).settle.withAcks l :=
  State.settle_onPort (s.result r) (fun p => { p with acks := l })

/-- ACK_ONE for an own condition reads no acknowledgement. -/
theorem ackOneOwn_withAcks (c : CondIx) : (s.withAcks l).ackOneOwn c = (s.ackOneOwn c).withAcks l := by
  have acted : (s.withAcks l).localAck c = (s.localAck c).withAcks l := applyAck_onPort _ c _ s
  unfold State.ackOneOwn
  rw [show (s.withAcks l).ownCond c = s.ownCond c from rfl, acted, settle_withAcks]
  (repeat' split) <;> rfl

/-- ACK_ONE for a peer's condition reads no acknowledgement. -/
theorem ackOnePeer_withAcks (st : Station) (c : CondIx) :
    (s.withAcks l).ackOnePeer st c = (s.ackOnePeer st c).withAcks l := by
  have asked : ∀ mask pairs, (s.withAcks l).handRequest st mask pairs = (s.handRequest st mask pairs).withAcks l :=
    fun mask pairs => handRequest_onPort _ st mask pairs s
  unfold State.ackOnePeer
  rw [show (s.withAcks l).pic = s.pic from rfl, show (s.withAcks l).condEntry st c = s.condEntry st c from rfl,
    show (s.withAcks l).life = s.life from rfl, show (s.withAcks l).requestFor st = s.requestFor st from rfl,
    show (s.withAcks l).freePlace = s.freePlace from rfl, asked, settle_withAcks]
  (repeat' split) <;> rfl

/-- ACK_ONE reads no acknowledgement. -/
theorem ackOneChecks_withAcks (a0 a1 : Byte) :
    (s.withAcks l).ackOneChecks a0 a1 = (s.ackOneChecks a0 a1).withAcks l := by
  by_cases range : 32 ≤ a0.toNat ∨ 8 ≤ a1.toNat
  · rw [ackOneChecks_of_range range, ackOneChecks_of_range range]
    rfl
  · obtain ⟨low0, low1⟩ := not_or.1 range
    have h0 : a0.toNat = (⟨a0.toNat, by omega⟩ : Station).val := rfl
    have h1 : a1.toNat = (⟨a1.toNat, by omega⟩ : CondIx).val := rfl
    rw [ackOneChecks_eq h0 h1, ackOneChecks_eq h0 h1, ackOneOwn_withAcks, ackOnePeer_withAcks,
      show (s.withAcks l).own = s.own from rfl]
    split <;> rfl

/-- No command of Table 11-3 reads an acknowledgement. -/
theorem runCommand_withAcks (c : Command) : (s.withAcks l).runCommand c = (s.runCommand c).withAcks l := by
  cases c
  case take =>
    simp only [State.runCommand, State.takeRecord, show (s.withAcks l).journal = s.journal from rfl]
    split <;> rfl
  case ackAll =>
    have pressed : (s.withAcks l).ackPress = s.ackPress.withAcks l := ackPress_onPort _ s
    simp only [State.runCommand, pressed, settle_withAcks]
  case ackOne => exact ackOneChecks_withAcks l s s.port.arg0 s.port.arg1
  case silence =>
    have pressed : (s.withAcks l).silencePress = s.silencePress.withAcks l := silencePress_onPort _ s
    simp only [State.runCommand, pressed, settle_withAcks]
  case commit =>
    simp only [State.runCommand, State.commitImage, show (s.withAcks l).life = s.life from rfl]
    split <;> rfl
  case lampTestOn | lampTestOff | countClear => rfl

/-- No command written reads an acknowledgement. -/
theorem settleCommand_withAcks (code : Byte) :
    (s.withAcks l).settleCommand code = (s.settleCommand code).withAcks l := by
  unfold State.settleCommand
  rw [show (s.withAcks l).committing = s.committing from rfl, show (s.withAcks l).life = s.life from rfl]
  split
  · rfl
  · split
    · rfl
    · rw [runCommand_withAcks]
      (repeat' split) <;> rfl

/-- No byte written reads an acknowledgement. -/
theorem writeByte_withAcks (b : Byte) : (s.withAcks l).writeByte b = (s.writeByte b).withAcks l := by
  have written : ∀ off, (s.withAcks l).writeRegister off b = (s.writeRegister off b).withAcks l := fun off => by
    unfold State.writeRegister
    rw [show (s.withAcks l).bufferWritable = s.bufferWritable from rfl]
    have commanded : ((s.withAcks l).onPort (fun p => { p with command := b })).settleCommand b =
        ((s.onPort (fun p => { p with command := b })).settleCommand b).withAcks l :=
      settleCommand_withAcks l (s.onPort (fun p => { p with command := b })) b
    rw [commanded]
    (repeat' split) <;> rfl
  unfold State.writeByte
  rw [show (s.withAcks l).port.pointer = s.port.pointer from rfl, written]
  rfl

/-- No bytes written read an acknowledgement. -/
theorem foldl_writeByte_withAcks (data : List Byte) :
    data.foldl State.writeByte (s.withAcks l) = (data.foldl State.writeByte s).withAcks l := by
  induction data generalizing s with
  | nil => rfl
  | cons b data ih => rw [List.foldl_cons, List.foldl_cons, writeByte_withAcks, ih]

end

/-! ### What a byte written leaves of the port and of the buffer (R177, R179) -/

/-- ACK_ONE answers in RESULT alone. -/
theorem ackOneChecks_port (a0 a1 : Byte) (s : State) :
    (s.ackOneChecks a0 a1).port = { s.port with result := (s.ackOneChecks a0 a1).port.result } := by
  simp only [State.ackOneChecks]
  (repeat' split)
  all_goals simp [State.result]

/-- A command answers in RESULT alone. -/
theorem runCommand_port (c : Command) (s : State) :
    (s.runCommand c).port = { s.port with result := (s.runCommand c).port.result } := by
  cases c
  case take =>
    simp only [State.runCommand, State.takeRecord]
    split <;> rfl
  case ackOne => exact ackOneChecks_port _ _ s
  case commit =>
    simp only [State.runCommand, State.commitImage]
    split <;> rfl
  all_goals simp [State.runCommand, State.result]

/-- A command settled answers in RESULT alone (R181). -/
theorem settleCommand_port (code : Byte) (s : State) :
    (s.settleCommand code).port = { s.port with result := (s.settleCommand code).port.result } := by
  unfold State.settleCommand
  (repeat' split)
  case h_2.isFalse.isFalse => exact runCommand_port _ s
  all_goals rfl

/-- A byte written advances the pointer, and leaves the read in progress and the acknowledgements (R177). -/
theorem writeByte_port (b : Byte) (s : State) :
    (s.writeByte b).port.pointer = s.port.pointer + 1 ∧ (s.writeByte b).port.acks = s.port.acks ∧
    (s.writeByte b).port.reading = s.port.reading ∧ (s.writeByte b).port.unsent = s.port.unsent := by
  have written : ∀ off, let p := (s.writeRegister off b).port
      p.pointer = s.port.pointer ∧ p.acks = s.port.acks ∧ p.reading = s.port.reading ∧ p.unsent = s.port.unsent := by
    intro off
    simp only [State.writeRegister]
    (repeat' split)
    case isFalse.isFalse.isTrue =>
      rw [settleCommand_port]
      exact ⟨rfl, rfl, rfl, rfl⟩
    all_goals exact ⟨rfl, rfl, rfl, rfl⟩
  obtain ⟨pointer, others⟩ := written s.port.pointer.toNat
  exact ⟨congrArg (· + 1) pointer, others⟩

/-- Bytes written advance the pointer by their number (R177). -/
theorem foldl_writeByte_port (data : List Byte) (s : State) :
    let p := (data.foldl State.writeByte s).port
    p.pointer = s.port.pointer + BitVec.ofNat 16 data.length ∧ p.acks = s.port.acks ∧
      p.reading = s.port.reading ∧ p.unsent = s.port.unsent := by
  induction data generalizing s with
  | nil => simp
  | cons b data ih =>
    obtain ⟨pointer, acks, reading, unsent⟩ := ih (s.writeByte b)
    obtain ⟨pointer', acks', reading', unsent'⟩ := writeByte_port b s
    refine ⟨?_, acks.trans acks', reading.trans reading', unsent.trans unsent'⟩
    rw [List.foldl_cons, pointer, pointer', List.length_cons, Nat.add_comm, BitVec.ofNat_add, BitVec.add_assoc]
    rfl

/-- No command writes a byte of the buffer. -/
theorem settleCommand_buffer (code : Byte) (s : State) : (s.settleCommand code).loader.buffer = s.loader.buffer := by
  have commands : ∀ c, (s.runCommand c).loader.buffer = s.loader.buffer := fun c => by
    cases c
    case commit =>
      simp only [State.runCommand, State.commitImage]
      split <;> rfl
    all_goals simp [State.runCommand]
  unfold State.settleCommand
  (repeat' split)
  case h_2.isFalse.isFalse => exact commands _
  all_goals rfl

/-- A byte written keeps the canonical form of the buffer. -/
theorem State.BufferLaw.writeByte {s : State} (law : s.BufferLaw) (b : Byte) : (s.writeByte b).BufferLaw := by
  have written : ∀ off, (s.writeRegister off b).BufferLaw := fun off => by
    simp only [State.writeRegister]
    (repeat' split)
    case isFalse.isFalse.isTrue =>
      rw [State.BufferLaw, settleCommand_buffer]
      exact law
    case isFalse.isFalse.isFalse.isTrue =>
      rename_i place
      exact Memory.write_wf law b (show _ < 640 by omega)
    all_goals exact law
  exact written _

/-! ### Bytes written by their place (R177, R179) -/

/-- The station with another image buffer, and the pointer placed. -/
def State.buffered (m : Memory) (pointer : BitVec 16) (s : State) : State :=
  (s.onLoader (fun l => { l with buffer := m })).onPort (fun p => { p with pointer := pointer })

/-- A byte at the pointer. -/
theorem writeByte_at {s : State} {off : Nat} (place : s.port.pointer.toNat = off) (b : Byte) :
    s.writeByte b = (s.writeRegister off b).onPort (fun p => { p with pointer := p.pointer + 1 }) := by
  rw [State.writeByte, place]

/-- A byte outside the writable registers and the buffer is ignored (R177, R181). -/
theorem writeRegister_ignored {off : Nat} (outside : off < 0x10 ∨ 0x13 ≤ off ∧ off < 0x1000 ∨ 0x1280 ≤ off) (b : Byte)
    (s : State) : s.writeRegister off b = s := by
  rw [State.writeRegister, if_neg (by omega), if_neg (by omega), if_neg (by omega), if_neg (by omega)]

/-- A byte at an offset of the buffer stands there while the buffer is writable, and is ignored otherwise (R179). -/
theorem writeByte_buffer {s : State} (law : s.BufferLaw) {o : Nat} (place : s.port.pointer.toNat = 0x1000 + o)
    (inside : o < 640) (b : Byte) :
    ∃ m, s.writeByte b = s.buffered m (s.port.pointer + 1) ∧ Memory.wf m = true ∧
      ∀ a, Memory.read m a = if s.bufferWritable = true ∧ a = o then b else Memory.read s.loader.buffer a := by
  have written : s.writeRegister (0x1000 + o) b = if s.bufferWritable
      then s.onLoader (fun l => { l with buffer := Memory.write l.buffer o b }) else s := by
    rw [State.writeRegister, if_neg (by omega), if_neg (by omega), if_neg (by omega), Nat.add_sub_cancel_left]
    exact if_congr ⟨fun is => is.2.2, fun is => ⟨by omega, by omega, is⟩⟩ rfl rfl
  rw [writeByte_at place, written]
  cases writable : s.bufferWritable with
  | true =>
    refine ⟨Memory.write s.loader.buffer o b, rfl, Memory.write_wf law b inside, fun a => ?_⟩
    simp [Memory.read_write law]
  | false => exact ⟨s.loader.buffer, rfl, law, fun a => by simp⟩

/-- The image buffer is writable in LOADING with source SUPERVISOR while no check runs (R179). -/
theorem bufferWritable_iff (s : State) : s.bufferWritable = true ↔
    s.life.life = .loading ∧ s.life.source = .supervisor ∧ s.loader.phase ≠ .checking := by
  simp [State.bufferWritable, and_assoc]

/-- Bytes at the offsets of the buffer stand there while the buffer is writable, and are ignored otherwise (R142,
R179). -/
theorem foldl_writeByte_buffer : ∀ (bytes : List Byte) {s : State} {o : Nat}, s.BufferLaw →
    s.port.pointer.toNat = 0x1000 + o → o + bytes.length ≤ 640 →
    ∃ m, bytes.foldl State.writeByte s = s.buffered m (s.port.pointer + BitVec.ofNat 16 bytes.length) ∧
      ∀ a, Memory.read m a = if s.bufferWritable = true ∧ o ≤ a
        then bytes.getD (a - o) (Memory.read s.loader.buffer a) else Memory.read s.loader.buffer a
  | [], s, o, _, _, _ => by
    refine ⟨s.loader.buffer, ?_, fun a => by simp⟩
    simp [State.buffered, State.onLoader, State.onPort]
  | b :: bytes, s, o, law, place, inside => by
    rw [List.length_cons] at inside
    obtain ⟨m, first, wf, reads⟩ := writeByte_buffer law place (by omega) b
    have next : (s.buffered m (s.port.pointer + 1)).port.pointer.toNat = 0x1000 + (o + 1) := by
      show (s.port.pointer + 1).toNat = _
      rw [BitVec.toNat_add, place]
      simp
      omega
    obtain ⟨r, rest, later⟩ := foldl_writeByte_buffer bytes (s := s.buffered m (s.port.pointer + 1)) wf next (by omega)
    refine ⟨r, ?_, fun a => ?_⟩
    · rw [List.foldl_cons, first, rest, List.length_cons, Nat.add_comm, BitVec.ofNat_add, ← BitVec.add_assoc]
      rfl
    · rw [later, show (s.buffered m (s.port.pointer + 1)).bufferWritable = s.bufferWritable from rfl,
        show (s.buffered m (s.port.pointer + 1)).loader.buffer = m from rfl, reads]
      by_cases writable : s.bufferWritable = true
      · rcases Nat.lt_trichotomy a o with before | here | behind
        · rw [if_neg (by omega), if_neg (by omega), if_neg (by omega)]
        · rw [if_neg (by omega), if_pos ⟨writable, here⟩, if_pos ⟨writable, by omega⟩, here]
          simp
        · rw [if_pos ⟨writable, by omega⟩, if_neg (by omega), if_pos ⟨writable, by omega⟩]
          obtain ⟨k, hk⟩ : ∃ k, a = o + 1 + k := ⟨a - (o + 1), by omega⟩
          subst hk
          rw [show o + 1 + k - (o + 1) = k by omega, show o + 1 + k - o = k + 1 by omega, List.getD_cons_succ]
      · simp [writable]

/-! ### Write transactions (R177, log entry 12) -/

/-- The station with the address bytes of a write transaction taken: the pointer placed, and an acknowledgement given
for the port's address and each data byte. -/
def State.opened (pointer : BitVec 16) (acks : Nat) (s : State) : State :=
  s.onPort (fun p => { p with reading := false, unsent := [], acks := List.replicate acks true, pointer := pointer })

/-- A write transaction to the port's own address. -/
theorem writeTransaction_own (data : List Byte) (s : State) : s.writeTransaction 0x5A data =
    (s.beginTransaction (List.replicate (data.length + 1) true)).writeData data :=
  if_pos (show (0x5A : BitVec 7) = Config.portAddress from rfl)

/-- The bytes of a write transaction act one after the other at the pointer. -/
theorem exec_registerWrite {s : State} (held : s.held = false) (hi lo : Byte) (data : List Byte) :
    exec (.registerWrite 0x5A (hi :: lo :: data)) s =
      .next (data.foldl State.writeByte (s.opened (hi ++ lo) (data.length + 3))) := by
  rw [exec_running _ held]
  exact congrArg _ (writeTransaction_own _ s)

/-- A write transaction of one data byte. -/
theorem exec_registerWrite_one {s : State} (held : s.held = false) (hi lo b : Byte) :
    exec (.registerWrite 0x5A [hi, lo, b]) s = .next (((s.opened (hi ++ lo) 4).writeRegister (hi ++ lo).toNat b).onPort
      (fun p => { p with pointer := p.pointer + 1 })) :=
  exec_registerWrite held hi lo [b]

/-- The two bytes of an offset, high byte first. -/
theorem pointerBytes {n : Nat} (short : n < 65536) :
    (BitVec.ofNat 8 (n / 256) ++ BitVec.ofNat 8 n : BitVec 16) = BitVec.ofNat 16 n := by
  apply BitVec.eq_of_toNat_eq
  have low : n % 2 ^ 8 < 2 ^ 8 := Nat.mod_lt _ (by decide)
  rw [BitVec.toNat_append, BitVec.toNat_ofNat, BitVec.toNat_ofNat, BitVec.toNat_ofNat,
    ← Nat.shiftLeft_add_eq_or_of_lt low, Nat.shiftLeft_eq]
  omega

/-- A write of the image buffer places its bytes while the buffer is writable, and none otherwise (R142, R179). -/
theorem exec_imageBufferWrite {s : State} (held : s.held = false) (law : s.BufferLaw) (offset : Fin 640)
    {bytes : List Byte} (inside : offset.val + bytes.length ≤ 640) :
    ∃ m, exec (.imageBufferWrite offset bytes) s = .next ((s.opened 0 (bytes.length + 3)).buffered m
        (BitVec.ofNat 16 (0x1000 + offset.val + bytes.length))) ∧
      ∀ a, Memory.read m a = if s.bufferWritable = true ∧ offset.val ≤ a
        then bytes.getD (a - offset.val) (Memory.read s.loader.buffer a) else Memory.read s.loader.buffer a := by
  obtain ⟨u, opened⟩ : ∃ u, u = s.opened (BitVec.ofNat 16 (0x1000 + offset.val)) (bytes.length + 3) := ⟨_, rfl⟩
  have pointer : u.port.pointer = BitVec.ofNat 16 (0x1000 + offset.val) := by rw [opened]; rfl
  have place : u.port.pointer.toNat = 0x1000 + offset.val := by
    rw [pointer, BitVec.toNat_ofNat]
    omega
  have buffer : u.loader.buffer = s.loader.buffer := by rw [opened]; rfl
  obtain ⟨m, written, reads⟩ := foldl_writeByte_buffer bytes (s := u) (by rw [State.BufferLaw, buffer]; exact law) place
    inside
  have runs : exec (.imageBufferWrite offset bytes) s = .next (bytes.foldl State.writeByte u) := by
    rw [opened, ← pointerBytes (by omega), ← exec_registerWrite held, exec_running _ held, exec_running _ held]
    rfl
  refine ⟨m, ?_, ?_⟩
  · rw [runs, written, pointer, ← BitVec.ofNat_add, opened]
    rfl
  · rw [buffer] at reads
    rw [opened] at reads
    exact reads

/-- The last byte of a transaction acts on what the bytes before it have left, and is acknowledged too (R177). -/
theorem exec_registerWrite_append {s t : State} (held : s.held = false) {hi lo b : Byte} {data : List Byte}
    (left : t = data.foldl State.writeByte (s.opened (hi ++ lo) (data.length + 3))) :
    exec (.registerWrite 0x5A (hi :: lo :: (data ++ [b]))) s =
      .next ((t.writeByte b).withAcks (t.port.acks ++ [true])) := by
  have acks : t.port.acks ++ [true] = List.replicate (data.length + 4) true := by
    obtain ⟨-, acks, -⟩ := foldl_writeByte_port data (s.opened (hi ++ lo) (data.length + 3))
    rw [left, acks]
    exact List.replicate_succ'.symm
  rw [exec_registerWrite held, List.foldl_append, List.foldl_cons, List.foldl_nil, acks, ← writeByte_withAcks, left,
    ← foldl_writeByte_withAcks, List.length_append]
  rfl

/-- A byte on COMMAND behind other bytes of a transaction runs its command as the command does alone (R181). -/
theorem writeByte_command {t : State} (place : t.port.pointer = 0x12) (reading : t.port.reading = false)
    (unsent : t.port.unsent = []) (b : Byte) (l : List Bool) :
    (t.writeByte b).withAcks l = (t.writeCommand b).withAcks l := by
  have written : t.commandWritten b =
      (t.onPort (fun p => { p with command := b })).withAcks [true, true, true, true] := by
    simp only [State.commandWritten, State.withAcks, State.onPort, ← place, ← reading, ← unsent]
  have off : t.port.pointer.toNat = 0x12 := by rw [place]; rfl
  have alone : t.writeCommand b =
      ((t.commandWritten b).settleCommand b).onPort (fun p => { p with pointer := p.pointer + 1 }) :=
    State.writeCommand_eq t b
  rw [alone, written, settleCommand_withAcks, writeByte_at off]
  rfl

/-- Settles O49: bytes of the buffer by `foldl_writeByte_buffer`, and the last byte of a transaction by what stood
before it, since no command reads the acknowledgements. -/
theorem writesReachTheWritableRegisters : Obligations.WritesReachTheWritableRegisters := by
  intro s held law
  refine ⟨?_, ?_, ?_, ?_⟩
  · intro offset bytes inside
    obtain ⟨m, runs, reads⟩ := exec_imageBufferWrite held law offset inside
    refine ⟨_, runs, ?_, rfl, rfl, fun a => ?_⟩
    · intro b hb
      cases b <;> simp at hb <;> rfl
    · refine (reads a).trans (if_congr ?_ rfl rfl)
      rw [bufferWritable_iff, and_assoc, and_assoc]
  · intro hi lo b port
    refine ⟨exec_running _ held, exec_running _ held, exec_registerWrite held hi lo [],
      exec_registerWrite_one held 0x00 0x10 b, exec_registerWrite_one held 0x00 0x11 b, fun outside => ?_⟩
    rw [exec_registerWrite_one held, writeRegister_ignored outside]
    rfl
  · intro address data other
    rw [exec_running _ held]
    exact congrArg _ (if_neg other)
  · intro hi lo b data
    obtain ⟨t, left⟩ : ∃ t, t = data.foldl State.writeByte (s.opened (hi ++ lo) (data.length + 3)) := ⟨_, rfl⟩
    obtain ⟨pointer, acks, reading, unsent⟩ := foldl_writeByte_port data (s.opened (hi ++ lo) (data.length + 3))
    rw [← left] at pointer acks reading unsent
    have next := exec_registerWrite_append held (b := b) left
    refine ⟨t, by rw [exec_registerWrite held, ← left], pointer, acks, fun place => ?_, fun place => ?_,
      fun c place command => ?_, fun least most => ?_, fun outside => ?_⟩
    · rw [next, writeByte_at place]
      rfl
    · rw [next, writeByte_at place]
      rfl
    · have free : t.held = false := by
        rw [left, foldl_keeps (fun u : State => u.held) (fun u x => by simp)]
        exact held
      refine ⟨t.writeCommand b, ?_, ?_⟩
      · rw [exec_running _ free, effectRunning_of_command command]
      · rw [next, writeByte_command (BitVec.eq_of_toNat_eq place) reading unsent]
        rfl
    · have buffer : t.BufferLaw := by
        rw [left]
        exact List.foldlRecOn (motive := State.BufferLaw) _ _ law fun _ kept x _ => kept.writeByte x
      obtain ⟨m, written, -, reads⟩ := writeByte_buffer buffer (o := t.port.pointer.toNat - 0x1000) (by omega)
        (by omega) b
      rw [written] at next
      refine ⟨_, next, ?_, rfl, rfl, fun a => ?_⟩
      · intro x hx
        cases x <;> simp at hx <;> rfl
      · refine (reads a).trans (if_congr ?_ rfl rfl)
        rw [bufferWritable_iff, and_assoc, and_assoc]
    · rw [next, writeByte_at rfl, writeRegister_ignored outside]
      rfl

end Machine
end Sys2Proof
end

section
namespace Sys2Proof
namespace Machine

/-! ### The pattern phase (R158) -/

/-- The pattern phase is the phase of the millisecond count. -/
def State.InPhase (s : State) : Prop := s.out.phase = phaseOf s.clock

/-- An event that leaves the count and the pattern phase keeps them in step. -/
theorem State.InPhase.of_same {s t : State} (h : s.InPhase) (clock : t.clock = s.clock)
    (phase : t.out.phase = s.out.phase) : t.InPhase := by
  rw [State.InPhase, clock, phase]
  exact h

/-- The count set takes the pattern phase with it. -/
theorem setClock_inPhase (s : State) (now : Ms) : (s.setClock now).InPhase := rfl

/-- An expiry brings the pattern phase along with the count, or leaves both (log entry 5). -/
theorem State.InPhase.reachTime {s : State} (h : s.InPhase) (due : Ms) : (s.reachTime due).InPhase := by
  unfold State.reachTime
  split
  · exact h
  · exact setClock_inPhase s due

/-! ### The outputs recomputed, and the outputs left alone (R156 to R166) -/

/-- Recomputing the outputs leaves what an output's setting reads. -/
theorem driveOutputs_outLevel (s : State) (o : OutSetting) : s.driveOutputs.outLevel o = s.outLevel o := rfl

/-- Recomputing the outputs leaves what HORN reads. -/
theorem driveOutputs_hornLevel (s : State) : s.driveOutputs.hornLevel = s.hornLevel := rfl

/-- Recomputing the outputs in step with the count brings every line to its level (R157). -/
theorem State.InPhase.driveOutputs {s : State} (h : s.InPhase) : s.driveOutputs.OutputLaw where
  phase := h
  levels i := by simp [driveOutputs_out, driveOutputs_outLevel]
  horn := by simp [driveOutputs_out, driveOutputs_hornLevel]

/-- An event that ends in step with the count settles with every line at its level (R128, R157). -/
theorem State.InPhase.settle {s : State} (h : s.InPhase) : s.settle.OutputLaw :=
  (h.of_same (t := s.quietStart) (by simp) (by simp)).driveOutputs

/-- An output's level reads the Output Unit and the picture alone. -/
theorem outLevel_congr {s t : State} (out : t.out = s.out) (pic : t.pic = s.pic) (o : OutSetting) :
    t.outLevel o = s.outLevel o := by
  have entries : t.condEntry = s.condEntry ∧ t.pointEntry = s.pointEntry := by
    simp [funext_iff, State.condEntry, State.pointEntry, pic]
  obtain ⟨conds, points⟩ := entries
  cases o <;> simp [State.outLevel, conds, points, out]

/-- HORN's level reads the Output Unit, the picture and the horn set alone. -/
theorem hornLevel_congr {s t : State} (out : t.out = s.out) (pic : t.pic = s.pic) (settings : t.settings = s.settings) :
    t.hornLevel = s.hornLevel := by
  simp only [State.hornLevel, State.condEntry, out, pic, settings]

/-- An event that leaves all that the lines show, and keeps the station running or not running, leaves them right. -/
theorem State.OutputLaw.of_same {s t : State} (h : s.OutputLaw) (clock : t.clock = s.clock) (out : t.out = s.out)
    (running : t.life.life.running = s.life.life.running) (pic : t.pic = s.pic) (settings : t.settings = s.settings) :
    t.OutputLaw where
  phase := by rw [out, clock, h.phase]
  levels i := by rw [running, outLevel_congr out pic, settings, out, h.levels i]
  horn := by rw [running, hornLevel_congr out pic settings, out, h.horn]

/-- Where the lines are right, the pattern phase is in step with the count. -/
theorem State.OutputLaw.inPhase {s : State} (h : s.OutputLaw) : s.InPhase := h.phase

/-- An event that leaves the count and the pattern phase settles with every line at its level. -/
theorem State.OutputLaw.settle {s t : State} (h : s.OutputLaw) (clock : t.clock = s.clock)
    (phase : t.out.phase = s.out.phase) : t.settle.OutputLaw :=
  (h.inPhase.of_same clock phase).settle

/-- Every line is off after reset, at the phase of the count 0 (R140, R166). -/
theorem outputLaw_of_reset {s : State} (out : s.out = .reset) (clock : s.clock = 0)
    (rest : s.life.life.running = false) : s.OutputLaw where
  phase := by
    rw [out, clock]
    rfl
  levels i := by simp [out, rest, OutputUnit.reset]
  horn := by
    rw [out, rest]
    rfl

/-- HORN follows R164 in every life state, for a station at rest has no horn set. -/
theorem State.OutputLaw.hornLaw {s : State} (h : s.OutputLaw) (idle : s.IdleLaw) : s.HornLaw := by
  rw [State.HornLaw, ← State.hornLevel_iff, h.horn]
  cases standing : s.life.life.running with
  | false => simp [State.hornLevel, idle.settings standing, Settings.empty]
  | true => simp

/-! ### Commands of the supervisor (R80, R162, R181) -/

/-- What is written to the port shows on no line. -/
theorem State.OutputLaw.onPort {s : State} (h : s.OutputLaw) (f : Port → Port) : (s.onPort f).OutputLaw :=
  h.of_same rfl rfl rfl rfl rfl

/-- ACK_ONE settles an acknowledgement or a request, and answers anything else in RESULT alone (R80). -/
theorem State.OutputLaw.ackOneChecks {s : State} (h : s.OutputLaw) (a0 a1 : Byte) :
    (s.ackOneChecks a0 a1).OutputLaw := by
  have answers : ∀ r, (s.result r).OutputLaw := fun r => h.onPort _
  by_cases range : 32 ≤ a0.toNat ∨ 8 ≤ a1.toNat
  · rw [ackOneChecks_of_range range]
    exact answers _
  · obtain ⟨st, h0⟩ : ∃ st : Station, a0.toNat = st.val := ⟨⟨a0.toNat, by omega⟩, rfl⟩
    obtain ⟨c, h1⟩ : ∃ c : CondIx, a1.toNat = c.val := ⟨⟨a1.toNat, by omega⟩, rfl⟩
    rw [ackOneChecks_eq h0 h1]
    split
    · unfold State.ackOneOwn
      split
      · exact answers _
      · split
        · exact h.settle (by simp) (by simp)
        · exact answers _
    · unfold State.ackOnePeer
      iterate 5
        split
        · exact answers _
      exact h.settle (by simp) (by simp)

/-- A command that moves the picture, the latch or the lamp test recomputes the outputs (Table 11-3, R157). -/
theorem State.OutputLaw.runCommand {s : State} (h : s.OutputLaw) (c : Command) : (s.runCommand c).OutputLaw := by
  cases c
  case ackAll | silence => exact h.settle (by simp) (by simp)
  case ackOne => exact h.ackOneChecks _ _
  case lampTestOn | lampTestOff => exact State.InPhase.driveOutputs (h.inPhase.of_same rfl rfl)
  case take | countClear | commit =>
    simp only [State.runCommand]
    exact h.of_same (by simp) (by simp) (by simp) (by simp) (by simp)

/-- A byte written (R177, R181). -/
theorem State.OutputLaw.writeByte {s : State} (h : s.OutputLaw) (b : Byte) : (s.writeByte b).OutputLaw := by
  have settled : ∀ {t : State} (code : Byte), t.OutputLaw → (t.settleCommand code).OutputLaw := fun code law => by
    simp only [State.settleCommand]
    (repeat' split)
    case h_2.isFalse.isFalse => exact law.runCommand _
    all_goals exact law.onPort _
  refine State.OutputLaw.onPort ?_ _
  simp only [State.writeRegister]
  (repeat' split)
  · exact h.onPort _
  · exact h.onPort _
  · exact settled _ (h.onPort _)
  · exact h.of_same rfl rfl rfl rfl rfl
  · exact h

/-- A write transaction (R177). -/
theorem State.OutputLaw.writeTransaction {s : State} (h : s.OutputLaw) (address : BitVec 7) (data : List Byte) :
    (s.writeTransaction address data).OutputLaw := by
  have begun : ∀ acks, (s.beginTransaction acks).OutputLaw := fun acks => h.onPort _
  simp only [State.writeTransaction]
  split
  · simp only [State.writeData]
    split
    · refine List.foldlRecOn (motive := State.OutputLaw) _ _ ?_ fun _ law b _ => law.writeByte b
      exact (begun _).onPort _
    all_goals exact begun _
  · exact begun _

/-! ### Timers (R16, R24, R28, R33, R48, R85, R113, R147, R151) -/

/-- A timer's event that leaves the count and the phase it was due at settles with every line at its level. -/
theorem State.OutputLaw.settle_reached {s t : State} (h : s.OutputLaw) (due : Ms)
    (clock : t.clock = (s.reachTime due).clock) (phase : t.out.phase = (s.reachTime due).out.phase) :
    t.settle.OutputLaw :=
  ((h.inPhase.reachTime due).of_same clock phase).settle

/-- A retry, or a request's failure (R85). -/
theorem State.OutputLaw.retryExpiry {s : State} (h : s.OutputLaw) (i : ReqIx) : (s.retryExpiry i).OutputLaw := by
  unfold State.retryExpiry
  split
  · exact h
  · split
    · exact h
    · rename_i due _
      dsimp only
      split <;> exact h.settle_reached due (by simp) (by simp)

/-- Entry to LISTENING from WITHDRAWN (R151). -/
theorem State.OutputLaw.withdrawExpiry {s : State} (h : s.OutputLaw) : s.withdrawExpiry.OutputLaw := by
  unfold State.withdrawExpiry
  split
  · rename_i due _ _
    exact ((h.inPhase.reachTime due).of_same (by simp) (by simp)).driveOutputs
  · exact h

/-! ### Notices, frames, collisions and the image (R45, R95, R121, R132, R142 to R145) -/

/-- The oldest notice evaluated (R45). -/
theorem State.OutputLaw.evaluation {s : State} (h : s.OutputLaw) : s.evaluation.OutputLaw := by
  unfold State.evaluation
  split
  · exact h
  · exact h.settle (by simp) (by simp)

/-- The silence latch cleared, and HORN recomputed (R95, R165). -/
theorem State.OutputLaw.latchClear {s : State} (h : s.OutputLaw) : s.latchClear.OutputLaw := by
  unfold State.latchClear
  split
  · exact h
  · exact State.InPhase.driveOutputs (h.inPhase.of_same (by simp) (by simp))

/-- A frame taken (R121). -/
theorem State.OutputLaw.frameEnd {s : State} (h : s.OutputLaw) (levels : List Level) :
    (s.frameEnd levels).OutputLaw := by
  rcases frameEnd_cases s levels with same | ⟨bytes, -, -, taken⟩
  · rwa [same]
  · rw [taken]
    exact State.InPhase.driveOutputs (h.inPhase.of_same (by simp) (by simp))

/-- A collision jams, which shows on no line, or withdraws the station (R131, R132, R150). -/
theorem State.OutputLaw.collision {s : State} (h : s.OutputLaw) (bitTime : Nat) :
    (s.collision bitTime).OutputLaw := by
  unfold State.collision
  dsimp only
  split
  · split
    · exact State.InPhase.driveOutputs (h.inPhase.of_same (by simp) (by simp))
    · exact h.of_same (by simp) (by simp) (by simp) (by simp) (by simp)
  · exact h

/-- A check that fails leaves the station not running (R142, R145). -/
theorem failImage_running {s : State} (loading : s.life.life = .loading) (code : FaultCode) :
    (s.failImage code).life.life.running = s.life.life.running := by
  unfold State.failImage
  split <;> simp [loading, Life.running]

/-- The end of the image check: an image accepted settles, and one that fails leaves every line off (R144, R145). -/
theorem State.OutputLaw.imageCheckEnd {s : State} (h : s.OutputLaw) : s.imageCheckEnd.OutputLaw := by
  unfold State.imageCheckEnd
  split
  · rename_i checks
    split
    · exact h.settle (by simp) (by simp)
    · rename_i code _
      exact h.of_same (by simp) (by simp) (failImage_running (s := s.onLoader _) checks.2 code) (by simp) (by simp)
  · exact h

/-! ### Every step (R157, R164) -/

/-- Every command keeps the outputs right while the RESET pin is not held: what moves the count, the picture, the latch
or a lamp test recomputes them, and the rest shows on no line. -/
theorem effectRunning_outputLaw (c : Instr) {s : State} (h : s.OutputLaw) : (effectRunning c s).OutputLaw := by
  cases c
  case reset => exact outputLaw_of_reset rfl rfl rfl
  case imageCheckEnd => exact h.imageCheckEnd
  case debounceExpiry | pairTimerExpiry | controlDebounceExpiry | holdExpiry | releaseExpiry | absenceTimerExpiry |
      refreshTimerExpiry | listenTimerExpiry =>
    simp only [effectRunning, State.debounceExpiry, State.pairExpiry, State.controlExpiry, State.holdExpiry,
      State.releaseExpiry, State.absenceExpiry, State.refreshExpiry, State.listenExpiry]
    split
    · exact h.settle_reached ‹Ms› (by simp) (by simp)
    · exact h
  case retryTimerExpiry i => exact h.retryExpiry i
  case evaluation => exact h.evaluation
  case truthEdge c =>
    simp only [effectRunning]
    split
    · exact h.settle (by simp) (by simp)
    · exact h
  case silenceLatchClear => exact h.latchClear
  case withdrawTimerExpiry => exact h.withdrawExpiry
  case patternPhaseStep => exact (setClock_inPhase s _).driveOutputs
  case frameEnd levels => exact h.frameEnd levels
  case collision bitTime => exact h.collision bitTime
  case imageBufferWrite | registerWrite => exact h.writeTransaction _ _
  case take | ackAll | ackOne | silence | lampTestOn | lampTestOff | countClear | commit | unknownCommand =>
    simp only [effectRunning, State.writeCommand]
    exact h.writeTransaction _ _
  all_goals
    simp only [effectRunning]
    exact h.of_same (by simp) (by simp) (by simp) (by simp) (by simp)

/-- Every command keeps the outputs right. -/
theorem effect_outputLaw (c : Instr) {s : State} (h : s.OutputLaw) : (effect c s).OutputLaw := by
  refine effect_keeps h (outputLaw_of_reset rfl rfl rfl) (fun stn source => ?_) (effectRunning_outputLaw c h)
  cases source <;> exact outputLaw_of_reset rfl rfl rfl

/-- One millisecond recomputes the outputs in the phase of its count (R158). -/
theorem tick_outputLaw {s : State} (h : s.OutputLaw) : s.tick.OutputLaw := by
  unfold State.tick
  split
  · exact h
  · exact (setClock_inPhase s _).driveOutputs

/-- Settles O57: the outputs one command at a time, and HORN by R164 as no horn set is held at rest. -/
theorem stepsKeepTheOutputLaws : Obligations.StepsKeepTheOutputLaws := by
  intro s t lawful stepped
  obtain ⟨idle, -, -⟩ := stepsKeepTheLifeLaws s t lawful stepped
  have outputs : t.OutputLaw := by
    rw [step_eq] at stepped
    cases stepped
    split
    · exact tick_outputLaw lawful.outputs
    · exact effect_outputLaw _ (lawful.outputs.of_same rfl rfl rfl rfl rfl)
  exact ⟨outputs, outputs.hornLaw idle⟩

end Machine
end Sys2Proof
end

section
namespace Sys2Proof
namespace Machine

/-! ### The journal grows at its tail (R170, R171, R173) -/

/-- A journal continues another: it holds its records in their order, with what came since behind them, and its window.
-/
structure Journal.Continues (k j : Journal) : Prop where
  records : j.records <+: k.records
  window : k.window = j.window

/-- A journal holds what it held. -/
@[simp] theorem Journal.Continues.refl (j : Journal) : j.Continues j := ⟨⟨[], List.append_nil _⟩, rfl⟩

section
variable {j : Journal} {s : State}

/-- A record joins the tail, or is lost (R171). -/
theorem Journal.Continues.append {k : Journal} (h : k.Continues j) (r : Record) : (k.append r).Continues j := by
  refine ⟨h.records.trans ?_, by simpa using h.window⟩
  unfold Journal.append
  split
  · exact ⟨[r], rfl⟩
  · exact ⟨[], List.append_nil _⟩

/-- A record handed to the Journal (R170). -/
@[simp] theorem Journal.Continues.record (h : s.journal.Continues j) (b : RecordBody) :
    (s.record b).journal.Continues j := by
  rw [State.record_journal]
  split
  · obtain ⟨records, window⟩ := h.append ⟨b, s.clock⟩
    exact ⟨records, window⟩
  · exact h

/-- Records that an event hands to the Journal. -/
theorem Journal.Continues.of_hands {t : State} {l : List RecordBody} (h : s.journal.Continues j) (handed : s.hands t l)
    (window : t.journal.window = s.journal.window) : t.journal.Continues j := by
  obtain ⟨more, records⟩ := records_of_hands handed
  exact ⟨h.records.trans ⟨more, records.symm⟩, window.trans h.window⟩

/-- Steps that each keep what the journal held, one after the other. -/
theorem Journal.Continues.foldl {β : Type} {f : State → β → State} (h : s.journal.Continues j) (l : List β)
    (step : ∀ (t : State) b, t.journal.Continues j → (f t b).journal.Continues j) :
    (l.foldl f s).journal.Continues j :=
  List.foldlRecOn (motive := fun t : State => t.journal.Continues j) l f h fun t kept b _ => step t b kept

/-! ### What writes records -/

/-- A report job arrives, or is dropped with its record (R186). -/
@[simp] theorem Journal.Continues.addJob (h : s.journal.Continues j) (job : Job) :
    (s.addJob job).journal.Continues j := by
  unfold State.addJob
  split <;> simp [h]

/-- A change of an own condition's annunciation state (R68). -/
@[simp] theorem Journal.Continues.annChange (h : s.journal.Continues j) (c : CondIx) (new : AnnState) :
    (s.annChange c new).journal.Continues j := by
  simp only [State.annChange, reportChange_eq]
  split <;> simp [h]

/-- A truth edge taken (R60). -/
@[simp] theorem Journal.Continues.takeEdge (h : s.journal.Continues j) (c : CondIx) :
    (s.takeEdge c).journal.Continues j := by
  unfold State.takeEdge
  split
  · exact h
  · unfold State.applyEdge
    dsimp only
    split
    · exact h
    · refine Journal.Continues.annChange ?_ c _
      exact h

/-- An acknowledgement applied (R61). -/
@[simp] theorem Journal.Continues.applyAck (h : s.journal.Continues j) (c : CondIx) (a : AckPair) :
    (s.applyAck c a).journal.Continues j := by
  rcases applyAck_cases s c a with ⟨same, -⟩ | ⟨new, -, changed, -⟩
  · rwa [same]
  · rw [changed]
    exact h.annChange c new

/-- Acknowledgements applied one after the other (R61, R62, R90). -/
@[simp] theorem Journal.Continues.answersAll (h : s.journal.Continues j) (acks : List (CondIx × AckPair)) :
    (s.answersAll acks).journal.Continues j :=
  h.foldl acks fun _ x kept => kept.applyAck x.1 x.2

/-- An ACKREQ taken (R90). -/
@[simp] theorem Journal.Continues.takeAckreq (h : s.journal.Continues j) (target : Station) (mask : BitVec 8)
    (pairs : Tab 8 AckPair) : (s.takeAckreq target mask pairs).journal.Continues j := by
  rw [takeAckreq_eq, ackMasked_eq_answersAll]
  split <;> simp [h]

/-- A request handed to the table, or refused with its record (R82, R83). -/
@[simp] theorem Journal.Continues.handRequest (h : s.journal.Continues j) (target : Station) (mask : BitVec 8)
    (pairs : Tab 8 AckPair) : (s.handRequest target mask pairs).journal.Continues j := by
  unfold State.handRequest
  dsimp only
  (repeat' split) <;> simp [h]

/-- A press: the own conditions answered, and the requests of the peers (R78, R79). -/
@[simp] theorem Journal.Continues.ackPress (h : s.journal.Continues j) : s.ackPress.journal.Continues j := by
  rw [ackPress_eq]
  refine Journal.Continues.foldl (h.answersAll _) _ fun t x kept => ?_
  split
  · exact kept.handRequest _ _ _
  · exact kept.record _

/-- A request failed with its record (R85, R87). -/
@[simp] theorem Journal.Continues.failRequest (h : s.journal.Continues j) (i : ReqIx) :
    (s.failRequest i).journal.Continues j := by
  unfold State.failRequest
  split <;> simp [h]

/-- The request of a target failed, if there is one (R87). -/
@[simp] theorem Journal.Continues.failTarget (h : s.journal.Continues j) (st : Station) :
    (s.failTarget st).journal.Continues j := by
  unfold State.failTarget
  split <;> simp [h]

/-- Every request failed (R88). -/
@[simp] theorem Journal.Continues.failAll (h : s.journal.Continues j) : s.failAll.journal.Continues j :=
  h.foldl _ fun _ st kept => kept.failTarget st

/-- Own points written, with their records (R26, R29). -/
@[simp] theorem Journal.Continues.writeOwnPoints (h : s.journal.Continues j) (l : List (PointIx × PointEntry)) :
    (s.writeOwnPoints l).journal.Continues j := by
  have recorded := h.foldl (f := fun t x => t.record (.pointChange t.own x.1 x.2.value (x.2.quality == .fault))) l
    fun _ _ kept => kept.record _
  have written := recorded.foldl (f := fun t x => t.writePoint t.own x.1 x.2) l fun t x kept => by simpa using kept
  simpa [State.writeOwnPoints] using written

/-- A line's accepted change (R26). -/
@[simp] theorem Journal.Continues.acceptedChange (h : s.journal.Continues j) (n : PointIx) (active : Bool) :
    (s.acceptedChange n active).journal.Continues j := by
  unfold State.acceptedChange
  dsimp only
  split <;> exact h.writeOwnPoints _

/-- The quality of a pair written (R29). -/
@[simp] theorem Journal.Continues.pairQuality (h : s.journal.Continues j) (k : PairIx) (q : Quality) :
    (s.pairQuality k q).journal.Continues j :=
  h.writeOwnPoints _

/-- A control input's accepted change (R33 to R35). -/
@[simp] theorem Journal.Continues.controlChange (h : s.journal.Continues j) (i : Control) (active : Bool) :
    (s.controlChange i active).journal.Continues j := by
  unfold State.controlChange
  (repeat' split) <;> simp [h]

/-- A STATE taken, with the records of its origin's row (R9 to R14, R20). -/
@[simp] theorem Journal.Continues.takeState (h : s.journal.Continues j) (st : Station) (f : StateFrame) :
    (s.takeState st f).journal.Continues j := by
  have taken : (s.takeRow st f).journal.Continues j := by
    obtain ⟨-, records, -⟩ := rowTaken_effect st f s
    have handed := State.hands_of_journal (u := s.takeRow st f) records (by simp [State.takeRow_eq])
      (by simp [State.takeRow_eq]) (by simp [State.takeRow_eq])
    exact h.of_hands handed (by simp)
  unfold State.takeState State.strangerState
  dsimp only
  (repeat' split) <;> simp [h, taken]

/-- A peer's absence, with its record and that of its request (R16, R87). -/
@[simp] theorem Journal.Continues.becomeAbsent (h : s.journal.Continues j) (st : Station) :
    (s.becomeAbsent st).journal.Continues j := by
  rw [State.becomeAbsent_eq]
  refine Journal.Continues.failTarget ?_ st
  unfold State.rowAbsent
  refine Journal.Continues.foldl (Journal.Continues.foldl ?_ _ fun t p kept => by simpa using kept) _
    fun t c kept => by simpa using kept
  simp only [State.notice_keeps]
  refine Journal.Continues.record ?_ _
  exact h

/-- An entry to WITHDRAWN (R88, R150). -/
@[simp] theorem Journal.Continues.enterWithdrawn (h : s.journal.Continues j) :
    s.enterWithdrawn.journal.Continues j := by
  rw [enterWithdrawn_eq]
  simp only [State.withdrawing, State.setLife_keeps]
  refine Journal.Continues.failAll (Journal.Continues.record ?_ _)
  exact h

/-- A duplicate notice (R88, R149). -/
@[simp] theorem Journal.Continues.duplicateNotice (h : s.journal.Continues j) :
    s.duplicateNotice.journal.Continues j := by
  unfold State.duplicateNotice
  split <;> simp [State.enterDuplicate, h]

/-- A frame received (R99 to R101). -/
@[simp] theorem Journal.Continues.receiveFrame (h : s.journal.Continues j) (bytes : List Byte) :
    (s.receiveFrame bytes).journal.Continues j := by
  rcases receiveFrame_inv s bytes with ⟨-, notice⟩ | ⟨-, counted⟩ | ⟨st, p, -, taken⟩
  · rw [notice]
    split <;> simp [h]
  · simp [counted, h]
  · rw [taken]
    cases p <;> simp [h]

/-- An image accepted, with its records (R144). -/
@[simp] theorem Journal.Continues.acceptImage (h : s.journal.Continues j) (set : Settings) :
    (s.acceptImage set).journal.Continues j := by
  have taken : ∀ {t : State}, t.journal.Continues j → t.takeEdges.journal.Continues j :=
    fun kept => kept.foldl _ fun _ e kept => kept.takeEdge e.cond
  simpa [State.acceptImage, State.startRunning] using taken (t := State.evaluateAll _) (by simp [h])

/-- The end of the image check (R142, R144, R145). -/
theorem Journal.Continues.imageCheckEnd (h : s.journal.Continues j) : s.imageCheckEnd.journal.Continues j := by
  unfold State.imageCheckEnd
  split
  · split
    · simp only [State.settle_keeps, State.passImage]
      refine Journal.Continues.acceptImage ?_ _
      split <;> exact h
    · unfold State.failImage
      split
      · refine Journal.Continues.record ?_ _
        exact h
      · exact h
  · exact h

/-! ### Commands and writes (R173, R181) -/

/-- ACK_ONE (R80). -/
@[simp] theorem Journal.Continues.ackOneChecks (h : s.journal.Continues j) (a0 a1 : Byte) :
    (s.ackOneChecks a0 a1).journal.Continues j := by
  unfold State.ackOneChecks State.localAck
  dsimp only
  (repeat' split) <;> simp [h]

/-- A command other than TAKE (R173). -/
theorem Journal.Continues.runCommand (h : s.journal.Continues j) {c : Command} (other : c ≠ .take) :
    (s.runCommand c).journal.Continues j := by
  cases c
  case take => exact absurd rfl other
  all_goals simp [State.runCommand, h]

/-- TAKE's code is the only one of its command (Table 13-1). -/
theorem commandOf_eq_take {code : Byte} (h : commandOf code = some .take) : code = 0x01 := by
  revert code
  decide

/-- A code other than TAKE's, by the steps of R181. -/
theorem Journal.Continues.settleCommand (h : s.journal.Continues j) {code : Byte} (other : code ≠ 0x01) :
    (s.settleCommand code).journal.Continues j := by
  unfold State.settleCommand
  (repeat' split)
  case h_2.isFalse.isFalse c known _ _ => exact h.runCommand fun is => other (commandOf_eq_take (is ▸ known))
  all_goals simp [h]

/-- A byte written that does not put TAKE's code into COMMAND (R177, R181). -/
theorem Journal.Continues.writeByte (h : s.journal.Continues j) {b : Byte}
    (other : ¬ (s.port.pointer = 0x12 ∧ b = 0x01)) : (s.writeByte b).journal.Continues j := by
  suffices written : (s.writeRegister s.port.pointer.toNat b).journal.Continues j by
    simpa [State.writeByte] using written
  unfold State.writeRegister
  split
  · exact h
  · split
    · exact h
    · split
      · rename_i place
        refine Journal.Continues.settleCommand ?_ fun is => other ⟨BitVec.eq_of_toNat_eq place, is⟩
        exact h
      · split <;> exact h

/-- Bytes written from the pointer on that do not put TAKE's code into COMMAND (R177, R181). -/
theorem Journal.Continues.writeBytes {bytes : List Byte} (h : s.journal.Continues j)
    (other : takeWritten s.port.pointer bytes = false) : (bytes.foldl State.writeByte s).journal.Continues j := by
  induction bytes generalizing s with
  | nil => exact h
  | cons b bytes ih =>
    obtain ⟨pointer, -⟩ := writeByte_port b s
    simp only [takeWritten, Bool.or_eq_false_iff, Bool.and_eq_false_iff, beq_eq_false_iff_ne] at other
    obtain ⟨first, rest⟩ := other
    exact ih (h.writeByte fun is => first.elim (fun ne => ne is.1) fun ne => ne is.2) (by rw [pointer]; exact rest)

/-- A write transaction that does not write TAKE (R177). -/
theorem Journal.Continues.writeTransaction (h : s.journal.Continues j) {address : BitVec 7} {data : List Byte}
    (other : transactionTakes address data = false) : (s.writeTransaction address data).journal.Continues j := by
  unfold State.writeTransaction
  split
  next own =>
    unfold State.writeData
    split
    next hi lo bytes =>
      refine Journal.Continues.writeBytes h ?_
      simpa [transactionTakes, own] using other
    all_goals exact h
  · exact h

/-- A write of COMMAND with a code that is not TAKE's (R181). -/
theorem Journal.Continues.writeCommand (h : s.journal.Continues j) {code : Byte} (other : code ≠ 0x01) :
    (s.writeCommand code).journal.Continues j :=
  h.writeTransaction (by simpa [transactionTakes, takeWritten] using other)

/-! ### Every command (R139, R140) -/

/-- A frame's end (R121). -/
theorem Journal.Continues.frameEnd (h : s.journal.Continues j) (levels : List Level) :
    (s.frameEnd levels).journal.Continues j := by
  rcases frameEnd_cases s levels with same | ⟨bytes, -, -, taken⟩
  · rwa [same]
  · rw [taken]
    have atEnd : (s.atFrameEnd bytes).journal.Continues j := by simpa using h
    simpa using atEnd.receiveFrame bytes

/-- The line STUCK (R134). -/
theorem Journal.Continues.lineStuck (h : s.journal.Continues j) : s.lineStuck.journal.Continues j := by
  unfold State.lineStuck
  split
  · simp only [State.setLife_keeps]
    refine Journal.Continues.record ?_ _
    simp only [State.onLine_journal]
    (repeat' split) <;> simp [h]
  · exact h

/-- Every command but a reset and TAKE keeps what the journal held, while the RESET pin is not held. -/
theorem effectRunning_continues {c : Instr} (notReset : c.resets = false) (notTake : c.writesTake = false) (s : State) :
    (effectRunning c s).journal.Continues s.journal := by
  have h := Journal.Continues.refl s.journal
  cases c
  case reset => cases notReset
  case take => cases notTake
  case imageCheckEnd => exact h.imageCheckEnd
  case frameEnd levels => exact h.frameEnd levels
  case lineStuck => exact h.lineStuck
  case debounceExpiry | pairTimerExpiry | controlDebounceExpiry | truthEdge | retryTimerExpiry | absenceTimerExpiry |
      collision | lineReleased =>
    simp only [effectRunning, State.debounceExpiry, State.pairExpiry, State.controlExpiry, State.retryExpiry,
      State.absenceExpiry, State.collision, State.lineReleased]
    (repeat' split) <;> simp
  case imageBufferWrite offset bytes =>
    refine h.writeTransaction ?_
    have bytesTake : takeWritten (BitVec.ofNat 16 (0x1000 + offset.val)) bytes = false := notTake
    rw [transactionTakes, pointerBytes (by omega), bytesTake, Bool.and_false]
  case registerWrite address data => exact h.writeTransaction notTake
  case unknownCommand code => exact h.writeCommand (by simpa [Instr.writesTake] using notTake)
  case ackAll | ackOne | silence | lampTestOn | lampTestOff | countClear | commit => exact h.writeCommand (by decide)
  all_goals simp [effectRunning]

/-- Every command but a reset and TAKE keeps what the journal held. -/
theorem exec_continues {c : Instr} {s t : State} (answers : exec c s = .next t) (notReset : c.resets = false)
    (notTake : c.writesTake = false) : t.journal.Continues s.journal := by
  have runs := effectRunning_continues notReset notTake s
  rw [exec_eq_effect, effect] at answers
  cases answers
  split
  · rcases effectHeld_of_not_resets notReset s with same | acts
    · rw [same]
      exact .refl _
    · rwa [acts]
  · exact runs

end

/-! ### The scope, and the records appended or lost (R170, R171, R175) -/

/-- A record that the scope does not pass changes nothing (R170). -/
theorem record_of_not_passed {s : State} {b : RecordBody} (out : s.scopePasses b = false) : s.record b = s := by
  simp [State.record, out]

/-- A record that the scope passes changes the journal alone (R170). -/
theorem record_changesOnly (s : State) (b : RecordBody) : s.changesOnly [.journal] (s.record b) := by
  intro x hx
  cases x <;> simp at hx <;> simp [Block.same]

/-- Below 32 records a record joins the tail (R171). -/
theorem Journal.append_of_room {j : Journal} (room : j.records.length < 32) (r : Record) :
    j.append r = { j with records := j.records ++ [r] } :=
  if_pos room

/-- With 32 records held a record is lost, and the lost count stays at 65535 (R171). -/
theorem Journal.append_of_full {j : Journal} (full : 32 ≤ j.records.length) (r : Record) :
    j.append r = { j with lost := if j.lost < 65535 then j.lost + 1 else 65535, overflowPending := true } := by
  have saturates : min 65535 (j.lost + 1) = if j.lost < 65535 then j.lost + 1 else 65535 := by
    split <;> omega
  rw [← saturates]
  exact if_neg (Nat.not_lt.2 full)

/-- ATTN stands while a record is held and the image has it enabled (R175). -/
theorem Journal.driveAttn_attn_iff (j : Journal) (enabled : Bool) :
    (j.driveAttn enabled).attn = true ↔ enabled = true ∧ j.records ≠ [] := by
  simp [Journal.driveAttn]

/-- The scopes that pass a change of a point (Table 10-3). -/
theorem scopePasses_point_iff (s : State) (owner : Station) (p : PointIx) (value fault : Bool) :
    s.scopePasses (.pointChange owner p value fault) = true ↔ s.settings.scope = .all ∨ owner = s.own := by
  simp [State.scopePasses]

/-- The scopes that pass a change of a condition (Table 10-3). -/
theorem scopePasses_cond_iff (s : State) (owner : Station) (c : CondIx) (a : AnnState) (g : Gen) :
    s.scopePasses (.condChange owner c a g) = true ↔ s.settings.scope = .all ∨ owner = s.own ∨
      s.settings.scope = .attention ∧ ⟨owner, c⟩ ∈ s.ann.attention := by
  simp [State.scopePasses, or_assoc]

/-- Every scope passes the kinds other than changes of points and conditions (Table 10-3). -/
theorem scopePasses_other (s : State) {b : RecordBody} (noPoint : ∀ x q v f, b ≠ .pointChange x q v f)
    (noCond : ∀ x k n h, b ≠ .condChange x k n h) : s.scopePasses b = true := by
  cases b
  case pointChange x q v f => exact absurd rfl (noPoint x q v f)
  case condChange x k n h => exact absurd rfl (noCond x k n h)
  all_goals rfl

/-- Settles O8: every command but TAKE by `exec_continues`, and the journal and its scope by their own lemmas. -/
theorem recordsLeaveOnlyByTake : Obligations.RecordsLeaveOnlyByTake := by
  refine ⟨fun c s t answers notReset notTake => ?_, fun b s => ⟨record_of_not_passed, fun passed => ?_⟩,
    fun j r => ⟨fun room => Journal.append_of_room room r, fun full => Journal.append_of_full full r,
      fun enabled => ⟨rfl, j.driveAttn_attn_iff enabled⟩⟩,
    fun s owner p c value fault a g => ⟨scopePasses_point_iff s owner p value fault,
      scopePasses_cond_iff s owner c a g, fun b => scopePasses_other s⟩⟩
  · obtain ⟨⟨l, records⟩, window⟩ := exec_continues answers notReset notTake
    exact ⟨⟨l, records.symm⟩, window⟩
  · exact ⟨record_changesOnly s b, by rw [State.record_journal, if_pos passed]⟩

end Machine
end Sys2Proof
end
section
namespace Sys2Proof
namespace Machine

/-! ### TAKE (R172, R173, R175) -/

/-- TAKE goes on to its step in every life state, unless a COMMIT check runs (R181). -/
theorem settleCommand_take {s : State} (free : s.committing = false) : s.settleCommand 0x01 = s.takeRecord := by
  rw [settleCommand_of_known free (show commandOf 0x01 = some .take from rfl), if_neg (by simp [Command.inLoading]),
    if_neg (by simp)]
  rfl

/-- TAKE from an empty journal answers EMPTY alone (R173). -/
theorem writeCommand_take_of_empty {s : State} (free : s.committing = false) (empty : s.journal.records = []) :
    s.writeCommand 0x01 = s.answered 0x01 .empty := by
  refine writeCommand_answered ((settleCommand_take (s := s.commandWritten 0x01) free).trans ?_)
  unfold State.takeRecord
  rw [show (s.commandWritten 0x01).journal.records = [] from empty]

/-- TAKE from a journal that holds a record moves the oldest one to the window and answers OK (R172, R173). -/
theorem writeCommand_take_of_held {s : State} (free : s.committing = false) {head : Record} {rest : List Record}
    (held : s.journal.records = head :: rest) : s.writeCommand 0x01 = (s.onJournal (fun j =>
      (j.take head rest s.clock).driveAttn s.settings.attnEnabled)).answered 0x01 .ok := by
  refine writeCommand_answered ((settleCommand_take (s := s.commandWritten 0x01) free).trans ?_)
  unfold State.takeRecord
  rw [show (s.commandWritten 0x01).journal.records = head :: rest from held]
  rfl

section
variable {j : Journal} {rest : List Record}

/-- The oldest record stands in the window (R173). -/
theorem Journal.take_window (head : Record) (now : Ms) : (j.take head rest now).window = some head := by
  unfold Journal.take
  split <;> rfl

/-- Where 31 records are left and records were lost, OVERFLOW takes the place freed (R172). -/
theorem Journal.take_of_overflow (due : rest.length = 31 ∧ j.overflowPending = true) (head : Record) (now : Ms) :
    (j.take head rest now).records = rest ++ [⟨.overflow j.lost, now⟩] ∧ (j.take head rest now).lost = 0 ∧
      (j.take head rest now).overflowPending = false := by
  rw [Journal.take, if_pos due]
  exact ⟨rfl, rfl, rfl⟩

/-- Elsewhere the records behind the oldest are left (R173). -/
theorem Journal.take_of_no_overflow (none : ¬ (rest.length = 31 ∧ j.overflowPending = true)) (head : Record)
    (now : Ms) : (j.take head rest now).records = rest ∧ (j.take head rest now).lost = j.lost ∧
      (j.take head rest now).overflowPending = j.overflowPending := by
  rw [Journal.take, if_neg none]
  exact ⟨rfl, rfl, rfl⟩

end

/-! ### The journal window as it reads (R192, R197, Table 13-5) -/

/-- The unit at 0020h is the journal window (R197). -/
theorem unitBytes_window (s : State) : s.unitBytes 0x20 = s.windowBytes := by
  simp [State.unitBytes]

/-- A byte of a number cut out by division is the byte cut out of its bits. -/
theorem byteOf_div (time : Ms) (n : Nat) : byteOf (time.toNat / 2 ^ n) = time.extractLsb' n 8 := by
  apply BitVec.eq_of_toNat_eq
  simp [byteOf, Nat.shiftRight_eq_div_pow]

/-- A record reads its kind, its fields and its time, the time's high byte first (R192, Table 13-5). -/
theorem record_bytes (body : RecordBody) (time : Ms) : (⟨body, time⟩ : Record).bytes =
    byteOf body.kindCode :: (body.fieldBytes ++
      [time.extractLsb' 24 8, time.extractLsb' 16 8, time.extractLsb' 8 8, time.extractLsb' 0 8]) := by
  simp only [← byteOf_div]
  simp [Record.bytes]

/-- Settles O44: the two writes of TAKE by what the journal holds, and the bytes by `record_bytes`. -/
theorem takeMovesTheOldestRecord : Obligations.TakeMovesTheOldestRecord := by
  refine ⟨fun s held free => ?_, fun s => ⟨fun empty => ?_, fun r holds => ?_⟩, ?_⟩
  · have runs : exec .take s = .next (s.writeCommand 0x01) := exec_running _ held
    cases records : s.journal.records with
    | nil =>
      rw [writeCommand_take_of_empty free records] at runs
      refine ⟨_, runs, fun b hb => ?_, rfl, fun _ => rfl, nofun⟩
      cases b <;> simp at hb <;> rfl
    | cons head rest =>
      rw [writeCommand_take_of_held free records] at runs
      refine ⟨_, runs, fun b hb => ?_, rfl, nofun, ?_⟩
      · cases b <;> simp at hb <;> rfl
      rintro _ _ ⟨⟩
      exact ⟨Journal.take_window head s.clock, rfl, fun due => Journal.take_of_overflow due head s.clock,
        fun none => Journal.take_of_no_overflow none head s.clock⟩
  · rw [unitBytes_window, State.windowBytes, empty]
    rfl
  · rw [unitBytes_window, State.windowBytes, holds]
  · intro st p c g v m n value fault a x f time reads number
    simp only [reads, record_bytes]
    refine ⟨rfl, ?_, ?_, rfl, rfl, rfl, rfl, rfl, rfl, rfl, ?_, rfl, rfl, rfl, rfl, rfl, fun _ => ?_⟩
    · cases value <;> cases fault <;> rfl
    · rw [RecordBody.fieldBytes, Nat.add_comm]
      rfl
    · cases x <;> rfl
    · have low : number (n % 256) = number n := BitVec.eq_of_toNat_eq (by simp [number])
      rw [low]
      rfl

end Machine
end Sys2Proof
end
section
namespace Sys2Proof
namespace Machine

/-! ### Bytes of a read (R177, R178) -/

/-- The live bytes of the registers from the pointer on. -/
def State.liveBytes (n : Nat) (s : State) : List Byte :=
  (List.range n).map (fun k => s.register (s.port.pointer + BitVec.ofNat 16 k).toNat)

/-- The pointer moved on by one and then by the rest. -/
theorem pointer_add_succ (p : BitVec 16) (n : Nat) :
    p + BitVec.ofNat 16 (n + 1) = p + 1 + BitVec.ofNat 16 n := by
  rw [Nat.add_comm, BitVec.ofNat_add, ← BitVec.add_assoc]
  rfl

/-- The first live byte is the one at the pointer; sending it moves no register, so the rest are those from the pointer
moved on by one. -/
theorem State.liveBytes_succ (s : State) (n : Nat) (sent : List Byte) : s.liveBytes (n + 1) =
    s.register s.port.pointer.toNat ::
      (s.onPort (fun p => { p with sent := sent, pointer := p.pointer + 1 })).liveBytes n := by
  have live : (s.onPort (fun p => { p with sent := sent, pointer := p.pointer + 1 })).register = s.register := rfl
  rw [State.liveBytes, List.range_succ_eq_map, List.map_cons, List.map_map, State.liveBytes, live]
  refine congrArg₂ List.cons (by simp) (List.map_congr_left fun k _ => ?_)
  exact congrArg (fun x : BitVec 16 => s.register x.toNat) (pointer_add_succ s.port.pointer k)

/-- While captured bytes are left, they are what is sent (R178). -/
theorem sendBytes_captured (n : Nat) {s : State} (left : n ≤ s.port.unsent.length) :
    State.sendBytes n s = s.onPort (fun p => { p with
      sent := p.sent ++ p.unsent.take n
      unsent := p.unsent.drop n
      pointer := p.pointer + BitVec.ofNat 16 n }) := by
  induction n generalizing s with
  | zero => simp [State.sendBytes, State.onPort]
  | succ n ih =>
    cases bytes : s.port.unsent with
    | nil => simp [bytes] at left
    | cons b rest =>
      have sends : s.sendByte = s.onPort (fun p => { p with
          sent := p.sent ++ [b], unsent := rest, pointer := p.pointer + 1 }) := by
        simp only [State.sendByte, bytes]
      have fewer : n ≤ rest.length := by simpa [bytes] using left
      rw [State.sendBytes, sends, ih fewer]
      simp only [State.onPort, bytes, pointer_add_succ, List.append_assoc, List.singleton_append, List.take_succ_cons,
        List.drop_succ_cons]

/-- Where no captured byte is left, each byte is its register's live value (R178). -/
theorem sendBytes_live (n : Nat) {s : State} (noneLeft : s.port.unsent = []) :
    State.sendBytes n s = s.onPort (fun p => { p with
      sent := p.sent ++ s.liveBytes n
      pointer := p.pointer + BitVec.ofNat 16 n }) := by
  induction n generalizing s with
  | zero => simp [State.sendBytes, State.liveBytes, State.onPort]
  | succ n ih =>
    have sends : s.sendByte = s.onPort (fun p => { p with
        sent := p.sent ++ [s.register s.port.pointer.toNat], pointer := p.pointer + 1 }) := by
      simp only [State.sendByte, noneLeft]
    rw [State.sendBytes, ih (by rw [sends]; exact noneLeft), sends,
      s.liveBytes_succ n (s.port.sent ++ [s.register s.port.pointer.toNat])]
    simp only [State.onPort, pointer_add_succ, List.append_assoc, List.singleton_append]

/-! ### Parts of a read (R177, R178, log entry 12) -/

/-- The station after a part of a read: the bytes it put on the bus, and those left unsent, which the port keeps while
the controller acknowledges the last byte. -/
def State.readOn (count : Nat) (acked : Bool) (sent unsent : List Byte) (s : State) : State :=
  s.onPort (fun p => { p with
    reading := decide (acked = true ∨ count = 0)
    unsent := if acked = true ∨ count = 0 then unsent else []
    sent := sent
    pointer := p.pointer + BitVec.ofNat 16 count })

/-- After a byte that the controller does not acknowledge the port sends no more (R177). -/
theorem afterBytes_readOn {s : State} (reading : s.port.reading = true) (count : Nat) (acked : Bool)
    (sent unsent : List Byte) : (s.onPort (fun p => { p with
      sent := sent
      unsent := unsent
      pointer := p.pointer + BitVec.ofNat 16 count })).afterBytes count acked = s.readOn count acked sent unsent := by
  by_cases goesOn : acked = true ∨ count = 0
  · rw [State.afterBytes, if_pos goesOn.symm]
    simp [State.readOn, State.onPort, goesOn, reading]
  · rw [State.afterBytes, if_neg (fun h => goesOn h.symm)]
    simp [State.readOn, State.onPort, goesOn]

section
variable {s : State} {count : Nat} (acked : Bool) (reading : s.port.reading = true) (fresh : s.port.sent = [])
include reading fresh

/-- A part of a read that the captured bytes cover (R178). -/
theorem sendPart_captured (left : count ≤ s.port.unsent.length) : (State.sendBytes count s).afterBytes count acked =
    s.readOn count acked (s.port.unsent.take count) (s.port.unsent.drop count) := by
  rw [sendBytes_captured count left, ← afterBytes_readOn reading]
  simp only [State.onPort, fresh, List.nil_append]

/-- A part of a read with no captured byte left (R178). -/
theorem sendPart_live (noneLeft : s.port.unsent = []) : (State.sendBytes count s).afterBytes count acked =
    s.readOn count acked (s.liveBytes count) [] := by
  rw [sendBytes_live count noneLeft, ← afterBytes_readOn reading]
  simp only [State.onPort, fresh, noneLeft, List.nil_append]

end

/-- A read begins on the first byte of a record unit: the unit is captured (R178). -/
theorem beginRead_captures {s : State} {size : Nat}
    (unit : unitOf s.port.pointer.toNat = some (s.port.pointer.toNat, size)) :
    s.beginRead = s.onPort (fun p => { p with
      reading := true
      capture := s.unitBytes s.port.pointer.toNat
      unsent := s.unitBytes s.port.pointer.toNat
      sent := [] }) := by
  simp only [State.beginRead, unit, if_true]

/-- A read that begins elsewhere captures nothing (R178). -/
theorem beginRead_live {s : State}
    (elsewhere : ∀ size, unitOf s.port.pointer.toNat ≠ some (s.port.pointer.toNat, size)) :
    s.beginRead = s.onPort (fun p => { p with reading := true, unsent := [], sent := [] }) := by
  cases unit : unitOf s.port.pointer.toNat with
  | none => simp only [State.beginRead, unit]
  | some found =>
    obtain ⟨base, size⟩ := found
    have inside : base ≠ s.port.pointer.toNat := fun same => elsewhere size (by rw [unit, same])
    simp only [State.beginRead, unit, if_neg inside]

/-! ### The register map (R192, R198, Table 13-6) -/

/-- The record units: the status block, the journal window, a roster entry, a point row, a condition entry (R178). -/
inductive RecordUnit where
  | status
  | window
  | roster (st : Station)
  | points (st : Station)
  | cond (st : Station) (c : CondIx)

/-- Where a record unit begins (Table 13-6). -/
def RecordUnit.base : RecordUnit → Nat
  | .status => 0
  | .window => 0x20
  | .roster st => 0x100 + 4 * st.val
  | .points st => 0x200 + 4 * st.val
  | .cond st c => 0x300 + 8 * st.val + c.val

/-- How many bytes a record unit has (Table 13-6). -/
def RecordUnit.size : RecordUnit → Nat
  | .status => 11
  | .window => 8
  | .roster _ => 4
  | .points _ => 4
  | .cond _ _ => 1

/-- What a record unit reads (Table 13-6). -/
def RecordUnit.bytes (s : State) : RecordUnit → List Byte
  | .status => s.statusBytes
  | .window => s.windowBytes
  | .roster st => (s.pic.roster.get st).bytes
  | .points st => s.rowBytes st
  | .cond st c => [(s.condEntry st c).byte]

/-- A record unit lies where the model's map places its first offset. -/
theorem unitOf_base (u : RecordUnit) : unitOf u.base = some (u.base, u.size) := by
  cases u with
  | status => rfl
  | window => rfl
  | roster st =>
    have first : (0x100 + 4 * st.val) % 4 = 0 := by omega
    rw [RecordUnit.base, RecordUnit.size, unitOf, first, if_neg (by omega), if_neg (by omega),
      if_pos (by omega), Nat.sub_zero]
  | points st =>
    have first : (0x200 + 4 * st.val) % 4 = 0 := by omega
    rw [RecordUnit.base, RecordUnit.size, unitOf, first, if_neg (by omega), if_neg (by omega),
      if_neg (by omega), if_pos (by omega), Nat.sub_zero]
  | cond st c =>
    rw [RecordUnit.base, RecordUnit.size, unitOf, if_neg (by omega), if_neg (by omega), if_neg (by omega),
      if_neg (by omega), if_pos (by omega)]

/-- An offset that lies in a record unit lies between the bounds of one of Table 13-6's. -/
theorem unitOf_some {off base size : Nat} (unit : unitOf off = some (base, size)) :
    (∃ u : RecordUnit, base = u.base ∧ size = u.size) ∧ base ≤ off ∧ off < base + size := by
  unfold unitOf at unit
  split_ifs at unit <;> obtain ⟨rfl, rfl⟩ := unit
  · exact ⟨⟨.status, rfl, rfl⟩, by omega, by omega⟩
  · exact ⟨⟨.window, rfl, rfl⟩, by omega, by omega⟩
  · exact ⟨⟨.roster ⟨(off - 0x100) / 4, by omega⟩, by simp only [RecordUnit.base]; omega, rfl⟩, by omega, by omega⟩
  · exact ⟨⟨.points ⟨(off - 0x200) / 4, by omega⟩, by simp only [RecordUnit.base]; omega, rfl⟩, by omega, by omega⟩
  · exact ⟨⟨.cond ⟨(off - 0x300) / 8, by omega⟩ ⟨off % 8, by omega⟩, by simp only [RecordUnit.base]; omega, rfl⟩,
      by omega, by omega⟩

/-- The bytes at the first offset of a record unit are the unit's. -/
theorem unitBytes_base (s : State) (u : RecordUnit) : s.unitBytes u.base = u.bytes s := by
  cases u with
  | status => rfl
  | window => rfl
  | roster st =>
    have own : Fin.ofNat 32 ((0x100 + 4 * st.val - 0x100) / 4) = st := Fin.ext (by simp [Fin.ofNat])
    simp only [RecordUnit.base, RecordUnit.bytes, State.unitBytes, own]
    rw [if_neg (by omega), if_neg (by omega), if_pos (by omega)]
  | points st =>
    have own : Fin.ofNat 32 ((0x200 + 4 * st.val - 0x200) / 4) = st := Fin.ext (by simp [Fin.ofNat])
    simp only [RecordUnit.base, RecordUnit.bytes, State.unitBytes, own]
    rw [if_neg (by omega), if_neg (by omega), if_neg (by omega), if_pos (by omega)]
  | cond st c =>
    have own : Fin.ofNat 32 ((0x300 + 8 * st.val + c.val - 0x300) / 8) = st := Fin.ext (by simp [Fin.ofNat]; omega)
    have place : Fin.ofNat 8 (0x300 + 8 * st.val + c.val) = c := Fin.ext (by simp [Fin.ofNat]; omega)
    simp only [RecordUnit.base, RecordUnit.bytes, State.unitBytes, own, place]
    rw [if_neg (by omega), if_neg (by omega), if_neg (by omega), if_neg (by omega)]

/-- A record reads eight bytes, whatever its kind (Table 13-5). -/
theorem length_record_bytes (r : Record) : r.bytes.length = 8 := by
  have fields : r.body.fieldBytes.length = 3 := by cases r.body <;> rfl
  simp [Record.bytes, fields]

/-- A record unit reads as many bytes as it has offsets. -/
theorem RecordUnit.length_bytes (s : State) (u : RecordUnit) : (u.bytes s).length = u.size := by
  cases u with
  | status => rfl
  | window =>
    rw [RecordUnit.bytes, State.windowBytes]
    split
    · exact length_record_bytes _
    · rfl
  | roster st => rfl
  | points st => rfl
  | cond st c => rfl

/-- As many bytes as the record unit at an offset has stand there. -/
theorem length_unitBytes (s : State) {off base size : Nat} (unit : unitOf off = some (base, size)) :
    (s.unitBytes base).length = size := by
  obtain ⟨⟨u, rfl, rfl⟩, -⟩ := unitOf_some unit
  rw [unitBytes_base, u.length_bytes]

/-- A register in a record unit is the unit's byte at its place (R198). -/
theorem getElem?_unitBytes (s : State) {off base size : Nat} (unit : unitOf off = some (base, size)) :
    (s.unitBytes base)[off - base]? = some (s.register off) := by
  obtain ⟨-, least, most⟩ := unitOf_some unit
  have inside : off - base < (s.unitBytes base).length := by
    rw [length_unitBytes s unit]
    omega
  simp only [State.register, unit]
  rw [List.getD_eq_getElem _ _ inside, List.getElem?_eq_getElem inside]

/-- An offset that lies in no region reads 00h (R177, R198). -/
theorem register_of_none (s : State) {off : Nat} (noUnit : unitOf off = none)
    (noRegister : ¬ (0x10 ≤ off ∧ off ≤ 0x13)) (noBuffer : ¬ (0x1000 ≤ off ∧ off < 0x1280)) : s.register off = 0 := by
  simp only [State.register, noUnit]
  rw [if_neg (by omega), if_neg (by omega), if_neg (by omega), if_neg (by omega), if_neg noBuffer]

/-- The low byte of a number. -/
theorem byteOf_mod (n : Nat) : byteOf (n % 256) = byteOf n :=
  BitVec.eq_of_toNat_eq (by simp [byteOf])

/-- The status block reads the number of the discarded frames and of the lost records high byte first (R191). -/
theorem statusBytes_eq (s : State) : s.statusBytes = [byteOf s.life.life.code, byteOf s.life.fault.code,
    byteOf s.own.val, byteOf s.journal.records.length, byteOf (s.journal.lost / 256), byteOf (s.journal.lost % 256),
    byteOf (s.frame.discarded / 256), byteOf (s.frame.discarded % 256), byteOf s.line.collisions,
    byteOf s.line.state.code, if s.out.latch then 1 else 0] := by
  have latch : byteOf (flag s.out.latch) = if s.out.latch then 1 else 0 := by cases s.out.latch <;> rfl
  rw [byteOf_mod, byteOf_mod, ← latch]
  rfl

/-- A flag counted with a weight. -/
theorem mul_flag (n : Nat) (b : Bool) : n * flag b = if b then n else 0 := by cases b <;> simp [flag]

/-- A mask of sixteen points in two bytes: each holds the bits of its eight points (R192). -/
theorem getLsbD_maskBytes (test : PointIx → Bool) : ∃ low high : Byte,
    maskBytes ((BitVec.ofBoolListLE (List.ofFn test)).setWidth 16) = [low, high] ∧
      (∀ p : PointIx, p.val / 8 = 0 → low.getLsbD (p.val % 8) = test p) ∧
      ∀ p : PointIx, p.val / 8 = 1 → high.getLsbD (p.val % 8) = test p := by
  refine ⟨_, _, rfl, fun p half => ?_, fun p half => ?_⟩
  · have place : 0 + p.val % 8 = p.val := by omega
    rw [BitVec.getLsbD_extractLsb', place, getLsbD_ofFn]
    simp; omega
  · have place : 8 + p.val % 8 = p.val := by omega
    rw [BitVec.getLsbD_extractLsb', place, getLsbD_ofFn]
    simp; omega

/-- A command that moves the port alone. -/
theorem exec_portAlone {c : Instr} {s : State} {p : Port} (runs : exec c s = .next (s.onPort fun _ => p)) :
    ∃ t, exec c s = .next t ∧ s.changesOnly [.port] t ∧ t.port = p :=
  ⟨_, runs, changesOnly_onPort (bs := []) (State.changesOnly_refl [] s) _, rfl⟩

section
variable {s : State} (held : s.held = false)
include held

/-- READ_CAPTURE runs its part of a read. -/
theorem exec_readCapture (part : ReadPart) : exec (.readCapture part) s = .next (s.readPart part) := exec_running _ held

/-- A read of the port's own address begins. -/
theorem exec_readStart (count : Nat) (acked : Bool) : exec (.readCapture (.start 0x5A count acked)) s =
    .next ((State.sendBytes count (s.beginTransaction [true]).beginRead).afterBytes count acked) := by
  rw [exec_readCapture held, State.readPart, if_pos (show (0x5A : BitVec 7) = Config.portAddress from rfl)]

/-- A read that begins on the first byte of a record unit sends from the unit as captured (R178). -/
theorem exec_readStart_captures {size count : Nat} (acked : Bool)
    (unit : unitOf s.port.pointer.toNat = some (s.port.pointer.toNat, size)) (inside : count ≤ size) :
    exec (.readCapture (.start 0x5A count acked)) s = .next (s.onPort fun p => { p with
      reading := decide (acked = true ∨ count = 0)
      capture := s.unitBytes s.port.pointer.toNat
      unsent := if acked = true ∨ count = 0 then (s.unitBytes s.port.pointer.toNat).drop count else []
      sent := (s.unitBytes s.port.pointer.toNat).take count
      acks := [true]
      pointer := p.pointer + BitVec.ofNat 16 count }) := by
  have covered : count ≤ (s.unitBytes s.port.pointer.toNat).length := by rwa [length_unitBytes s unit]
  rw [exec_readStart held, beginRead_captures (s := s.beginTransaction [true]) unit,
    sendPart_captured acked rfl rfl covered]
  rfl

/-- A read that begins elsewhere sends live bytes (R178). -/
theorem exec_readStart_live (count : Nat) (acked : Bool)
    (elsewhere : ∀ size, unitOf s.port.pointer.toNat ≠ some (s.port.pointer.toNat, size)) :
    exec (.readCapture (.start 0x5A count acked)) s = .next (s.onPort fun p => { p with
      reading := decide (acked = true ∨ count = 0)
      unsent := []
      sent := s.liveBytes count
      acks := [true]
      pointer := p.pointer + BitVec.ofNat 16 count }) := by
  rw [exec_readStart held, beginRead_live (s := s.beginTransaction [true]) elsewhere, sendPart_live acked rfl rfl rfl,
    State.readOn, ite_self]
  rfl

/-- A further part of a read in progress. -/
theorem exec_readMore (count : Nat) (acked : Bool) (reading : s.port.reading = true) :
    exec (.readCapture (.more count acked)) s =
      .next ((State.sendBytes count (s.onPort (fun p => { p with sent := [] }))).afterBytes count acked) := by
  rw [exec_readCapture held, State.readPart, if_pos reading]

end

/-- Settles O48: parts of a read by whether captured bytes are left, and the register map by `RecordUnit`. -/
theorem readsCaptureTheirUnit : Obligations.ReadsCaptureTheirUnit := by
  refine ⟨fun count acked s held => ⟨fun size unit inside => ?_, fun elsewhere => ?_, fun reading left => ?_,
    fun reading noneLeft => ?_, fun reading => ?_, ?_, fun address other => ?_⟩, fun s st c k => ?_,
    rfl, rfl, rfl, rfl, rfl, rfl⟩
  · obtain ⟨t, runs, only, port⟩ := exec_portAlone (exec_readStart_captures held acked unit inside)
    refine ⟨t, runs, only, port, ?_⟩
    rw [port, List.length_take, length_unitBytes s unit, Nat.min_eq_left inside]
  · exact exec_portAlone (exec_readStart_live held count acked elsewhere)
  · refine exec_portAlone ?_
    rw [exec_readMore held count acked reading,
      sendPart_captured (s := s.onPort fun p => { p with sent := [] }) acked reading rfl left]
    rfl
  · refine exec_portAlone ?_
    rw [exec_readMore held count acked reading,
      sendPart_live (s := s.onPort fun p => { p with sent := [] }) acked reading rfl noneLeft, State.readOn, ite_self,
      ← noneLeft]
    rfl
  · refine exec_portAlone ?_
    rw [exec_readCapture held, State.readPart, if_neg (by simp [reading])]
    rfl
  · exact exec_portAlone (exec_readCapture held .stop)
  · refine exec_portAlone ?_
    rw [exec_readCapture held, State.readPart, if_neg (show address ≠ Config.portAddress from other)]
    rfl
  · refine ⟨statusBytes_eq s, ?_, ?_, ?_, unitOf_base .status, unitOf_base .window, unitOf_base (.roster st),
      unitOf_base (.points st), unitOf_base (.cond st c), rfl, rfl, rfl, rfl, register_of_buffer s,
      fun base size unit => ?_, register_of_none s⟩
    · refine (unitBytes_base s (.roster st)).trans ?_
      simp only [RecordUnit.bytes, RosterEntry.bytes, mul_flag]
      rfl
    · obtain ⟨v0, v1, values, v0Bits, v1Bits⟩ := getLsbD_maskBytes fun p => (s.pointEntry st p).value
      obtain ⟨f0, f1, faults, f0Bits, f1Bits⟩ := getLsbD_maskBytes fun p => (s.pointEntry st p).quality == .fault
      refine ⟨v0, v1, f0, f1, (unitBytes_base s (.points st)).trans ?_, v0Bits, v1Bits, f0Bits, f1Bits⟩
      rw [RecordUnit.bytes, State.rowBytes, values, faults]
      rfl
    · refine (unitBytes_base s (.cond st c)).trans ?_
      simp only [RecordUnit.bytes, CondEntry.byte, condByte, mul_flag]
      rfl
    · obtain ⟨-, least, most⟩ := unitOf_some unit
      exact ⟨least, most, length_unitBytes s unit, getElem?_unitBytes s unit⟩

end Machine
end Sys2Proof
end

section
namespace Sys2Proof
namespace Machine

/-! ### The front of the queue (log entries 4, 14 and 16) -/

/-- With a command in front, a step answers that command's effect on the state with the queue's rest. -/
theorem step_of_front {c : Instr} {rest : List Instr} {s : State} (front : s.pending = c :: rest) :
    step s = .next (effect c (s.withPending rest)) := by
  rw [step_eq, front]

/-- Settles O1: no command's effect changes the queue it finds, which is the queue's rest. -/
theorem stepTakesTheFrontCommand : Obligations.StepTakesTheFrontCommand := by
  intro c rest s front
  exact ⟨by rw [step_of_front front, exec_eq_effect], _, step_of_front front, effect_pending c _⟩

end Machine
end Sys2Proof
end

section
namespace Sys2Proof
namespace Machine

/-! ### Templates parse exactly where they are spelled (R185) -/

/-- A digit's value is below ten, and its character is that many above 0. -/
theorem digitOf_eq_some {b : Byte} {n : Nat} : digitOf b = some n ↔ n < 10 ∧ b = BitVec.ofNat 8 (48 + n) := by
  rw [digitOf, Option.ite_none_right_eq_some, Option.some.injEq]
  constructor
  · rintro ⟨_, rfl⟩
    exact ⟨by omega, BitVec.eq_of_toNat_eq (by rw [BitVec.toNat_ofNat]; omega)⟩
  · rintro ⟨_, rfl⟩
    rw [BitVec.toNat_ofNat]
    omega

/-- An index is found exactly at its number. -/
theorem indexOf_eq_some {n k : Nat} {i : Fin n} : indexOf n k = some i ↔ i.val = k := by
  simp only [indexOf, Option.dite_none_right_eq_some, Option.some.injEq, Fin.ext_iff]
  exact ⟨fun ⟨_, same⟩ => same.symm, fun same => ⟨same ▸ i.isLt, same.symm⟩⟩

/-- The character of a digit reads as the digit. -/
theorem digitOf_digit {n : Nat} (small : n < 10) : digitOf (BitVec.ofNat 8 (48 + n)) = some n :=
  digitOf_eq_some.2 ⟨small, rfl⟩

/-- Two digits read spell the number they make. -/
theorem twoDigits_of_digitOf {tens ones : Byte} {a b : Nat} (ha : digitOf tens = some a) (hb : digitOf ones = some b) :
    twoDigits (10 * a + b) = [tens, ones] := by
  obtain ⟨-, rfl⟩ := digitOf_eq_some.1 ha
  obtain ⟨small, rfl⟩ := digitOf_eq_some.1 hb
  simp only [twoDigits, show (10 * a + b) / 10 = a by omega, show (10 * a + b) % 10 = b by omega]

/-- A byte is a literal character exactly where a template may hold it as one. -/
theorem isLiteral_iff {b : Byte} : isLiteral b = true ↔ (Piece.literal b).legal := by
  simp [isLiteral, Piece.legal, and_assoc]

/-- A piece in front of pieces that spell a template spells itself in front of them. -/
theorem spells_cons {p : Piece} {pieces : List Piece} {bytes : List Byte} (legal : p.legal)
    (rest : spells pieces bytes) : spells (p :: pieces) (p.text ++ bytes) := by
  obtain ⟨spelled, legals⟩ := rest
  exact ⟨by rw [List.flatMap_cons, spelled], List.forall_mem_cons.2 ⟨legal, legals⟩⟩

/-- A piece's text in front of a template parses as that piece in front of the template's. -/
theorem parseTemplate_text_append {p : Piece} (legal : p.legal) (rest : List Byte) :
    parseTemplate (p.text ++ rest) = (parseTemplate rest).map (p :: ·) := by
  have index : ∀ {n : Nat} (i : Fin n), indexOf n i.val = some i := fun _ => indexOf_eq_some.2 rfl
  have tens : ∀ {n : Nat}, n < 100 → digitOf (BitVec.ofNat 8 (48 + n / 10)) = some (n / 10) :=
    fun _ => digitOf_digit (by omega)
  have ones : ∀ n : Nat, digitOf (BitVec.ofNat 8 (48 + n % 10)) = some (n % 10) := fun _ => digitOf_digit (by omega)
  cases p with
  | literal b =>
    have notAt : b ≠ 0x40#8 := by
      rintro rfl
      simp [Piece.legal] at legal
    simp [Piece.text, parseTemplate, notAt, isLiteral_iff.2 legal, Option.map_eq_bind]
  | point st p =>
    have text : (Piece.point st p).text ++ rest = 0x40#8 :: 0x50#8 :: BitVec.ofNat 8 (48 + st.val / 10) ::
      BitVec.ofNat 8 (48 + st.val % 10) :: 0x2E#8 :: BitVec.ofNat 8 (48 + p.val / 10) ::
      BitVec.ofNat 8 (48 + p.val % 10) :: rest := rfl
    rw [text, parseTemplate, tens (by omega), ones, tens (by omega), ones]
    simp [Nat.div_add_mod, index, Option.map_eq_bind]
  | alarm st c =>
    have text : (Piece.alarm st c).text ++ rest = 0x40#8 :: 0x41#8 :: BitVec.ofNat 8 (48 + st.val / 10) ::
      BitVec.ofNat 8 (48 + st.val % 10) :: 0x2E#8 :: BitVec.ofNat 8 (48 + c.val) :: rest := rfl
    rw [text, parseTemplate, tens (by omega), ones, digitOf_digit (by omega)]
    simp [Nat.div_add_mod, index, Option.map_eq_bind]
  | _ => exact (Option.map_eq_bind ..).symm

/-- A template that parses is spelled by its pieces. -/
theorem spells_of_parseTemplate {bytes : List Byte} {pieces : List Piece} (parses : parseTemplate bytes = some pieces) :
    spells pieces bytes := by
  induction bytes using parseTemplate.induct generalizing pieces with
  | case1 =>
    cases parses
    exact ⟨rfl, by simp⟩
  | case2 s1 s0 p1 p0 rest ih =>
    simp only [parseTemplate, Option.bind_eq_bind, Option.bind_eq_some_iff, indexOf_eq_some] at parses
    obtain ⟨a, ha, b, hb, c, hc, d, hd, st, stAt, p, pAt, more, rest, is⟩ := parses
    cases is
    have text : (Piece.point st p).text = [0x40, 0x50, s1, s0, 0x2E, p1, p0] := by
      rw [Piece.text, stAt, pAt, twoDigits_of_digitOf ha hb, twoDigits_of_digitOf hc hd]
      rfl
    simpa [text] using spells_cons (p := .point st p) trivial (ih rest)
  | case3 s1 s0 c0 rest ih =>
    simp only [parseTemplate, Option.bind_eq_bind, Option.bind_eq_some_iff, indexOf_eq_some] at parses
    obtain ⟨a, ha, b, hb, c, hc, st, stAt, k, kAt, more, rest, is⟩ := parses
    cases is
    have text : (Piece.alarm st k).text = [0x40, 0x41, s1, s0, 0x2E, c0] := by
      rw [Piece.text, stAt, kAt, twoDigits_of_digitOf ha hb, ← (digitOf_eq_some.1 hc).2]
      rfl
    simpa [text] using spells_cons (p := .alarm st k) trivial (ih rest)
  | case4 rest ih | case5 rest ih | case6 rest ih | case7 rest ih | case8 rest ih | case9 rest ih =>
    obtain ⟨more, rest, is⟩ := Option.bind_eq_some_iff.1 parses
    cases is
    exact spells_cons trivial (ih rest)
  | case10 b rest _ _ _ _ _ _ _ _ literal ih =>
    have legal := isLiteral_iff.1 literal
    obtain ⟨more, rest, rfl⟩ := Option.map_eq_some_iff.1 ((parseTemplate_text_append legal rest).symm.trans parses)
    exact spells_cons legal (ih rest)
  | case11 b rest =>
    simp [parseTemplate, *] at parses

/-- A template parses as given pieces exactly where they spell it (R185). -/
theorem parseTemplate_eq_some_iff {bytes : List Byte} {pieces : List Piece} :
    parseTemplate bytes = some pieces ↔ spells pieces bytes := by
  refine ⟨spells_of_parseTemplate, ?_⟩
  rintro ⟨rfl, legal⟩
  induction pieces with
  | nil => rfl
  | cons p pieces ih =>
    obtain ⟨first, others⟩ := List.forall_mem_cons.1 legal
    rw [List.flatMap_cons, parseTemplate_text_append first, ih others, Option.map_some]

end Machine
end Sys2Proof
end

section
namespace Sys2Proof
namespace Machine

/-! ### How a line is cut and what a piece renders (R187, R188, Table 12-2) -/

/-- A digit below ten is the character that many above 0. -/
theorem digitChar_of_lt {n : Nat} (small : n < 10) : digitChar n = BitVec.ofNat 8 (48 + n) := by
  rw [digitChar, if_pos small, byteOf]

/-- A decimal digit's character is one of 0 to 9 and stands for the digit. -/
theorem toNat_digitChar {n : Nat} (small : n < 10) : (digitChar n).toNat = 48 + n := by
  rw [digitChar_of_lt small, BitVec.toNat_ofNat]
  omega

/-- Decimal digits are characters 0 to 9. -/
theorem mem_decimal {fuel n : Nat} {d : Byte} (mem : d ∈ decimal fuel n) : 48 ≤ d.toNat ∧ d.toNat ≤ 57 := by
  have digit : ∀ {k : Nat}, k < 10 → 48 ≤ (digitChar k).toNat ∧ (digitChar k).toNat ≤ 57 := fun {k} small => by
    rw [toNat_digitChar small]
    omega
  induction fuel generalizing n with
  | zero =>
    rw [List.mem_singleton.1 mem]
    exact digit (by omega)
  | succ fuel ih =>
    rw [decimal] at mem
    split at mem
    · rename_i small
      rw [List.mem_singleton.1 mem]
      exact digit small
    · rcases List.mem_append.1 mem with high | last
      · exact ih high
      · rw [List.mem_singleton.1 last]
        exact digit (by omega)

/-- A number has at least one decimal digit. -/
theorem decimal_ne_nil (fuel n : Nat) : decimal fuel n ≠ [] := by
  cases fuel with
  | zero => exact List.cons_ne_nil _ _
  | succ fuel =>
    rw [decimal]
    split <;> simp

/-- Enough decimal digits read as their number. -/
theorem foldl_decimal {fuel n : Nat} (fits : n < 10 ^ (fuel + 1)) :
    (decimal fuel n).foldl (fun n d => 10 * n + (d.toNat - 48)) 0 = n := by
  induction fuel generalizing n with
  | zero =>
    rw [decimal, List.foldl_cons, List.foldl_nil, toNat_digitChar (by omega)]
    omega
  | succ fuel ih =>
    rw [decimal]
    split
    · rename_i small
      rw [List.foldl_cons, List.foldl_nil, toNat_digitChar small]
      omega
    · rw [List.foldl_append, ih (by rw [pow_succ] at fits; omega), List.foldl_cons, List.foldl_nil,
        toNat_digitChar (by omega)]
      omega

/-- A number that is not zero has no leading zero. -/
theorem head?_decimal {fuel n : Nat} (pos : 0 < n) (fits : n < 10 ^ (fuel + 1)) : (decimal fuel n).head? ≠ some 48 := by
  have digit : ∀ {k : Nat}, 0 < k → k < 10 → some (digitChar k) ≠ some 48 := fun {k} pos small same => by
    have := toNat_digitChar small
    rw [Option.some.inj same] at this
    change 48 = 48 + k at this
    omega
  induction fuel generalizing n with
  | zero =>
    rw [decimal, List.head?_cons]
    exact digit (by omega) (by omega)
  | succ fuel ih =>
    rw [decimal]
    split
    · exact digit pos ‹_›
    · rw [List.head?_append_of_ne_nil _ (decimal_ne_nil fuel _)]
      exact ih (by omega) (by rw [pow_succ] at fits; omega)

/-- Where a number has several decimal digits, the first is no zero. -/
theorem decimal_noLeadingZero {fuel n : Nat} (fits : n < 10 ^ (fuel + 1)) (several : 1 < (decimal fuel n).length) :
    (decimal fuel n).head? ≠ some 48 := by
  refine head?_decimal (Nat.pos_of_ne_zero ?_) fits
  rintro rfl
  cases fuel <;> simp [decimal] at several

/-- A piece other than a tab adds what it renders to the line. -/
theorem addPiece_of_ne_tab (s : State) (j : Job) (line : List Byte) {p : Piece} (noTab : p ≠ .literal 0x09) :
    s.addPiece j line p = line ++ s.renderPiece j p :=
  if_neg noTab

/-- A tab fills the line with one to eight spaces up to a multiple of 8 (R187). -/
theorem addPiece_tab (s : State) (j : Job) (line : List Byte) : ∃ n, 1 ≤ n ∧ n ≤ 8 ∧ (line.length + n) % 8 = 0 ∧
    s.addPiece j line (.literal 0x09) = line ++ List.replicate n 0x20 :=
  ⟨8 - line.length % 8, by omega, by omega, by omega, if_pos rfl⟩

/-- A line of at most 96 characters stands whole (R188). -/
theorem cutLine_short {line : List Byte} (short : line.length ≤ 96) : cutLine line = line := if_pos short

/-- A longer line keeps its first 95 characters and ends in ~ (R188). -/
theorem cutLine_long {line : List Byte} (long : 96 < line.length) : cutLine line = line.take 95 ++ [0x7E] :=
  if_neg (Nat.not_le.2 long)

/-- A template that parses gives the line its pieces add up to, cut, and CR LF behind it. -/
theorem composeLine_of_parses {s : State} {j : Job} {pieces : List Piece}
    (parses : parseTemplate (s.settings.templates.get j.template) = some pieces) :
    s.composeLine j = cutLine (pieces.foldl (s.addPiece j) []) ++ [0x0D, 0x0A] := by
  rw [State.composeLine, parses, Option.getD_some]

/-- What @Pss.pp renders (Table 12-2). -/
theorem renderPoint_eq (e : PointEntry) : renderPoint e = ascii (if e.quality = .unknown then "?"
    else if e.quality = .fault then "F" else if e.value then "1" else "0") := by
  obtain ⟨value, quality⟩ := e
  cases quality <;> cases value <;> rfl

/-- What @Ass.c renders (Table 12-2). -/
theorem renderCond_eq (e : CondEntry) : renderCond e = ascii (if e.quality ≠ .good then "????" else match e.state with
    | .normal => "NORM"
    | .alertUnack => "ALRT"
    | .alertAck => "ACKD"
    | .returnUnack => "RTRN"
    | .unused => "UNUS") := by
  unfold renderCond
  split
  · rfl
  · cases e.state <;> rfl

/-- What @E renders (Table 12-2). -/
theorem renderPiece_event (s : State) (j : Job) :
    s.renderPiece j .event = ascii (if j.trigger = .alert then "ALRT" else "CLR") := by
  cases trigger : j.trigger <;> simp only [State.renderPiece, trigger] <;> rfl

/-- What @C renders (Table 12-2). -/
theorem renderPiece_cond (s : State) (j : Job) : s.renderPiece j .cond = [BitVec.ofNat 8 (48 + j.cond.val)] := by
  rw [State.renderPiece, digitChar_of_lt (by omega)]

/-- What @G renders: a hexadecimal digit (Table 12-2). -/
theorem renderPiece_gen (s : State) (j : Job) :
    s.renderPiece j .gen = [BitVec.ofNat 8 (if j.gen.val < 10 then 48 + j.gen.val else 55 + j.gen.val)] := by
  rw [State.renderPiece, digitChar, byteOf]
  split
  · rfl
  · rw [show 0x41 + (j.gen.val - 10) = 55 + j.gen.val by omega]

/-- What @S renders: the own station number in two digits (Table 12-2). -/
theorem renderPiece_own (s : State) (j : Job) : s.renderPiece j .own = twoDigits s.own.val := by
  rw [State.renderPiece, digitChar_of_lt (by omega), digitChar_of_lt (by omega), twoDigits]

/-- What @T renders: seven digits hold every count in seconds (Table 12-2). -/
theorem renderPiece_time (s : State) (j : Job) : ∃ digits, s.renderPiece j .time = digits ∧ digits ≠ [] ∧
    (∀ d ∈ digits, 48 ≤ d.toNat ∧ d.toNat ≤ 57) ∧
    digits.foldl (fun n d => 10 * n + (d.toNat - 48)) 0 = j.time.toNat / 1000 ∧
    (1 < digits.length → digits.head? ≠ some 48) := by
  have fits : j.time.toNat / 1000 < 10 ^ (6 + 1) := by omega
  exact ⟨_, rfl, decimal_ne_nil _ _, fun _ => mem_decimal, foldl_decimal fits, decimal_noLeadingZero fits⟩

end Machine
end Sys2Proof
end

section
namespace Sys2Proof
namespace Machine

/-! ### TXD and the end of a line (R187, R189, R190) -/

/-- A character takes ten bit times on TXD. -/
theorem length_txdLevels (b : Byte) : (txdLevels b).length = 10 := by
  simp [txdLevels]

/-- A line takes ten bit times a character on TXD. -/
theorem length_flatMap_txdLevels (line : List Byte) : (line.flatMap txdLevels).length = 10 * line.length := by
  simp [List.length_flatMap, length_txdLevels, Nat.mul_comm]

/-- TXD rests at its idle level with no line in sending (R190). -/
theorem txdAt_of_noLine {r : ReportUnit} (noLine : r.line = none) (n : Nat) : r.txdAt n = .idle := by
  rw [ReportUnit.txdAt, noLine]

/-- Each bit time of a character on TXD is that of the character alone, behind the characters before it. -/
theorem txdAt_character {r : ReportUnit} {before after : List Byte} {b : Byte}
    (line : r.line = some (before ++ b :: after)) {k : Nat} (inside : k < 10) :
    r.txdAt (10 * before.length + k) = (txdLevels b).getD k .idle := by
  have ahead := length_flatMap_txdLevels before
  simp only [ReportUnit.txdAt, line, List.flatMap_append, List.flatMap_cons]
  rw [List.getD_append_right _ _ _ _ (by omega), ahead, Nat.add_sub_cancel_left,
    List.getD_append _ _ _ _ (by rw [length_txdLevels]; exact inside)]

/-- Past its line's last stop bit TXD rests at its idle level. -/
theorem txdAt_past {r : ReportUnit} {line : List Byte} (sending : r.line = some line) {n : Nat}
    (past : 10 * line.length ≤ n) : r.txdAt n = .idle := by
  simp only [ReportUnit.txdAt, sending]
  exact List.getD_eq_default _ _ (by rw [length_flatMap_txdLevels]; exact past)

/-- A data bit stands behind the start bit at its place from the least significant on. -/
theorem txdLevels_data (b : Byte) {k : Nat} (data : k < 8) :
    (txdLevels b).getD (1 + k) .idle = if b.getLsbD k then .idle else .active := by
  rw [txdLevels, Nat.add_comm, List.getD_cons_succ, List.getD_append _ _ _ _ (by simpa using data)]
  simp [data, txdBit]

/-- The end of a line in sending leaves the unit IDLE with no job waiting, and otherwise sends the oldest job's line
(R187, R189). -/
theorem reportLineEnd_report {s : State} {line : List Byte} (sending : s.report.line = some line) :
    s.reportLineEnd.report = match s.report.jobs with
      | [] => { s.report with line := none }
      | j :: rest => ⟨rest, some (s.composeLine j), s.clock⟩ := by
  simp only [State.reportLineEnd, State.startReport, sending, State.onReport_report]
  cases waiting : s.report.jobs with
  | nil => simp [waiting]
  | cons j rest => rfl

/-- The end of a line changes the Report Unit alone. -/
theorem reportLineEnd_changesOnly (s : State) : s.changesOnly [.report] s.reportLineEnd := by
  intro b hb
  cases b <;> simp at hb <;> simp [Block.same]

/-- Settles O50: the end of a line by its next job, the cut by the line's length, templates by `spells`, and each piece
and each bit time of TXD by its own lemma. -/
theorem reportLineEndStartsTheNextJob : Obligations.ReportLineEndStartsTheNextJob := by
  refine ⟨fun line s free sending => ?_, fun s j pieces parses => ?_, fun bytes pieces => parseTemplate_eq_some_iff,
    fun s j line st p c b => ?_, fun r n => ⟨fun noLine => txdAt_of_noLine noLine n, fun before after b sending => ?_⟩,
    fun s => rfl⟩
  · refine ⟨_, exec_running _ free, reportLineEnd_changesOnly s, fun empty => ?_, fun j rest queued => ?_⟩
    · rw [effectRunning, reportLineEnd_report sending, empty]
    · rw [effectRunning, reportLineEnd_report sending, queued]
  · refine ⟨fun short => ?_, fun long => ?_, fun empty => ?_⟩
    · rw [composeLine_of_parses parses, cutLine_short short]
    · rw [composeLine_of_parses parses, cutLine_long long, List.append_assoc]
      rfl
    · rw [empty] at parses
      cases parses
      rw [composeLine_of_parses (by rw [empty]; rfl)]
      rfl
  · have renders : ∀ {piece : Piece} {bytes : List Byte}, piece ≠ .literal 0x09 → s.renderPiece j piece = bytes →
        s.addPiece j line piece = line ++ bytes := fun noTab rendered =>
      rendered ▸ addPiece_of_ne_tab s j line noTab
    obtain ⟨digits, rendered, number⟩ := renderPiece_time s j
    exact ⟨fun noTab => renders (by simpa using noTab) rfl, addPiece_tab s j line,
      renders (by simp) (renderPoint_eq _), renders (by simp) (renderCond_eq _),
      renders (by simp) (renderPiece_event s j), renders (by simp) (renderPiece_cond s j),
      renders (by simp) (renderPiece_gen s j), renders (by simp) (renderPiece_own s j), renders (by simp) rfl, digits, renders (by simp) rendered, number⟩
  · refine ⟨txdAt_character sending (k := 0) (by omega), txdAt_character sending (k := 9) (by omega),
      fun k data => ?_, txdAt_past sending⟩
    rw [Nat.add_assoc, txdAt_character sending (by omega), txdLevels_data b data]

end Machine
end Sys2Proof
end
